-- ==== Sys2Proof/Word.lean ====
section
/-! DEFINITION. The plain data types every file of the model uses: bytes, words, colours and fixed-length banks of state. -/

namespace Sys2Proof

/-- One byte of frame memory or of a record (R193). -/
abbrev Byte := BitVec 8

/-- A 16-bit field: a tag, a capture sequence (00_scope, "Counters and sequence numbers"). -/
abbrev Half := BitVec 16

/-- A 32-bit field: a link register, a counter, the wall frame number. -/
abbrev Word := BitVec 32

/-- A set of the eight alarm groups, bit i for group i (R193, "Set of groups"). -/
abbrev Groups := BitVec 8

/-- A 24-bit colour (00_scope, "Colours"). -/
structure Colour where
  r : Byte
  g : Byte
  b : Byte
deriving DecidableEq, Repr

/-- The colour with every component 0. -/
def Colour.black : Colour := ⟨0, 0, 0⟩

/-- One entry of a bank of `n` replaced. -/
def vset {α : Type} {n : Nat} (v : Vector α n) (i : Fin n) (x : α) : Vector α n :=
  v.set i.val x i.isLt

@[simp] theorem vset_get {α : Type} {n : Nat} (v : Vector α n) (i : Fin n) (x : α) :
    (vset v i x)[i] = x := by
  simp [vset]

theorem vset_get_of_ne {α : Type} {n : Nat} (v : Vector α n) {i j : Fin n} (x : α) (h : j ≠ i) :
    (vset v i x)[j] = v[j] := by
  have : i.val ≠ j.val := fun e => h (Fin.ext e.symm)
  simp [vset, this]

end Sys2Proof
end

