-- ==== Sys2Proof/Syntax.lean ====
section
/-! DEFINITION. The commands of the AW3216: one constructor of `Instr` for each row of spec/opcode_table.json, in the table's order. The part is a block: a command is a register write, a BAR 2 access, an event on a pin or an event of one of its own blocks. -/

namespace Sys2Proof

/-- A write to a link register: 32 data bits and one enable per byte. R177: "A write of fewer than four bytes
acts as a write of the whole register, with the bytes not written taken as 0." -/
structure RegWrite where
  data  : Word
  bytes : BitVec 4
deriving DecidableEq, Repr

/-- A read or write of frame memory through BAR 2 (R18). -/
inductive Bar2Op where
  | read  (addr : Nat) (len : Nat)
  | write (addr : Nat) (data : List Byte)
deriving DecidableEq, Repr

/-- A millisecond interval that arrives together with a wall frame start, and which of the two each block takes first
(R3, R59, R98, R130; notes/assumptions/32.md). -/
structure TogetherInterval where
  /-- Bit i is the level of contact Ai, 1 for high (R125). -/
  high : Groups
  /-- The alarm contact unit takes the interval first (R130). -/
  alarmsFirst : Bool
  /-- A change of the raised set that the interval makes reaches the builder before its swap (R59). -/
  builderFirst : Bool
  /-- The source unit takes the interval first (R98). -/
  sourcesFirst : Bool
  /-- Bit c: capture input c takes the interval first (R113). -/
  inputsFirst : BitVec 16
deriving DecidableEq, Repr

/-- How what arrives together with a wall frame start is taken (R3, R58, R59; notes/assumptions/5.md, 32.md). -/
structure FrameOrder where
  /-- A change of the raised set made by the clears that commit here reaches the builder before its swap (R59). -/
  setFirst : Bool
  /-- The builder finishes the last tile of its build at this very moment and takes the wall frame start first (R58);
  a build that is finished first is a TILE_BUILT before this command. -/
  lastTile : Bool
  /-- The millisecond interval that arrives together with this wall frame start, when one does (R3). -/
  interval : Option TogetherInterval
deriving DecidableEq, Repr

/-- The commands. Each operand is what the outside brings to the event (a written word, a contact level, a pixel)
or which of several alike units the event concerns; everything else a command needs stands in the state. -/
inductive Instr where
  /-- POWER_ON_RESET (R188). R188 leaves the contents of frame memory undefined: `dram` brings them. -/
  | powerOnReset (dram : List Host.Cell)
  /-- RESET_PIN (R188). `cut`: a write was being carried out at that moment (R19) and the bytes of it whose bit
  is set in the mask had been written; `none`: no write was being carried out. -/
  | resetPin (cut : Option Nat)
  /-- PCIE_LINK_RESET (R189). `msiInFlight`: an MSI was being sent when the link reset. -/
  | pcieLinkReset (msiInFlight : Bool)
  /-- LOAD (R180): a CONTROL write with LOAD set and STOP clear; `start` is its START bit (R179). -/
  | load (start : Bool)
  /-- START (R183): a CONTROL write with START alone (R179). -/
  | start
  /-- STOP (R184): a CONTROL write with STOP set; `load` and `start` are its other bits (R179). -/
  | stop (load : Bool) (start : Bool)
  /-- LOAD_END (R182). -/
  | loadEnd
  /-- HELD_START (R179). -/
  | heldStart
  /-- CAUSE_CLEAR (R186). -/
  | causeClear (w : RegWrite)
  /-- CAUSE_ENABLE_WRITE (R187). -/
  | causeEnableWrite (w : RegWrite)
  /-- AREA_BASE_WRITE (R185). -/
  | areaBaseWrite (w : RegWrite)
  /-- ATTEND (R185). -/
  | attend (w : RegWrite)
  /-- RESET_REASON_CLEAR (R190). -/
  | resetReasonClear (w : RegWrite)
  /-- IGNORED_REGISTER_WRITE (R177): a write at a BAR 0 byte offset. -/
  | ignoredRegisterWrite (offset : BitVec 12) (w : RegWrite)
  /-- BAR2_ACCESS (R18). -/
  | bar2Access (op : Bar2Op)
  /-- TRANSFER_GRANT (R16). -/
  | transferGrant
  /-- WALL_FRAME_START (R1), with the orders inside this step that the rules leave open, and the millisecond interval that
  arrives together with it, when one does (R3). -/
  | wallFrameStart (order : FrameOrder)
  /-- MILLISECOND_INTERVAL (R3) that arrives apart from a wall frame start. Bit i of `high` is the level of contact Ai, 1
  for high (R125). -/
  | millisecondInterval (high : Groups)
  /-- DEBOUNCED_ASSERT (R127) of alarm input i. -/
  | debouncedAssert (i : Fin 8)
  /-- DEBOUNCED_RELEASE (R127) of alarm input i. -/
  | debouncedRelease (i : Fin 8)
  /-- LOSS_OF_SIGNAL (R113) of capture input c. -/
  | lossOfSignal (c : Fin 16)
  /-- STALE_LIMIT_REACHED (R97) of a source. -/
  | staleLimitReached (src : Fin 32)
  /-- EXPIRY (R96) of a source. -/
  | expiry (src : Fin 32)
  /-- MEMORY_HEADER_READ (R95) of memory source Mm. -/
  | memoryHeaderRead (m : Fin 16)
  /-- LINE_START (R12) of tile t. -/
  | lineStart (t : Fin 16)
  /-- ROW_COMPOSED (R12) of tile t. -/
  | rowComposed (t : Fin 16)
  /-- FRAME_START_MARK (R116) of capture input c. -/
  | frameStartMark (c : Fin 16)
  /-- CAPTURE_LOCK (R111) of capture input c. -/
  | captureLock (c : Fin 16)
  /-- CONGESTION_HALVED (R119) of capture input c. -/
  | congestionHalved (c : Fin 16)
  /-- CONGESTION_NORMAL (R119) of capture input c. -/
  | congestionNormal (c : Fin 16)
  /-- LINE_START_MARK (R115) of capture input c. -/
  | lineStartMark (c : Fin 16)
  /-- PIXEL (R114) received by capture input c. -/
  | pixel (c : Fin 16) (p : Colour)
  /-- GOOD_FRAME_REPORT (R117) of capture input c. -/
  | goodFrameReport (c : Fin 16)
  /-- CAPTURE_PUBLICATION (R89) of capture source c. -/
  | capturePublication (c : Fin 16)
  /-- TILE_BUILT (R48). -/
  | tileBuilt
  /-- NOP (R160): the slot a look has read is a NOP. -/
  | nop
  /-- TAKE_SCENE (R166). -/
  | takeScene
  /-- PUT_WINDOW (R161). -/
  | putWindow
  /-- REMOVE_WINDOW (R162). -/
  | removeWindow
  /-- RESTACK (R163). -/
  | restack
  /-- SAVE_SCENE (R169). -/
  | saveScene
  /-- FREEZE (R171). -/
  | freeze
  /-- CLEAR_ALARM (R172). -/
  | clearAlarm
  /-- SOURCE_CONFIG (R174). -/
  | sourceConfig
  /-- CLEAR_WALL (R164). -/
  | clearWall
  /-- BAD_KIND (R145). -/
  | badKind
  /-- SLOT_NOT_POSTED (R146). -/
  | slotNotPosted
  /-- SKIPPED_SLOT (R149). -/
  | skippedSlot
  /-- CHAIN_TIMEOUT (R146). -/
  | chainTimeout
  /-- SKIP_TIMEOUT (R149). -/
  | skipTimeout
  /-- WRITE_BACK_DONE (R154). -/
  | writeBackDone
  /-- ABORT_RETURN_DONE (R150). -/
  | abortReturnDone
deriving DecidableEq, Repr

end Sys2Proof
end

