-- ==== Sys2Proof/Config.lean ====
section
/-! DEFINITION. What is fixed for every AW3216: identification values, capacities and thresholds that the spec states as numbers. -/

namespace Sys2Proof.Config

/-- IDENT reads this in every state (R177). -/
def ident : Word := 0x41573201

/-- The configuration marker (R193). -/
def configMarker : Nat := 0x47435741

/-- The scene marker (R193). -/
def sceneMarker : Nat := 0x43535741

/-- Bytes of frame memory (00_scope, "Ports"). -/
def memSize : Nat := 4294967296

/-- A 4 KiB unit (00_scope, "Sizes"). -/
def unit : Nat := 4096

/-- The aligned block within which a transfer lies (R15). -/
def blockSize : Nat := 256

/-- Bytes 0 to 1375 of the configuration block are read (R196). -/
def configBytes : Nat := 1376

/-- Limit SPANS_PER_BAND (R48). -/
def maxSpansPerBand : Nat := 40

/-- Limit BANDS (R48). -/
def maxBands : Nat := 128

/-- The pool of spans of one bank (R49). -/
def poolSpans : Nat := 6144

/-- The step clamp, 16.0 in 16.16 (R68). -/
def stepClamp : Nat := 1048576

/-- The largest step that is BILINEAR, 4.0 in 16.16 (R69). -/
def bilinearMax : Nat := 262144

/-- Millisecond intervals without a frame-start mark after which the signal is lost (R113). -/
def lossLimit : Nat := 250

/-- Wall frame starts without a posted slot after which a chain times out (R146, R149). -/
def chainWaitLimit : Nat := 8

/-- Torn frames in a row that halve an input (R119). -/
def tornLimit : Nat := 2

/-- Clean written frames that return an input to NORMAL (R119). -/
def cleanLimit : Nat := 16

/-- Lines the line FIFO of a capture input holds (R115). -/
def fifoLines : Nat := 4

/-- Age stays at this value (R98). -/
def maxAge : Nat := 65535

end Sys2Proof.Config
end

