-- ==== Sys2Proof/Machine/State.lean ====
section
/-! DEFINITION. The state of the AW3216 as plain data, its value after a power-on reset, and the reasons a step can stop. Every field names the rule of spec/ that gives it. -/

namespace Sys2Proof.Machine

open Sys2Proof

/-! ## Link registers and part state (chapter 10) -/

/-- The part state (R177, CONTROL bits 1:0). -/
inductive PartState where
  | halted
  | loading
  | ready
  | running
deriving DecidableEq, Repr

/-- The part state, the load in progress and what CONTROL reads back (R178 to R182). -/
structure Control where
  part       : PartState
  faultCode  : Byte
  faultIndex : Byte
  /-- A START held from a write of LOAD and START together (R179). -/
  heldStart  : Bool
  /-- The bytes of the configuration block that the load in progress has read, in order (R180). -/
  loadBytes  : List Byte
deriving DecidableEq, Repr

/-- An MSI: one posted write of the PCIe endpoint (R187). -/
structure Msi where
  address : BitVec 64
  data    : Word
deriving DecidableEq, Repr

/-- The other link registers (R177) and the PCIe endpoint (R187, R18). -/
structure Link where
  cause       : BitVec 8
  causeEnable : BitVec 8
  areaBase    : Word
  /-- Bit 0 POWER, bit 1 PIN, bit 2 LINK. -/
  resetReason : BitVec 3
  /-- The endpoint's MSI capability (R187): whether it is enabled, and the address and data placed in it. -/
  msiEnabled  : Bool
  msiAddress  : BitVec 64
  msiData     : Word
  /-- The MSIs the endpoint has sent, oldest first (the model's record of its output). -/
  msiSent     : List Msi
  /-- What the endpoint's last BAR 2 read transfer returned (the model's record of its output). -/
  bar2Data    : List Byte
deriving DecidableEq, Repr

/-! ## Frame memory and its port (section 1.5) -/

/-- Frame memory: the bytes that are not 0, addresses strictly rising. An address not listed reads 0. -/
abbrev Memory := List Host.Cell

/-- What a transfer does (R15). -/
inductive XferOp where
  | read (len : Nat)
  | write (data : List Byte)
  /-- A write with byte enables: a byte that is `none` stays as it is (notes/assumptions/27.md). -/
  | merge (data : List (Option Byte))
deriving DecidableEq, Repr

/-- A transfer (R15). `tag` is the requester's own note of what it issued the transfer for. -/
structure Transfer where
  addr : Nat
  op   : XferOp
  tag  : Nat
deriving DecidableEq, Repr

/-- The port: a round-robin pointer for each class (R17) and each requester's transfers in the order it issues
them. The head of a list is the transfer that waits at the port; the rest are issued one after another, each when
the port has granted the one before (R15). -/
structure Port where
  tilePtr    : Fin 16
  capturePtr : Fin 16
  /-- Control requesters in cyclic order (R17): 0 PCIe endpoint, 1 ring processor, 2 status writer, 3 source unit,
  4 load sequence. -/
  controlPtr : Fin 5
  tile       : Vector (List Transfer) 16
  capture    : Vector (List Transfer) 16
  control    : Vector (List Transfer) 5
deriving DecidableEq, Repr

/-- The control requesters (R15, R17). -/
abbrev pcieEndpoint : Fin 5 := 0
/-- See `pcieEndpoint`. -/
abbrev ringProcessor : Fin 5 := 1
/-- See `pcieEndpoint`. -/
abbrev statusWriter : Fin 5 := 2
/-- See `pcieEndpoint`. -/
abbrev sourceUnit : Fin 5 := 3
/-- See `pcieEndpoint`. -/
abbrev loadSequence : Fin 5 := 4

/-! ## The loaded configuration (chapters 1 and 11) -/

/-- A tile record (section 1.2). -/
structure TileRec where
  enable : Bool
  x : Nat
  y : Nat
  width : Nat
  height : Nat
deriving DecidableEq, Repr

/-- What a successful LOAD fixes until the next one: the period (R2), the colours (R83), the control areas (R138,
R182) and the tile records (R4). -/
structure Loaded where
  period     : Nat
  background : Colour
  stale      : Colour
  ringBase   : Nat
  ringCode   : Nat
  sceneBase  : Nat
  statusBase : Nat
  tiles      : Vector TileRec 16
deriving DecidableEq, Repr

/-! ## Windows (chapter 2) -/

/-- A window record (section 2.1). -/
structure WindowRec where
  id : Nat
  visible : Bool
  alarmOnly : Bool
  source : Nat
  mask : Groups
  x : Nat
  y : Nat
  w : Nat
  h : Nat
  sx : Nat
  sy : Nat
  sw : Nat
  sh : Nat
  border : Nat
  borderColour : Colour
  fillColour : Colour
deriving DecidableEq, Repr

/-- A window table (R27): the record of each id that is present, and the stacking list, bottom first. -/
structure Table where
  records : Vector (Option WindowRec) 64
  stack   : List (Fin 64)
deriving DecidableEq, Repr

/-- The table that holds no windows. -/
def Table.empty : Table := ⟨Vector.replicate 64 none, []⟩

/-! ## Band banks and the builder (chapter 3) -/

/-- What a span shows (R38, R39). -/
inductive SpanKind where
  | background
  | border (id : Fin 64)
  | image (id : Fin 64)
deriving DecidableEq, Repr

/-- A span (R38). -/
structure Span where
  start : Nat
  len   : Nat
  kind  : SpanKind
deriving DecidableEq, Repr

/-- A band (R38). -/
structure Band where
  start : Nat
  spans : List Span
deriving DecidableEq, Repr

/-- The mark of a tile in a bank (R40). -/
inductive Mark where
  | normal
  | fallback
  | degraded
deriving DecidableEq, Repr

/-- A tile's band table with its mark. Its band count and span count (R40) are read off the bands. -/
structure TileTable where
  bands : List Band
  mark  : Mark
deriving DecidableEq, Repr

/-- A band bank (R38, R40): a band table for each enabled tile, and the built-with set. -/
structure Bank where
  builtWith : Groups
  tiles     : Vector (Option TileTable) 16
deriving DecidableEq, Repr

/-- The kind of a build (section 3.3). -/
inductive BuildKind where
  | group
  | alarm
deriving DecidableEq, Repr

/-- The builder's state (section 3.3). A build in progress holds its kind and the next tile to be built; its
raised set is the built-with set of the shadow bank it builds. -/
inductive BuilderState where
  | idle
  | building (kind : BuildKind) (next : Nat)
  | donePending (kind : BuildKind)
deriving DecidableEq, Repr

/-- The builder and its banks. `none` is a bank that is unloaded (R41) or holds nothing in use. -/
structure Builder where
  state  : BuilderState
  active : Option Bank
  shadow : Option Bank
  /-- Count of successful builds (R62). -/
  built  : Word
  /-- Count of failed builds (R62). -/
  failed : Word
deriving DecidableEq, Repr

/-! ## Sources (chapter 5) -/

/-- A source descriptor (R85). -/
structure Descriptor where
  enable : Bool
  base0  : Nat
  base1  : Nat
  base2  : Nat
  size   : Nat
  staleLimit  : Nat
  expiryLimit : Nat
deriving DecidableEq, Repr

/-- An unloaded descriptor (R86): the source is not enabled. R86 gives its other fields no value: that they are 0 is the
model's choice (notes/assumptions/33.md). -/
def Descriptor.unloaded : Descriptor := ⟨false, 0, 0, 0, 0, 0, 0⟩

/-- The role of a slot in use (section 5.2). -/
inductive Role where
  | filling
  | ready
  | shown
  | spare
deriving DecidableEq, Repr

/-- What a source's windows show (R97). -/
inductive Presentation where
  | none
  | fresh
  | stale
deriving DecidableEq, Repr

/-- One channel of the source unit. -/
structure Source where
  desc  : Descriptor
  /-- The role of each slot; `none` for a slot that is not in use (R87). -/
  roles : Vector (Option Role) 3
  /-- Width and height kept with the READY slot (R89); the last such size while no slot is READY
  (notes/assumptions/33.md). -/
  readyW : Nat
  readyH : Nat
  /-- Wf and Hf of the SHOWN slot (R65). -/
  shownW : Nat
  shownH : Nat
  age : Nat
  presentation : Presentation
  /-- The presentation of the wall frame before, against which R97 compares. -/
  before : Presentation
  frozen : Bool
  /-- Capture sequence (R89). -/
  sequence : Half
  /-- Expected tag (R95). -/
  expected : Half
  published  : Word
  superseded : Word
  torn       : Word
  oversize   : Word
  badFrame   : Word
  expired    : Word
deriving DecidableEq, Repr

/-- A source that is not in use, with all counters 0. R89 keeps a width and a height with the READY slot and R88 gives a
capture sequence to a capture source alone: that they are 0 here, that the width and the height stay as they are when
no slot is READY, and that a memory source has a capture sequence of 0 is the model's choice
(notes/assumptions/33.md). -/
def Source.unloaded : Source :=
  { desc := Descriptor.unloaded, roles := Vector.replicate 3 none, readyW := 0, readyH := 0, shownW := 0, shownH := 0,
    age := 0, presentation := .none, before := .none, frozen := false, sequence := 0, expected := 0,
    published := 0, superseded := 0, torn := 0, oversize := 0, badFrame := 0, expired := 0 }

/-- A pending source configuration or freeze (R153). -/
inductive SourceItem where
  | config (src : Fin 32) (desc : Descriptor)
  | freeze (src : Fin 32) (on : Bool)
deriving DecidableEq, Repr

/-- A wall frame start whose work the source unit has still to begin. `taken`: the ring processor has taken that
wall frame start, so the commit decision is known (R92); `items`: what commits at it; `after`: the millisecond
intervals that came after it and before the next wall frame start (R98). -/
structure SourceFrame where
  taken : Bool
  items : List SourceItem
  after : Nat
deriving DecidableEq, Repr

/-- The source unit: its channels, the wall frame starts it has not begun, the memory sources whose header it has
still to judge for the one it is at (R94), the headers that have been read and not yet judged, and the millisecond
intervals that have come since that wall frame start, by which those sources age once they have been judged (R98). -/
structure SourceUnit where
  channels : Vector Source 32
  frames   : List SourceFrame
  toJudge  : List (Fin 32)
  headers  : List (Fin 32 × List Byte)
  owed     : Nat
deriving DecidableEq, Repr

/-! ## Capture inputs (chapter 6) -/

/-- The capture state. -/
inductive CaptureState where
  | noSignal
  | acquiring
  | locked
deriving DecidableEq, Repr

/-- The frame in progress with its measurement and marks (R108, R114 to R118). -/
structure CaptureFrame where
  /-- Lines begun, counted up to 2401. -/
  lines : Nat
  /-- Width of the lines that have ended, when there is one. -/
  width : Option Nat
  /-- All lines that have ended have the same width. -/
  agree : Bool
  /-- A line has begun and not ended. -/
  inLine : Bool
  /-- Pixels of that line, counted up to 4097. -/
  pixels : Nat
  written  : Bool
  /-- A frame that R118 skips. -/
  skipped  : Bool
  torn     : Bool
  mismatch : Bool
deriving DecidableEq, Repr

/-- A line in the line FIFO (R115): its row, the pixels kept so far and the transfers of it that the port has
granted. `prior`: a line of the ended good frame; `dead`: a line of a torn frame kept for its waiting transfer. -/
structure FifoLine where
  row    : Nat
  pixels : List Colour
  sent   : Nat
  prior  : Bool
  dead   : Bool
deriving DecidableEq, Repr

/-- A capture input (the state table of chapter 6). -/
structure CaptureInput where
  state     : CaptureState
  candidate : Option (Nat × Nat)
  /-- The candidate's count, 1 to 3; 0 with no candidate. -/
  count     : Nat
  lockedW   : Nat
  lockedH   : Nat
  oversize  : Bool
  /-- Congestion mode: HALVED when set, NORMAL when clear. -/
  halved    : Bool
  tornRun   : Nat
  cleanRun  : Nat
  loss      : Nat
  fifo      : List FifoLine
  frame     : Option CaptureFrame
  /-- The frame begun just before the present one in LOCKED was written (R118). -/
  lastWritten : Bool
  /-- A good frame whose report has not been made (R117). -/
  good      : Option (Nat × Nat)
  /-- A report the source unit has not taken (R117). -/
  report    : Option (Nat × Nat)
deriving DecidableEq, Repr

/-- An input in the state R109 gives for LOAD, START, STOP and the resets. -/
def CaptureInput.initial : CaptureInput :=
  { state := .noSignal, candidate := none, count := 0, lockedW := 0, lockedH := 0, oversize := false, halved := false,
    tornRun := 0, cleanRun := 0, loss := 0, fifo := [], frame := none, lastWritten := false, good := none, report := none }

/-! ## Alarm contacts (chapter 7) -/

/-- An alarm configuration (R124). `lowAsserts`: polarity 1, a low level is asserted. -/
structure AlarmConfig where
  enable     : Bool
  lowAsserts : Bool
  debounce   : Nat
deriving DecidableEq, Repr

/-- The alarm state (section 7.2). -/
inductive AlarmState where
  | idle
  | active
  | acked
  | latched
deriving DecidableEq, Repr

/-- An alarm input. `level`: the debounced level, true for asserted. The raised set is read off the alarm states,
as R131 gives it. -/
structure AlarmInput where
  config : AlarmConfig
  level  : Bool
  count  : Nat
  state  : AlarmState
deriving DecidableEq, Repr

/-- An input with no configuration (R135): it is not sampled, IDLE, released and its counter 0. R135 gives an unloaded input
no polarity and no debounce: that both are 0, beside a clear enable, is the model's choice (notes/assumptions/38.md). -/
def AlarmInput.unloaded : AlarmInput := ⟨⟨false, false, 0⟩, false, 0, .idle⟩

/-- A piece of work that the time base brings the alarm contact unit: a millisecond interval with the levels of the
contacts (R125), or one input's debounced change taken alone (R127). -/
inductive AlarmStep where
  | interval (high : Groups)
  | change (i : Fin 8) (level : Bool)
deriving DecidableEq, Repr

/-! ## Tile engines (sections 1.3, 1.4 and chapter 4) -/

/-- The row an engine composes, whose line start comes next. `begun`: its fetches have been issued (R63: not before the scaler states are
formed); `fetched`: the bytes that each granted fetch has returned, with the number of the span it was issued for. -/
structure Composing where
  row      : Nat
  begun    : Bool
  finished : Bool
  fetched  : List (Nat × List Host.Cell)
deriving DecidableEq, Repr

/-- What a tile output sends (R6, R7): no signal, the frame mark with which a wall frame's video frame begins, or the
line of the last line start. -/
inductive TileOutput where
  | noSignal
  | frameStart
  | line (px : List Colour)
deriving DecidableEq, Repr

/-- A tile engine. -/
structure TileEngine where
  /-- The two lines of the line buffer (R12). -/
  line0 : List Colour
  line1 : List Colour
  /-- The line it composes into: line 1 when set. -/
  into : Bool
  composing : Option Composing
  /-- The line of the buffer that was sent last, when one was (line 1 when true). -/
  sending : Option Bool
  /-- What the tile output sends. -/
  output : TileOutput
  /-- Late-line counter (R14). -/
  late : Word
deriving DecidableEq, Repr

/-- An engine that sends no signal, with its late-line counter as given. -/
def TileEngine.stopped (late : Word) : TileEngine :=
  { line0 := [], line1 := [], into := false, composing := none, sending := none, output := .noSignal, late := late }

/-- One axis of a NORMAL scaler state (section 4.1): effective crop, step, mode and start position. -/
structure Axis where
  first : Nat
  stop  : Nat
  step  : Nat
  bilinear : Bool
  start : Int
deriving DecidableEq, Repr

/-- A scaler state (section 4.1). `axes` is `none` when the outcome is CROP_OUTSIDE. -/
structure Scaler where
  window : Fin 64
  source : Nat
  base   : Nat
  wf     : Nat
  hf     : Nat
  axes   : Option (Axis × Axis)
deriving DecidableEq, Repr

/-- What the tile engines hold for a whole wall frame beside the active bank and the live table (R8): the
presentation of each source and the scaler states, of which all engines hold equal values (R63). -/
structure FrameView where
  presentations : Vector Presentation 32
  scalers : List Scaler
deriving DecidableEq, Repr

/-! ## The ring processor (chapters 8 and 9) -/

/-- The processor state (section 8.3). -/
inductive RingState where
  | idle
  | collecting
  | skipping
  | awaitingCommit
  | writingBack
deriving DecidableEq, Repr

/-- Why the processor looks (R142). A wall frame start carries its wall frame number. -/
inductive LookCause where
  | frame (n : Word)
  | attend
  | atOnce
deriving DecidableEq, Repr

/-- The look in hand (R139, R142): none; the slot read at the port; the slot as read; a scene being read for a
TAKE_SCENE slot (R166); a skipped slot being returned (R149); a chain wait that has reached 8 (R146, R149). -/
inductive Look where
  | none
  | reading (cause : LookCause)
  | found (cause : LookCause) (slot : List Byte)
  | scene (cause : LookCause) (slot : List Byte) (scene : List Byte)
  | skip (cause : LookCause) (slot : List Byte)
  | timeout
deriving DecidableEq, Repr

/-- A held slot with its result and detail so far (R159). The detail of a CLEAR_ALARM and of a SAVE_SCENE is decided later:
what it holds until then is the model's choice (notes/assumptions/40.md). -/
structure Held where
  index  : Nat
  kind   : Nat
  result : Nat
  detail : Word
deriving DecidableEq, Repr

/-- What a WRITING_BACK processor returns: a committed group, or an aborted one with whether SKIPPING follows. -/
inductive Returning where
  | committed
  | aborted (skip : Bool)
deriving DecidableEq, Repr

/-- The ring processor (the state table of chapter 8). -/
structure Ring where
  state : RingState
  next  : Nat
  held  : List Held
  draft : Table
  draftDescs : Vector Descriptor 32
  /-- Pending configurations and freezes, in the order the slots were taken. -/
  pendingSources : List SourceItem
  /-- Pending clears: the position of the slot among the held slots, and the input. -/
  pendingClears : List (Nat × Fin 8)
  /-- Pending saves. They stay with the processor until the write-back of their group ends (R153, section 8.8). -/
  pendingSaves : List (Fin 16)
  /-- The group is one with edits. -/
  edits : Bool
  wait  : Nat
  look  : Look
  /-- Look events kept under R142, oldest first. -/
  kept  : List LookCause
  /-- The group's commit frame number. -/
  commitFrame : Word
  returning : Returning
deriving DecidableEq, Repr

/-- An IDLE processor that holds nothing, with NEXT as given (R143). The values of the draft descriptors, of the commit frame
number and of the kind of return of a processor that has no group are the model's choice (notes/assumptions/26.md, 6.md). -/
def Ring.atRest (next : Nat) : Ring :=
  { state := .idle, next := next, held := [], draft := Table.empty, draftDescs := Vector.replicate 32 Descriptor.unloaded,
    pendingSources := [], pendingClears := [], pendingSaves := [], edits := false, wait := 0, look := .none, kept := [],
    commitFrame := 0, returning := .committed }

/-! ## The status writer (section 10.7) -/

/-- The copy of a tile entry (R192). -/
structure TileEntry where
  late    : Word
  bands   : Nat
  spans   : Nat
  enabled : Bool
  mark    : Mark
deriving DecidableEq, Repr

/-- The copy of a source entry (R192). A slot index is `none` when no slot holds the role. -/
structure SourceEntry where
  capture      : CaptureState
  halved       : Bool
  oversizeFlag : Bool
  presentation : Presentation
  frozen       : Bool
  shown        : Option (Fin 3)
  ready        : Option (Fin 3)
  filling      : Option (Fin 3)
  width        : Nat
  height       : Nat
  expected     : Half
  age          : Nat
  published    : Word
  superseded   : Word
  torn         : Word
  oversize     : Word
  badFrame     : Word
  expired      : Word
deriving DecidableEq, Repr

/-- The source entry of a source that is not in use. -/
def SourceEntry.blank : SourceEntry :=
  { capture := .noSignal, halved := false, oversizeFlag := false, presentation := .none, frozen := false, shown := none,
    ready := none, filling := none, width := 0, height := 0, expected := 0, age := 0, published := 0, superseded := 0,
    torn := 0, oversize := 0, badFrame := 0, expired := 0 }

/-- What a page reports of a capture input (R123). -/
structure InputEntry where
  state    : CaptureState
  halved   : Bool
  oversize : Bool
  width    : Nat
  height   : Nat
deriving DecidableEq, Repr

/-- The entry of a capture input (R123). -/
def CaptureInput.entry (i : CaptureInput) : InputEntry := ⟨i.state, i.halved, i.oversize, i.lockedW, i.lockedH⟩

/-- The status writer's copy of what a page reports (R191, R192). `inputs` holds the capture inputs as they stand at the
wall frame start (R123), from which the source entries take their capture fields. -/
structure StatusCopy where
  number    : Word
  builder   : BuilderState
  next      : Nat
  raised    : Groups
  builtWith : Groups
  built     : Word
  failed    : Word
  fallback  : BitVec 16
  degraded  : BitVec 16
  tiles     : Vector TileEntry 16
  inputs    : Vector InputEntry 16
  sources   : Vector SourceEntry 32
  alarms    : Vector (AlarmState × Bool) 8
deriving DecidableEq, Repr

/-- The copy before any wall frame start. -/
def StatusCopy.blank : StatusCopy :=
  { number := 0, builder := .idle, next := 0, raised := 0, builtWith := 0, built := 0, failed := 0, fallback := 0,
    degraded := 0, tiles := Vector.replicate 16 ⟨0, 0, 0, false, .normal⟩,
    inputs := Vector.replicate 16 CaptureInput.initial.entry, sources := Vector.replicate 32 SourceEntry.blank,
    alarms := Vector.replicate 8 (.idle, false) }

/-! ## The whole machine -/

/-- The state of the AW3216, and the queue of the commands that wait, first in first out. -/
structure State where
  control : Control
  link    : Link
  mem     : Memory
  port    : Port
  /-- The loaded configuration; `none` while none is loaded. -/
  config  : Option Loaded
  /-- The wall frame number (R1). -/
  frameNo : Word
  live    : Table
  builder : Builder
  sources : SourceUnit
  inputs  : Vector CaptureInput 16
  alarms  : Vector AlarmInput 8
  /-- The work of which the alarm contact unit has still to make the moves: for each wall frame start that the ring processor keeps, oldest
  first, what came after it and before the next, in order (R129, R137; notes/assumptions/21.md). -/
  alarmsLater : List (List AlarmStep)
  engines : Vector TileEngine 16
  view    : Option FrameView
  ring    : Ring
  status  : StatusCopy
  pending : List Instr
deriving DecidableEq, Repr

/-- Why the machine stops. -/
inductive Fault where
  /-- Raised by BAR2_ACCESS: the access runs past the last byte of the 4 GiB window, to an address the spec says
  does not exist (00_scope, "Ports"). Safe: the link cannot deliver such an access. -/
  | outsideFrameMemory (addr : Nat) (len : Nat)
deriving DecidableEq, Repr

/-- Why the machine declines a command. -/
inductive Refusal where
  /-- Raised by an arm of `exec` whose command has no meaning yet. No arm does. Safe. -/
  | notModelled (mnemonic : String)
deriving DecidableEq, Repr

/-- The machine after a power-on reset: HALTED and unloaded, the link registers as R188 gives them, the port's
pointers as R17 gives them. Frame memory, whose contents R188 leaves undefined, has nothing listed
(notes/assumptions/1.md); the MSI capability is as notes/assumptions/2.md says. -/
def State.reset : State :=
  { control := { part := .halted, faultCode := 0, faultIndex := 0, heldStart := false, loadBytes := [] }
    link := { cause := 0, causeEnable := 0, areaBase := 0, resetReason := 1, msiEnabled := true, msiAddress := 0,
              msiData := 0, msiSent := [], bar2Data := [] }
    mem := []
    port := { tilePtr := 15, capturePtr := 15, controlPtr := 4, tile := Vector.replicate 16 [],
              capture := Vector.replicate 16 [], control := Vector.replicate 5 [] }
    config := none
    frameNo := 0
    live := Table.empty
    builder := { state := .idle, active := none, shadow := none, built := 0, failed := 0 }
    sources := { channels := Vector.replicate 32 Source.unloaded, frames := [], toJudge := [], headers := [], owed := 0 }
    inputs := Vector.replicate 16 CaptureInput.initial
    alarms := Vector.replicate 8 AlarmInput.unloaded
    alarmsLater := []
    engines := Vector.replicate 16 (TileEngine.stopped 0)
    view := none
    ring := Ring.atRest 0
    status := StatusCopy.blank
    pending := [] }

/-! ## One update for each field

The operations of the machine change the state through these; Sys2Proof/Laws/State.lean says what each leaves alone. -/

def State.withControl (s : State) (v : Control) : State := { s with control := v }
def State.withLink (s : State) (v : Link) : State := { s with link := v }
def State.withMem (s : State) (v : Memory) : State := { s with mem := v }
def State.withPort (s : State) (v : Port) : State := { s with port := v }
def State.withConfig (s : State) (v : Option Loaded) : State := { s with config := v }
def State.withFrameNo (s : State) (v : Word) : State := { s with frameNo := v }
def State.withLive (s : State) (v : Table) : State := { s with live := v }
def State.withBuilder (s : State) (v : Builder) : State := { s with builder := v }
def State.withSources (s : State) (v : SourceUnit) : State := { s with sources := v }
def State.withInputs (s : State) (v : Vector CaptureInput 16) : State := { s with inputs := v }
def State.withAlarms (s : State) (v : Vector AlarmInput 8) : State := { s with alarms := v }
def State.withAlarmsLater (s : State) (v : List (List AlarmStep)) : State := { s with alarmsLater := v }
def State.withEngines (s : State) (v : Vector TileEngine 16) : State := { s with engines := v }
def State.withView (s : State) (v : Option FrameView) : State := { s with view := v }
def State.withRing (s : State) (v : Ring) : State := { s with ring := v }
def State.withStatus (s : State) (v : StatusCopy) : State := { s with status := v }
def State.withPending (s : State) (v : List Instr) : State := { s with pending := v }

end Sys2Proof.Machine
end

