-- ==== Sys2Proof/Machine/Ops.lean ====
section
/-! DEFINITION. The named operations every block uses: counters, byte order, frame memory, transfers and the port's arbitration, and the guards on the part state. -/

namespace Sys2Proof.Machine

open Sys2Proof

/-! ## Counters and bytes -/

/-- A counter that counts events stays at 4 294 967 295 (00_scope, "Counters and sequence numbers"). -/
def satInc (c : Word) : Word := if c = 0xFFFFFFFF then c else c + 1

/-- The value of a little-endian field (R193). -/
def leValue : List Byte → Nat
  | [] => 0
  | b :: bs => b.toNat + 256 * leValue bs

/-- The `n` bytes of a little-endian field (R193). -/
def leBytes : Nat → Nat → List Byte
  | 0, _ => []
  | n + 1, v => BitVec.ofNat 8 v :: leBytes n (v / 256)

/-- The byte at an offset of a record. -/
def byteAt (bs : List Byte) (off : Nat) : Byte := bs.getD off 0

/-- The `n`-byte field at an offset of a record (R193). -/
def field (bs : List Byte) (off n : Nat) : Nat := leValue ((bs.drop off).take n)

/-- Every entry of a bank replaced by a function of its index and itself. -/
def mapBank {α β : Type} {n : Nat} (v : Vector α n) (f : Fin n → α → β) : Vector β n :=
  Vector.ofFn fun i => f i v[i]

/-- Whether some entry of a bank passes a test of its index and itself. -/
def anyBank {α : Type} {n : Nat} (v : Vector α n) (f : Fin n → α → Bool) : Bool :=
  (List.finRange n).any fun i => f i v[i]

/-! ## Frame memory -/

namespace Memory

/-- The byte at an address. What an unlisted address reads as is this one line: 0 (notes/assumptions/1.md). -/
def read : Memory → Nat → Byte
  | [], _ => 0
  | (k, v) :: m, a => if k = a then v else read m a

/-- An address taken out of the list. -/
def erase : Memory → Nat → Memory
  | [], _ => []
  | (k, v) :: m, a => if k = a then m else (k, v) :: erase m a

/-- An address put into the list at its place. -/
def insert : Memory → Nat → Byte → Memory
  | [], a, x => [(a, x)]
  | (k, v) :: m, a, x =>
    if a < k then (a, x) :: (k, v) :: m
    else if k = a then (a, x) :: m
    else (k, v) :: insert m a x

/-- One byte written. The list stays canonical: a byte that becomes 0 leaves it, and an address past the end of
frame memory names no byte. -/
def write (m : Memory) (a : Nat) (x : Byte) : Memory :=
  if Config.memSize ≤ a then m else if x = 0 then erase m a else insert m a x

/-- `n` bytes from an address on. -/
def readBytes (m : Memory) (a : Nat) : Nat → List Byte
  | 0 => []
  | n + 1 => m.read a :: readBytes m (a + 1) n

/-- Bytes written from an address on. -/
def writeBytes (m : Memory) (a : Nat) : List Byte → Memory
  | [] => m
  | b :: bs => writeBytes (m.write a b) (a + 1) bs

/-- Bytes written from an address on; the byte at the place of a `none` stays as it is. -/
def writeEnabled (m : Memory) (a : Nat) : List (Option Byte) → Memory
  | [] => m
  | some b :: bs => writeEnabled (m.write a b) (a + 1) bs
  | none :: bs => writeEnabled m (a + 1) bs

/-- The memory in which the listed cells are written, the first one last. -/
def ofCells : List Host.Cell → Memory
  | [] => []
  | (a, b) :: cs => write (ofCells cs) a b

/-- Addresses strictly rise from `lo` on, name bytes that exist, and hold no byte that is 0. -/
def wfFrom : Nat → Memory → Bool
  | _, [] => true
  | lo, (k, v) :: m => decide (lo ≤ k) && decide (k < Config.memSize) && decide (v ≠ 0) && wfFrom (k + 1) m

/-- The canonical form. -/
def wf (m : Memory) : Bool := wfFrom 0 m

end Memory

/-! ## Transfers (R15) -/

/-- An area cut at the boundaries of aligned 256-byte blocks, as address and length of each piece, ascending. -/
def pieces : (fuel : Nat) → (addr len : Nat) → List (Nat × Nat)
  | 0, _, _ => []
  | fuel + 1, a, n =>
    if n = 0 then []
    else
      let k := min n (Config.blockSize - a % Config.blockSize)
      (a, k) :: pieces fuel (a + k) (n - k)

/-- All pieces of an area. -/
def areaPieces (addr len : Nat) : List (Nat × Nat) := pieces (len / Config.blockSize + 2) addr len

/-- The reads of an area, in ascending address order. -/
def readTransfers (addr len tag : Nat) : List Transfer :=
  (areaPieces addr len).map fun p => ⟨p.1, .read p.2, tag⟩

/-- The writes of an area, in ascending address order. -/
def writeTransfers (addr : Nat) (data : List Byte) (tag : Nat) : List Transfer :=
  (areaPieces addr data.length).map fun p => ⟨p.1, .write ((data.drop (p.1 - addr)).take p.2), tag⟩

/-- The bytes a transfer returns (none for a write). -/
def Transfer.returned (t : Transfer) (m : Memory) : List Byte :=
  match t.op with
  | .read n => m.readBytes t.addr n
  | .write _ => []
  | .merge _ => []

/-- Frame memory after a transfer. -/
def Transfer.applied (t : Transfer) (m : Memory) : Memory :=
  match t.op with
  | .read _ => m
  | .write data => m.writeBytes t.addr data
  | .merge data => m.writeEnabled t.addr data

/-- The bytes a transfer has to write, `none` for each that it leaves as it is (a read has none). -/
def Transfer.stores (t : Transfer) : List (Option Byte) :=
  match t.op with
  | .read _ => []
  | .write data => data.map some
  | .merge data => data

/-- Of the bytes to be written, those whose bit is set in a mask. -/
def maskBytes : (mask : Nat) → List (Option Byte) → List (Option Byte)
  | _, [] => []
  | mask, b :: bs => (if mask % 2 = 1 then b else none) :: maskBytes (mask / 2) bs

/-! ## The port -/

/-- A requester of transfers (R15). -/
inductive Requester where
  | tile (t : Fin 16)
  | capture (c : Fin 16)
  | control (r : Fin 5)
deriving DecidableEq, Repr

/-- The requesters of a class from the one after the pointer on, in cyclic order, the pointer's own last (R17). -/
def cyclicAfter {n : Nat} (ptr : Fin n) : List (Fin n) :=
  (List.range n).map fun k => ⟨(ptr.val + 1 + k) % n, Nat.mod_lt _ (Nat.lt_of_le_of_lt (Nat.zero_le _) ptr.isLt)⟩

/-- The requester of a class that is granted: the first waiting one that follows the pointer (R17). -/
def roundRobin {n : Nat} (ptr : Fin n) (queues : Vector (List Transfer) n) : Option (Fin n) :=
  (cyclicAfter ptr).find? fun i => !(queues[i]).isEmpty

/-- The requester that is granted next: tile before capture before control (R16). -/
def Port.choose (p : Port) : Option Requester :=
  match roundRobin p.tilePtr p.tile with
  | some t => some (.tile t)
  | none =>
    match roundRobin p.capturePtr p.capture with
    | some c => some (.capture c)
    | none => (roundRobin p.controlPtr p.control).map .control

/-- A requester's transfers, the waiting one first. -/
def Port.queue (p : Port) : Requester → List Transfer
  | .tile t => p.tile[t]
  | .capture c => p.capture[c]
  | .control r => p.control[r]

/-- A requester's transfers replaced. -/
def Port.setQueue (p : Port) (r : Requester) (ts : List Transfer) : Port :=
  match r with
  | .tile t => { p with tile := vset p.tile t ts }
  | .capture c => { p with capture := vset p.capture c ts }
  | .control k => { p with control := vset p.control k ts }

/-- The pointer of a requester's class moved to it (R17). -/
def Port.pointAt (p : Port) : Requester → Port
  | .tile t => { p with tilePtr := t }
  | .capture c => { p with capturePtr := c }
  | .control r => { p with controlPtr := r }

/-- The port after the waiting transfer of a requester has been granted. -/
def Port.granted (p : Port) (r : Requester) : Port := (p.setQueue r (p.queue r).tail).pointAt r

/-- Transfers issued by a requester, after those it has issued before. -/
def Port.issue (p : Port) (r : Requester) (ts : List Transfer) : Port := p.setQueue r (p.queue r ++ ts)

/-- The waiting transfers of every requester but the PCIe endpoint withdrawn (R19). -/
def Port.withdrawWork (p : Port) : Port :=
  { p with
    tile := Vector.replicate 16 []
    capture := Vector.replicate 16 []
    control := vset (Vector.replicate 5 []) pcieEndpoint p.control[pcieEndpoint] }

/-- Transfers issued at the machine's port. -/
def State.issue (s : State) (r : Requester) (ts : List Transfer) : State := s.withPort (s.port.issue r ts)

/-- A requester's transfers at the machine's port replaced. -/
def State.setQueue (s : State) (r : Requester) (ts : List Transfer) : State := s.withPort (s.port.setQueue r ts)

/-! ## What the other blocks ask of the state -/

/-- The part is RUNNING. -/
def State.running (s : State) : Bool := s.control.part == .running

/-- The configuration that stands for none: no tile enabled, every number 0. -/
def Loaded.none : Loaded :=
  { period := 0, background := Colour.black, stale := Colour.black, ringBase := 0, ringCode := 0, sceneBase := 0,
    statusBase := 0, tiles := Vector.replicate 16 ⟨false, 0, 0, 0, 0⟩ }

/-- The loaded configuration, or one in which nothing is enabled. -/
def State.cfg (s : State) : Loaded := s.config.getD Loaded.none

/-- The tile record of a tile. -/
def State.tile (s : State) (t : Fin 16) : TileRec := s.cfg.tiles[t]

/-- The source that a capture input feeds: the one of the same number (R84). -/
def captureSource (c : Fin 16) : Fin 32 := ⟨c.val, Nat.lt_of_lt_of_le c.isLt (by decide)⟩

/-- The source number of memory source Mm (R84). -/
def memorySource (m : Fin 16) : Fin 32 := ⟨m.val + 16, by omega⟩

/-- Whether a source is a capture source (R84). -/
def isCapture (src : Fin 32) : Bool := decide (src.val < 16)

/-- The capture input of a capture source. -/
def captureOf (src : Fin 32) : Fin 16 := ⟨src.val % 16, Nat.mod_lt _ (by decide)⟩

/-- One channel of the source unit. -/
def State.channel (s : State) (src : Fin 32) : Source := s.sources.channels[src]

/-- One channel replaced. -/
def State.setChannel (s : State) (src : Fin 32) (c : Source) : State :=
  s.withSources { s.sources with channels := vset s.sources.channels src c }

/-- One capture input replaced. -/
def State.setInput (s : State) (c : Fin 16) (i : CaptureInput) : State := s.withInputs (vset s.inputs c i)

/-- One tile engine replaced. -/
def State.setEngine (s : State) (t : Fin 16) (e : TileEngine) : State := s.withEngines (vset s.engines t e)

/-- A capture input takes its signal: RUNNING and its source enabled (R109). -/
def State.listens (s : State) (c : Fin 16) : Bool := s.running && (s.channel (captureSource c)).desc.enable

end Sys2Proof.Machine
end

