-- ==== Sys2Proof/Machine/Flags.lean ====
section
/-! DEFINITION. The cause bits and the interrupt (section 10.5). -/

namespace Sys2Proof.Machine

open Sys2Proof

/-- The bits of CAUSE (R177). -/
def causeLoadDone : BitVec 8 := 0x01
/-- See `causeLoadDone`. -/
def causeLoadFault : BitVec 8 := 0x02
/-- See `causeLoadDone`. -/
def causeGroupDone : BitVec 8 := 0x04
/-- See `causeLoadDone`. -/
def causeSourceEvent : BitVec 8 := 0x08
/-- See `causeLoadDone`. -/
def causeAlarmEvent : BitVec 8 := 0x10
/-- See `causeLoadDone`. -/
def causeLateLine : BitVec 8 := 0x20
/-- See `causeLoadDone`. -/
def causeFallback : BitVec 8 := 0x40
/-- See `causeLoadDone`. -/
def causeRefused : BitVec 8 := 0x80

/-- The message the endpoint sends: the address and data placed in its MSI capability (R187). -/
def Link.msi (l : Link) : Msi := ⟨l.msiAddress, l.msiData⟩

/-- CAUSE and CAUSE_ENABLE take new values. An MSI is sent when the set of causes both set and enabled goes from
empty to non-empty and the MSI capability is enabled (R187). -/
def Link.setCauses (l : Link) (cause enable : BitVec 8) : Link :=
  { l with
    cause := cause
    causeEnable := enable
    msiSent :=
      if l.cause &&& l.causeEnable = 0 ∧ cause &&& enable ≠ 0 ∧ l.msiEnabled = true then l.msiSent ++ [l.msi] else l.msiSent }

/-- A block sets cause bits; a bit already set stays set (R186). -/
def State.raise (s : State) (bits : BitVec 8) : State :=
  s.withLink (s.link.setCauses (s.link.cause ||| bits) s.link.causeEnable)

/-- A block sets cause bits when something holds. -/
def State.raiseIf (s : State) (b : Bool) (bits : BitVec 8) : State := if b then s.raise bits else s

end Sys2Proof.Machine
end

