-- ==== Sys2Proof/Machine/Operands.lean ====
section
/-! DEFINITION. The operand forms: register writes with their byte enables (R177), and the byte layouts of every record the part shares with the control computer (chapter 11), read and written. -/

namespace Sys2Proof.Machine

open Sys2Proof

/-! ## Register writes -/

/-- The bits of a 32-bit register that lie in the bytes written. -/
def byteMask (bytes : BitVec 4) : Word :=
  (if bytes.getLsbD 0 then 0x000000FF else 0) ||| (if bytes.getLsbD 1 then 0x0000FF00 else 0) |||
    (if bytes.getLsbD 2 then 0x00FF0000 else 0) ||| (if bytes.getLsbD 3 then 0xFF000000 else 0)

/-- The whole register's worth a write brings, bytes not written taken as 0 (R177). -/
def regValue (w : RegWrite) : Word := w.data &&& byteMask w.bytes

/-! ## Fields -/

/-- `n` bytes of 0. -/
def zeros (n : Nat) : List Byte := List.replicate n 0

/-- A colour in a record (R193): R at the lowest offset, then G, then B. -/
def colourAt (bs : List Byte) (off : Nat) : Colour := ⟨byteAt bs off, byteAt bs (off + 1), byteAt bs (off + 2)⟩

/-- The bytes of a colour in a record (R193). -/
def colourBytes (c : Colour) : List Byte := [c.r, c.g, c.b]

/-- A pixel as a 32-bit word of R, G, B and a zero byte (R193). -/
def pixelBytes (c : Colour) : List Byte := [c.r, c.g, c.b, 0]

/-- An enable byte (R193): any value other than 0 means set. -/
def enableAt (bs : List Byte) (off : Nat) : Bool := byteAt bs off != 0

/-- The byte of a flag. -/
def flagByte (b : Bool) : Nat := if b then 1 else 0

/-! ## The configuration block (R195, R196) -/

/-- Tile record t. -/
def tileRecAt (bs : List Byte) (t : Nat) : TileRec :=
  let o := 64 + 16 * t
  { enable := enableAt bs o, x := field bs (o + 4) 2, y := field bs (o + 6) 2, width := field bs (o + 8) 2,
    height := field bs (o + 10) 2 }

/-- A source descriptor at an offset: of the configuration block or of a SOURCE_CONFIG slot. -/
def descriptorAt (bs : List Byte) (o : Nat) : Descriptor :=
  { enable := enableAt bs o, base0 := field bs (o + 4) 4, base1 := field bs (o + 8) 4, base2 := field bs (o + 12) 4,
    size := field bs (o + 16) 2, staleLimit := field bs (o + 18) 2, expiryLimit := field bs (o + 20) 2 }

/-- Source descriptor `src` of the configuration block. -/
def configDescriptor (bs : List Byte) (src : Nat) : Descriptor := descriptorAt bs (320 + 32 * src)

/-- Alarm configuration i of the configuration block. -/
def alarmConfigAt (bs : List Byte) (i : Nat) : AlarmConfig :=
  let o := 1344 + 4 * i
  { enable := enableAt bs o, lowAsserts := (byteAt bs (o + 1)).getLsbD 0, debounce := (byteAt bs (o + 2)).toNat }

/-- The header and the tile records of the configuration block. -/
def loadedOf (bs : List Byte) : Loaded :=
  { period := field bs 4 4, background := colourAt bs 8, stale := colourAt bs 12, ringBase := field bs 16 4,
    ringCode := (byteAt bs 20).toNat, sceneBase := field bs 24 4, statusBase := field bs 28 4,
    tiles := Vector.ofFn fun t : Fin 16 => tileRecAt bs t.val }

/-! ## The request slot (R197) -/

/-- POSTED: any value other than 0 (R138). -/
def slotPosted (slot : List Byte) : Bool := enableAt slot 0

/-- CHAIN: bit 0 of the flag byte. -/
def slotChain (slot : List Byte) : Bool := (byteAt slot 1).getLsbD 0

/-- The kind. -/
def slotKind (slot : List Byte) : Nat := (byteAt slot 2).toNat

/-- The one-byte parameter at slot offset `off`. -/
def slotByte (slot : List Byte) (off : Nat) : Nat := (byteAt slot off).toNat

/-! ## The window record (R198) -/

/-- The window record at an offset: of a PUT_WINDOW slot or of a scene. -/
def windowAt (bs : List Byte) (o : Nat) : WindowRec :=
  { id := (byteAt bs o).toNat, visible := (byteAt bs (o + 1)).getLsbD 0, alarmOnly := (byteAt bs (o + 1)).getLsbD 1,
    source := (byteAt bs (o + 2)).toNat, mask := byteAt bs (o + 3),
    x := field bs (o + 4) 2, y := field bs (o + 6) 2, w := field bs (o + 8) 2, h := field bs (o + 10) 2,
    sx := field bs (o + 12) 2, sy := field bs (o + 14) 2, sw := field bs (o + 16) 2, sh := field bs (o + 18) 2,
    border := (byteAt bs (o + 20)).toNat, borderColour := colourAt bs (o + 21), fillColour := colourAt bs (o + 24) }

/-- The 32 bytes of a window record, ignored bytes and unnamed flag bits 0 (R194). -/
def windowBytes (w : WindowRec) : List Byte :=
  leBytes 1 w.id ++ leBytes 1 (flagByte w.visible + 2 * flagByte w.alarmOnly) ++ leBytes 1 w.source ++ [w.mask] ++
    leBytes 2 w.x ++ leBytes 2 w.y ++ leBytes 2 w.w ++ leBytes 2 w.h ++ leBytes 2 w.sx ++ leBytes 2 w.sy ++
    leBytes 2 w.sw ++ leBytes 2 w.sh ++ leBytes 1 w.border ++ colourBytes w.borderColour ++ colourBytes w.fillColour ++
    zeros 5

/-! ## The scene (R199) -/

/-- The marker of a scene. -/
def sceneMarkerOf (bs : List Byte) : Nat := field bs 0 4

/-- Whether an id is present in a scene. -/
def scenePresent (bs : List Byte) (i : Nat) : Bool := (byteAt bs (4 + i / 8)).getLsbD (i % 8)

/-- The list count of a scene. -/
def sceneCount (bs : List Byte) : Nat := (byteAt bs 12).toNat

/-- Entry p of the stacking list of a scene. -/
def sceneEntry (bs : List Byte) (p : Nat) : Nat := (byteAt bs (16 + p)).toNat

/-- Record i of a scene. -/
def sceneRecord (bs : List Byte) (i : Nat) : WindowRec := windowAt bs (128 + 32 * i)

/-- The presence mask of a table as a number, bit i for id i. -/
def presenceMask (t : Table) : Nat :=
  ((List.finRange 64).map fun i => if (t.records[i]).isSome then 2 ^ i.val else 0).sum

/-- The bytes 4 to 4095 of the scene that holds a table (R170, R199). -/
def sceneBody (t : Table) : List Byte :=
  leBytes 8 (presenceMask t) ++ leBytes 1 t.stack.length ++ zeros 3 ++
    ((t.stack.take 64).map fun i => BitVec.ofNat 8 i.val) ++ zeros (64 - t.stack.length) ++ zeros 48 ++
    ((List.finRange 64).flatMap fun i =>
      match t.records[i] with
      | some w => windowBytes w
      | none => zeros 32) ++
    zeros 1920

/-! ## The frame slot header (R200) -/

/-- The 16 bytes of a header, the ignored ones 0. -/
def headerBytes (tag : Half) (width height : Nat) : List Byte :=
  leBytes 2 tag.toNat ++ leBytes 2 width ++ leBytes 2 height ++ zeros 10

/-- The tag of a header. -/
def headerTag (bs : List Byte) : Half := BitVec.ofNat 16 (field bs 0 2)

/-- The width of a header. -/
def headerWidth (bs : List Byte) : Nat := field bs 2 2

/-- The height of a header. -/
def headerHeight (bs : List Byte) : Nat := field bs 4 2

/-! ## The status page (R201, R202) -/

/-- The coding of the builder's state. -/
def builderStateCode : BuilderState → Nat
  | .idle => 0
  | .building _ _ => 1
  | .donePending _ => 2

/-- The coding of the builder's kind. -/
def builderKindCode : BuilderState → Nat
  | .idle => 0
  | .building .group _ => 1
  | .building .alarm _ => 2
  | .donePending .group => 1
  | .donePending .alarm => 2

/-- The coding of a tile's mark. -/
def markCode : Mark → Nat
  | .normal => 0
  | .fallback => 1
  | .degraded => 2

/-- The coding of a capture state. -/
def captureCode : CaptureState → Nat
  | .noSignal => 0
  | .acquiring => 1
  | .locked => 2

/-- The coding of a presentation. -/
def presentationCode : Presentation → Nat
  | .none => 0
  | .fresh => 1
  | .stale => 2

/-- The coding of an alarm state (R128, R201). -/
def alarmCode : AlarmState → Nat
  | .idle => 0
  | .active => 1
  | .acked => 2
  | .latched => 3

/-- The coding of a slot index, 0xFF when no slot holds the role (R107). -/
def slotIndexCode : Option (Fin 3) → Nat
  | some i => i.val
  | none => 0xFF

/-- The 16 bytes of a tile entry; those of a disabled tile are all 0 (R202). -/
def tileEntryBytes (e : TileEntry) : List Byte :=
  if e.enabled then
    leBytes 4 e.late.toNat ++ leBytes 2 e.bands ++ leBytes 2 e.spans ++ leBytes 1 (1 + 2 * markCode e.mark) ++
      zeros 7
  else zeros 16

/-- The 48 bytes of a source entry. -/
def sourceEntryBytes (e : SourceEntry) : List Byte :=
  leBytes 1 (captureCode e.capture) ++ leBytes 1 (flagByte e.halved) ++ leBytes 1 (flagByte e.oversizeFlag) ++
    leBytes 1 (presentationCode e.presentation) ++ leBytes 1 (flagByte e.frozen) ++ leBytes 1 (slotIndexCode e.shown) ++
    leBytes 1 (slotIndexCode e.ready) ++ leBytes 1 (slotIndexCode e.filling) ++ leBytes 2 e.width ++ leBytes 2 e.height ++
    leBytes 2 e.expected.toNat ++ leBytes 2 e.age ++ leBytes 4 e.published.toNat ++ leBytes 4 e.superseded.toNat ++
    leBytes 4 e.torn.toNat ++ leBytes 4 e.oversize.toNat ++ leBytes 4 e.badFrame.toNat ++ leBytes 4 e.expired.toNat ++
    zeros 8

/-- The 4 bytes of an alarm entry. -/
def alarmEntryBytes (e : AlarmState × Bool) : List Byte :=
  leBytes 1 (alarmCode e.1) ++ leBytes 1 (flagByte e.2) ++ zeros 2

/-- The header bytes 4 to 63 of the page. The page is written in RUNNING alone, so the part state is 3. -/
def pageHeaderBytes (c : StatusCopy) : List Byte :=
  leBytes 1 3 ++ leBytes 1 (builderStateCode c.builder) ++ leBytes 1 (builderKindCode c.builder) ++ leBytes 1 0 ++
    leBytes 2 c.next ++ [c.raised] ++ [c.builtWith] ++ leBytes 4 c.built.toNat ++ leBytes 4 c.failed.toNat ++
    leBytes 2 c.fallback.toNat ++ leBytes 2 c.degraded.toNat ++ zeros 40

/-- Bytes 4 to 4091 of the page. -/
def pageBody (c : StatusCopy) : List Byte :=
  pageHeaderBytes c ++ c.tiles.toList.flatMap tileEntryBytes ++ c.sources.toList.flatMap sourceEntryBytes ++
    c.alarms.toList.flatMap alarmEntryBytes ++ zeros 2204

end Sys2Proof.Machine
end

