-- ==== Sys2Proof/Machine/Sources.lean ====
section
/-! DEFINITION. The source unit's channels (chapter 5): descriptors and their check, slot roles, publication, promotion, expiry, presentation, freeze and reconfiguration. -/

namespace Sys2Proof.Machine

open Sys2Proof

/-! ## Descriptors (R85, R174) -/

/-- The base of a slot. -/
def Descriptor.base (d : Descriptor) (slot : Fin 3) : Nat :=
  if slot.val = 0 then d.base0 else if slot.val = 1 then d.base1 else d.base2

/-- The size of each slot in bytes (R85). -/
def Descriptor.bytes (d : Descriptor) : Nat := d.size * Config.unit

/-- The slots in use of a source: three for a capture source, two for a memory source (R84). -/
def slotsInUse (src : Fin 32) : List (Fin 3) := if isCapture src then [0, 1, 2] else [0, 1]

/-- Two areas share a byte. -/
def overlaps (a alen b blen : Nat) : Bool := decide (a < b + blen) && decide (b < a + alen)

/-- The control areas as base and length: configuration block, ring, scene store, status page (R196). -/
def controlAreas (areaBase : Nat) (cfg : Loaded) : List (Nat × Nat) :=
  [(areaBase, Config.unit), (cfg.ringBase, 64 * 2 ^ cfg.ringCode), (cfg.sceneBase, 16 * Config.unit), (cfg.statusBase, Config.unit)]

/-- The lowest-numbered other enabled source a slot of which shares a byte with an area (R174, check 6). -/
def firstNeighbour (descs : List (Fin 32 × Descriptor)) (src : Fin 32) (base len : Nat) : Option (Fin 32) :=
  (descs.find? fun p =>
    p.1 != src && p.2.enable && (slotsInUse p.1).any fun q => overlaps base len (p.2.base q) p.2.bytes).map (·.1)

/-- Checks 2 to 6 of R174 for one slot: the detail of the first that fails. -/
def slotFault (areas : List (Nat × Nat)) (descs : List (Fin 32 × Descriptor)) (src : Fin 32) (d : Descriptor)
    (slot : Fin 3) : Option Nat :=
  let base := d.base slot
  if base % Config.unit ≠ 0 then some (2 + 256 * slot.val)
  else if Config.memSize < base + d.bytes then some (3 + 256 * slot.val)
  else if (slotsInUse src).any fun q => decide (q < slot) && overlaps base d.bytes (d.base q) d.bytes then
    some (4 + 256 * slot.val)
  else if areas.any fun a => overlaps base d.bytes a.1 a.2 then some (5 + 256 * slot.val)
  else (firstNeighbour descs src base d.bytes).map fun q => 6 + 256 * slot.val + 65536 * q.val

/-- The check of an enabled descriptor (R174): the detail of the first check that fails. -/
def descriptorFault (areas : List (Nat × Nat)) (descs : List (Fin 32 × Descriptor)) (src : Fin 32) (d : Descriptor) :
    Option Nat :=
  if d.enable then
    if d.size < 5 ∨ 9601 < d.size then some 1
    else (slotsInUse src).findSome? fun slot => slotFault areas descs src d slot
  else none

/-! ## Roles (R87) -/

/-- The slot that holds a role, the lowest-numbered one where several do. -/
def Source.slotWith (c : Source) (r : Role) : Option (Fin 3) :=
  (List.finRange 3).find? fun i => c.roles[i] = some r

/-- A slot takes a role. -/
def Source.setRole (c : Source) (i : Fin 3) (r : Role) : Source := { c with roles := vset c.roles i (some r) }

/-- A slot, when there is one, takes a role. -/
def Source.setRoleOpt (c : Source) (i : Option (Fin 3)) (r : Role) : Source :=
  match i with
  | some i => c.setRole i r
  | none => c

/-- The base of the FILLING slot (R114). -/
def Source.fillingBase (c : Source) : Nat :=
  match c.slotWith .filling with
  | some i => c.desc.base i
  | none => 0

/-- The base of the SHOWN slot. -/
def Source.shownBase (c : Source) : Nat :=
  match c.slotWith .shown with
  | some i => c.desc.base i
  | none => 0

/-- The roles of the initial state (R88). -/
def initialRoles (src : Fin 32) : Vector (Option Role) 3 :=
  if isCapture src then #v[some .filling, some .spare, some .spare] else #v[some .filling, some .spare, none]

/-- The initial state of a source with an enabled descriptor (R88). -/
def Source.initial (src : Fin 32) (d : Descriptor) : Source :=
  { Source.unloaded with desc := d, roles := initialRoles src, expected := if isCapture src then 0 else 1 }

/-- A source disabled: its counters keep their values, the rest goes (R102). That the fields of its descriptor beside the
enable are those that came with it is the model's choice (notes/assumptions/39.md). -/
def Source.disabled (c : Source) (d : Descriptor) : Source :=
  { Source.unloaded with
    desc := d, before := c.before, published := c.published, superseded := c.superseded, torn := c.torn,
    oversize := c.oversize, badFrame := c.badFrame, expired := c.expired }

/-- A source unloaded by LOAD or STOP: its counters keep their values (R106). -/
def Source.unload (c : Source) : Source := { c.disabled Descriptor.unloaded with before := .none }

/-- A source after a successful LOAD with a descriptor (R88, R102, R106). -/
def Source.loaded (src : Fin 32) (d : Descriptor) : Source :=
  if d.enable then Source.initial src d else { Source.unloaded with desc := d }

/-! ## Publication and promotion (R89, R93, R95) -/

/-- Capture publication of a frame of `w` by `h` (R89, steps 1 to 3). -/
def Source.publish (c : Source) (w h : Nat) : Source :=
  let oldReady := c.slotWith .ready
  let a := { (c.setRoleOpt (c.slotWith .filling) .ready) with sequence := c.sequence + 1, readyW := w, readyH := h }
  match oldReady with
  | some r => { (a.setRole r .filling) with superseded := satInc c.superseded }
  | none => a.setRoleOpt (c.slotWith .spare) .filling

/-- A capture source has a frame that step 2 of R92 promotes (R93). -/
def Source.promotable (c : Source) : Bool := !c.frozen && (c.slotWith .ready).isSome

/-- Promotion of a capture source (R93). -/
def Source.promote (c : Source) : Source :=
  let a := c.setRoleOpt (c.slotWith .shown) .spare
  { (a.setRoleOpt (c.slotWith .ready) .shown) with
    shownW := c.readyW, shownH := c.readyH, age := 0, published := satInc c.published }

/-- Publication of a memory source's picture (R95, first case). -/
def Source.publishMemory (c : Source) (w h : Nat) : Source :=
  let next := match c.slotWith .shown with | some i => some i | none => c.slotWith .spare
  let a := c.setRoleOpt (c.slotWith .filling) .shown
  { (a.setRoleOpt next .filling) with
    shownW := w, shownH := h, age := 0, published := satInc c.published, expected := c.expected + 1 }

/-- A header's width and height are good (R95). -/
def Source.goodHeader (c : Source) (w h : Nat) : Bool :=
  decide (1 ≤ w) && decide (w ≤ 4096) && decide (1 ≤ h) && decide (h ≤ 2400) && decide (16 + w * h * 4 ≤ c.desc.bytes)

/-- A tag used up by a bad header (R95, second case). -/
def Source.useUpTag (c : Source) : Source := { c with badFrame := satInc c.badFrame, expected := c.expected + 1 }

/-! ## Age, expiry, presentation (R96 to R98) -/

/-- A millisecond interval (R98). -/
def Source.aged (c : Source) : Source :=
  if c.desc.enable && (c.slotWith .shown).isSome && !c.frozen then { c with age := if c.age < Config.maxAge then c.age + 1 else c.age }
  else c

/-- Several millisecond intervals. -/
def Source.agedBy (c : Source) : Nat → Source
  | 0 => c
  | n + 1 => (c.agedBy n).aged

/-- Step 3 of R92 expires the frame on view (R96). -/
def Source.expires (c : Source) : Bool :=
  (c.slotWith .shown).isSome && c.desc.expiryLimit != 0 && decide (c.desc.expiryLimit ≤ c.age)

/-- Expiry (R96). -/
def Source.expire (c : Source) : Source :=
  { (c.setRoleOpt (c.slotWith .shown) .spare) with age := 0, expired := satInc c.expired, shownW := 0, shownH := 0 }

/-- The presentation R97 gives. -/
def Source.judged (c : Source) : Presentation :=
  if !c.desc.enable || (c.slotWith .shown).isNone then .none
  else if c.desc.staleLimit ≠ 0 ∧ c.desc.staleLimit ≤ c.age then .stale
  else .fresh

/-- Step 4 of R92 (R97). -/
def Source.decide (c : Source) : Source := { c with presentation := c.judged }

/-- Step 4 has changed the presentation of the wall frame before (R97). -/
def Source.presentationMoved (c : Source) : Bool := c.presentation != c.before

/-- Steps 3 and 4 of R92 when step 2 promoted nothing. -/
def Source.finish (c : Source) : Source := (if c.expires then c.expire else c).decide

/-- Whether steps 3 and 4 set SOURCE_EVENT (R96, R97). -/
def Source.finishEvent (c : Source) : Bool := c.expires || c.finish.presentationMoved

/-! ## Step 1 of R92: what a group commits (R100, R101) -/

/-- One pending item as it acts on source `src`; an item that names another source leaves it. -/
def Source.applyItem (src : Fin 32) (c : Source) : SourceItem → Source
  | .config q d =>
    if q = src then (if d.enable then { Source.initial src d with before := c.before } else c.disabled d) else c
  | .freeze q on => if q = src && c.desc.enable then { c with frozen := on } else c

/-- Whether a pending item reconfigures source `src`. -/
def SourceItem.configures (src : Fin 32) : SourceItem → Bool
  | .config q _ => q == src
  | .freeze _ _ => false

/-- Step 1: the presentation of the wall frame before is noted, and the items act in order. -/
def Source.commit (src : Fin 32) (items : List SourceItem) (c : Source) : Source :=
  items.foldl (Source.applyItem src) { c with before := c.presentation }

/-- After step 1 the source unit reads the source's FILLING slot header (R94). -/
def Source.readsHeader (src : Fin 32) (c : Source) : Bool := c.desc.enable && !isCapture src && !c.frozen

/-- Steps 2 to 4 of R92 for a source whose header is not read. -/
def Source.frame (src : Fin 32) (c : Source) : Source :=
  if c.desc.enable then (if isCapture src && c.promotable then c.promote.decide else c.finish)
  else c.decide

/-- Whether those steps set SOURCE_EVENT. -/
def Source.frameEvent (src : Fin 32) (c : Source) : Bool :=
  if c.desc.enable then (if isCapture src && c.promotable then c.promote.decide.presentationMoved else c.finishEvent)
  else c.decide.presentationMoved

/-- Steps 2 to 4 for a memory source once its header has been read (R95 to R97). -/
def Source.judgeHeader (c : Source) (header : List Byte) : Source :=
  if headerTag header = c.expected then
    if c.goodHeader (headerWidth header) (headerHeight header) then
      (c.publishMemory (headerWidth header) (headerHeight header)).decide
    else c.useUpTag.finish
  else c.finish

/-- Whether those steps set SOURCE_EVENT (R105). R101 has SOURCE_EVENT set where a reset source was FRESH or STALE before,
R97 and R105 where the presentation has changed; the rules differ for a memory source that was FRESH, is reset and
publishes its header of tag 1 at the same start. That it then sets none, FRESH to FRESH, is the model's choice
(notes/assumptions/36.md). -/
def Source.judgeEvent (c : Source) (header : List Byte) : Bool :=
  if headerTag header = c.expected then
    if c.goodHeader (headerWidth header) (headerHeight header) then
      (c.publishMemory (headerWidth header) (headerHeight header)).decide.presentationMoved
    else true
  else c.finishEvent

end Sys2Proof.Machine
end

