-- ==== Sys2Proof/Machine/Capture.lean ====
section
/-! DEFINITION. Capture inputs (chapter 6): measuring frames, locking, the line FIFO, judging a frame, congestion mode, reports, and loss of signal. -/

namespace Sys2Proof.Machine

open Sys2Proof

/-! ## Measurement (R108) -/

/-- A frame as its frame-start mark begins it. -/
def CaptureFrame.begun (written skipped : Bool) : CaptureFrame :=
  { lines := 0, width := none, agree := true, inLine := false, pixels := 0, written := written, skipped := skipped,
    torn := false, mismatch := false }

/-- The measurement after the line in progress, when there is one, has ended. -/
def CaptureFrame.closeLine (f : CaptureFrame) : CaptureFrame :=
  if f.inLine then
    match f.width with
    | none => { f with inLine := false, width := some f.pixels }
    | some w => { f with inLine := false, agree := f.agree && w == f.pixels }
  else f

/-- The dimensions of an ended frame, when it has them. -/
def CaptureFrame.dims (f : CaptureFrame) : Option (Nat × Nat) :=
  match f.width with
  | some w => if f.agree ∧ 1 ≤ f.lines then some (w, f.lines) else none
  | none => none

/-- Dimensions in range (R108). -/
def dimsInRange (d : Nat × Nat) : Bool :=
  decide (64 ≤ d.1) && decide (d.1 ≤ 4096) && decide (64 ≤ d.2) && decide (d.2 ≤ 2400)

/-! ## The line FIFO (R114, R115) -/

/-- The byte offset of a line of a frame from its slot's base, for locked width `w` (R114). -/
def lineOffset (w row : Nat) : Nat := 16 + 4 * (row * w)

/-- A transfer at the port no longer belongs to a line of the FIFO: it is carried out and nothing follows it. -/
def orphan (ts : List Transfer) : List Transfer := ts.map fun t => { t with tag := 0 }

/-- The lines that stay when the frame in progress is discarded: those of the ended good frame, and a line of a torn
frame kept for its waiting transfer (R115). -/
def keptLines (fifo : List FifoLine) : List FifoLine := fifo.filter fun l => l.prior || l.dead

/-- The oldest line belongs to the frame in progress. -/
def headCurrent (fifo : List FifoLine) : Bool :=
  match fifo with
  | l :: _ => !l.prior && !l.dead
  | [] => false

/-- The FIFO of a frame marked torn (R115): its lines are discarded, except the one with a transfer at the port. -/
def tornFifo (fifo : List FifoLine) (waiting : Bool) : List FifoLine :=
  match fifo with
  | l :: rest => if waiting && headCurrent fifo then { l with dead := true } :: keptLines rest else keptLines fifo
  | [] => []

/-- The lines of the frame in progress leave the FIFO and a waiting transfer of theirs is orphaned. -/
def State.dropCurrentLines (s : State) (c : Fin 16) : State :=
  let i := s.inputs[c]
  let t := s.setInput c { i with fifo := keptLines i.fifo }
  if headCurrent i.fifo then t.setQueue (.capture c) (orphan (s.port.queue (.capture c))) else t

/-- The bytes of a line that have been received. -/
def FifoLine.bytes (l : FifoLine) : List Byte := l.pixels.flatMap pixelBytes

/-- The transfers of a whole line of locked width `w` into the slot at `base`, as address and length (R114). -/
def linePieces (base w row : Nat) : List (Nat × Nat) := areaPieces (base + lineOffset w row) (4 * w)

/-- The transfer an input issues next (R114, R115): the first piece of the oldest line not yet granted, once its
pixels have arrived; a line of the frame in progress waits until the good frame before it has been reported and the
report taken. -/
def CaptureInput.nextTransfer (i : CaptureInput) (base : Nat) : Option Transfer :=
  match i.fifo with
  | [] => none
  | l :: _ =>
    if l.dead || (!l.prior && (i.good.isSome || i.report.isSome)) then none
    else
      match (linePieces base i.lockedW l.row)[l.sent]? with
      | none => none
      | some p =>
        let from_ := p.1 - (base + lineOffset i.lockedW l.row)
        if from_ + p.2 ≤ l.bytes.length then some ⟨p.1, .write ((l.bytes.drop from_).take p.2), 1⟩ else none

/-- An input with no transfer at the port issues its next one. -/
def State.captureIssue (s : State) (c : Fin 16) : State :=
  if (s.port.queue (.capture c)).isEmpty then
    match (s.inputs[c]).nextTransfer (s.channel (captureSource c)).fillingBase with
    | some t => s.setQueue (.capture c) [t]
    | none => s
  else s

/-- The FIFO after the port has granted a transfer of its oldest line (R115): the line leaves with its last transfer,
a line of a torn frame at once. -/
def CaptureInput.lineGranted (i : CaptureInput) (base : Nat) : CaptureInput :=
  match i.fifo with
  | [] => i
  | l :: rest =>
    if l.dead || (linePieces base i.lockedW l.row).length ≤ l.sent + 1 then { i with fifo := rest }
    else { i with fifo := { l with sent := l.sent + 1 } :: rest }

/-- The port has granted a capture transfer: `tag` 1 when it belongs to the oldest line of the FIFO. -/
def State.captureGranted (s : State) (c : Fin 16) (tag : Nat) : State :=
  let t := if tag = 1 then s.setInput c ((s.inputs[c]).lineGranted (s.channel (captureSource c)).fillingBase) else s
  t.captureIssue c

/-! ## Lines and pixels -/

/-- The line in progress of the frame in progress ends (R108). When its width differs from the locked one, a written
frame is marked mismatched and its lines are discarded (R114). -/
def State.endLine (s : State) (c : Fin 16) : State :=
  let i := s.inputs[c]
  match i.frame with
  | none => s
  | some f =>
    let bad := f.written && f.inLine && f.pixels != i.lockedW
    let t := s.setInput c { i with frame := some { f.closeLine with mismatch := f.mismatch || bad } }
    if bad then t.dropCurrentLines c else t

/-- The transfer that waits at the port belongs to the oldest line of the FIFO (tag 1): an orphan of an abandoned line
does not. -/
def State.lineWaits (s : State) (c : Fin 16) : Bool :=
  match s.port.queue (.capture c) with
  | x :: _ => x.tag == 1
  | [] => false

/-- The new line of a written frame takes a place in the FIFO, or is dropped and the frame is marked torn (R115). -/
def State.enterLine (s : State) (c : Fin 16) (row : Nat) : State :=
  let i := s.inputs[c]
  match i.frame with
  | none => s
  | some f =>
    if i.lockedH ≤ row then
      (s.setInput c { i with frame := some { f with mismatch := true } }).dropCurrentLines c
    else if f.torn || f.mismatch then s
    else if i.fifo.length < Config.fifoLines then
      s.setInput c { i with fifo := i.fifo ++ [⟨row, [], 0, false, false⟩] }
    else
      s.setInput c
        { i with
          frame := some { f with torn := true }
          fifo := tornFifo i.fifo (s.lineWaits c) }

/-- A line-start mark begins a line of the frame in progress (R108, R114, R115). -/
def State.lineStartMark (s : State) (c : Fin 16) : State :=
  let t := s.endLine c
  let i := t.inputs[c]
  match i.frame with
  | none => t
  | some f =>
    let u := t.setInput c { i with frame := some { f with lines := min 2401 (f.lines + 1), inLine := true, pixels := 0 } }
    let v := if f.written then u.enterLine c f.lines else u
    v.captureIssue c

/-- A pixel kept in the FIFO place of its line: the youngest one. -/
def keepPixel (p : Colour) : List FifoLine → List FifoLine
  | [] => []
  | [l] => if l.prior || l.dead then [l] else [{ l with pixels := l.pixels ++ [p] }]
  | l :: rest => l :: keepPixel p rest

/-- A pixel is counted, and kept when its line has a place and its column lies below the locked width (R114). -/
def State.pixel (s : State) (c : Fin 16) (p : Colour) : State :=
  let i := s.inputs[c]
  match i.frame with
  | none => s
  | some f =>
    if f.inLine then
      let keep := f.written && !f.torn && !f.mismatch && decide (f.pixels < i.lockedW)
      let t := s.setInput c
        { i with
          frame := some { f with pixels := min 4097 (f.pixels + 1) }
          fifo := if keep then keepPixel p i.fifo else i.fifo }
      t.captureIssue c
    else s

/-! ## Acquiring and locking (R110 to R112) -/

/-- OVERSIZE for locked dimensions and a descriptor (R112). -/
def tooLarge (d : Descriptor) (w h : Nat) : Bool := decide (d.bytes < 16 + w * h * 4)

/-- The candidate and its count after a frame of ACQUIRING has ended (R111). -/
def CaptureInput.candidateAfter (i : CaptureInput) (dims : Option (Nat × Nat)) : Option (Nat × Nat) × Nat :=
  match dims with
  | none => (none, 0)
  | some d => if i.candidate = some d then (some d, min 3 (i.count + 1)) else (some d, 1)

/-- The dimensions at which an ended frame of ACQUIRING locks the input, when it does (R111). -/
def CaptureInput.locksAt (i : CaptureInput) (dims : Option (Nat × Nat)) : Option (Nat × Nat) :=
  match i.candidateAfter dims with
  | (some d, n) => if n = 3 ∧ dimsInRange d = true then some d else none
  | (none, _) => none

/-- An input moved to LOCKED (R111, R112). -/
def CaptureInput.locked (i : CaptureInput) (d : Descriptor) (w h : Nat) : CaptureInput :=
  { i with
    state := .locked, candidate := none, count := 0, lockedW := w, lockedH := h, oversize := tooLarge d w h, tornRun := 0,
    cleanRun := 0, lastWritten := false }

/-- The frame that a mark begins (R114, R118). -/
def CaptureInput.beginFrame (i : CaptureInput) : CaptureInput :=
  if i.state == .locked && !i.oversize then
    let written := !i.halved || !i.lastWritten
    { i with frame := some (CaptureFrame.begun written !written), lastWritten := written, loss := 0 }
  else { i with frame := some (CaptureFrame.begun false false), loss := 0 }

/-! ## Judging a frame (R116, R117, R119) -/

/-- The outcome of a judged frame (R116). -/
inductive Judgement where
  | mismatch
  | oversize
  | torn
  | good
deriving DecidableEq, Repr

/-- The first test of R116 that holds. -/
def CaptureInput.judge (i : CaptureInput) (f : CaptureFrame) : Judgement :=
  if f.dims ≠ some (i.lockedW, i.lockedH) ∨ f.mismatch = true then .mismatch
  else if i.oversize then .oversize
  else if f.torn then .torn
  else .good

/-- An input that has judged a mismatch: ACQUIRING with the frame's dimensions as candidate; the congestion mode is
kept (R116) and the FIFO is emptied (R115). A good frame before it whose last line had left the FIFO is reported all the
same (R117); one whose lines go with the FIFO is not. -/
def CaptureInput.mismatched (i : CaptureInput) (f : CaptureFrame) : CaptureInput :=
  { i with
    state := .acquiring, candidate := f.dims, count := if f.dims.isSome then 1 else 0, lockedW := 0, lockedH := 0,
    oversize := false, tornRun := 0, cleanRun := 0, fifo := [],
    good := if i.fifo.any (fun l => l.prior) then none else i.good, lastWritten := false }

/-- The congestion mode after a torn frame (R119). -/
def CaptureInput.afterTorn (i : CaptureInput) : CaptureInput :=
  if i.halved then { i with cleanRun := 0 }
  else if Config.tornLimit ≤ i.tornRun + 1 then { i with halved := true, tornRun := 0, cleanRun := 0 }
  else { i with tornRun := i.tornRun + 1 }

/-- The congestion mode after a good frame (R119). -/
def CaptureInput.afterGood (i : CaptureInput) : CaptureInput :=
  if i.halved then
    if Config.cleanLimit ≤ i.cleanRun + 1 then { i with halved := false, tornRun := 0, cleanRun := 0 }
    else { i with cleanRun := i.cleanRun + 1 }
  else { i with tornRun := 0 }

/-- A good frame whose lines in the FIFO are still to be written and which has still to be reported (R117). -/
def CaptureInput.toReport (i : CaptureInput) : CaptureInput :=
  { i with
    good := some (i.lockedW, i.lockedH)
    fifo := i.fifo.map fun l => if l.dead then l else { l with prior := true } }

/-- The input and its source's channel after a frame of LOCKED has been judged (R116). -/
def judgeLocked (i : CaptureInput) (ch : Source) (f : CaptureFrame) : CaptureInput × Source :=
  match i.judge f with
  | .mismatch => (i.mismatched f, ch)
  | .oversize => (i, { ch with oversize := satInc ch.oversize })
  | .torn => ({ i with fifo := keptLines i.fifo }.afterTorn, { ch with torn := satInc ch.torn })
  | .good => (i.toReport.afterGood, ch)

/-- The input and its source's channel after the ended frame has acted, before the new frame begins. -/
def endFrame (i : CaptureInput) (ch : Source) : CaptureInput × Source :=
  match i.state, i.frame with
  | .noSignal, _ => ({ i with state := .acquiring, candidate := none, count := 0 }, ch)
  | .acquiring, none => (i, ch)
  | .acquiring, some f =>
    match i.locksAt f.dims with
    | some d => (i.locked ch.desc d.1 d.2, ch)
    | none => ({ i with candidate := (i.candidateAfter f.dims).1, count := (i.candidateAfter f.dims).2 }, ch)
  | .locked, none => (i, ch)
  | .locked, some f => if f.skipped then (i, ch) else judgeLocked i ch f

/-- A frame-start mark (R108): the frame in progress ends and is judged, and the next frame begins, as one event. -/
def State.frameStartMark (s : State) (c : Fin 16) : State :=
  let src := captureSource c
  let t := s.endLine c
  let i := t.inputs[c]
  let (ended, ch) := endFrame i (t.channel src)
  let u := (t.setInput c ended.beginFrame).setChannel src ch
  let v := if (!i.fifo.isEmpty && ended.fifo.isEmpty) then u.setQueue (.capture c) (orphan (t.port.queue (.capture c))) else u
  (v.raiseIf (ended.state != i.state || ended.halved != i.halved) causeSourceEvent).captureIssue c

/-! ## Reports (R117) -/

/-- No line of the ended good frame is left in the FIFO. -/
def CaptureInput.reportDue (i : CaptureInput) : Bool := i.good.isSome && !(i.fifo.any fun l => l.prior)

/-! ## Loss of signal (R113) and reconfiguration (R121) -/

/-- The loss counter is about to reach 250 in ACQUIRING or LOCKED. -/
def CaptureInput.losing (i : CaptureInput) : Bool :=
  i.state != .noSignal && decide (Config.lossLimit ≤ i.loss + 1)

/-- An input that has lost its signal (R113). A report that has been made stays. -/
def CaptureInput.lost (i : CaptureInput) : CaptureInput := { CaptureInput.initial with report := i.report }

/-- A millisecond interval (R113). -/
def CaptureInput.ticked (i : CaptureInput) : CaptureInput :=
  if i.state == .noSignal then i else if i.losing then i.lost else { i with loss := i.loss + 1 }

end Sys2Proof.Machine
end

