-- ==== Sys2Proof/Machine/Alarms.lean ====
section
/-! DEFINITION. Alarm contact inputs (chapter 7): sampling, debounce, the alarm state machine, clears and the raised set. -/

namespace Sys2Proof.Machine

open Sys2Proof

/-- An input's group is raised while its alarm state is ACTIVE, ACKED or LATCHED (R131). -/
def AlarmInput.raised (a : AlarmInput) : Bool := a.state != .idle

/-- A set of groups from its members. -/
def groupsOf (f : Fin 8 → Bool) : Groups :=
  BitVec.ofNat 8 ((List.finRange 8).map fun i => if f i then 2 ^ i.val else 0).sum

/-- The raised set (R131). -/
def raisedSet (alarms : Vector AlarmInput 8) : Groups := groupsOf fun i => (alarms[i]).raised

/-- A contact level turned into asserted (true) or released through the polarity (R125). -/
def AlarmInput.reads (a : AlarmInput) (high : Bool) : Bool := if a.config.lowAsserts then !high else high

/-- The move of the alarm state at a debounced change to `level` (R127). -/
def AlarmState.moved (st : AlarmState) (level : Bool) : AlarmState :=
  match level, st with
  | true, .idle => .active
  | true, .latched => .active
  | true, .active => .active
  | true, .acked => .acked
  | false, .active => .latched
  | false, .acked => .idle
  | false, .idle => .idle
  | false, .latched => .latched

/-- Whether a sample is the D-th in a row that differs from the debounced level (R126). -/
def AlarmInput.settles (a : AlarmInput) (level : Bool) : Bool :=
  a.config.enable && level != a.level && decide (a.config.debounce ≤ a.count + 1)

/-- An input after a debounced change to `level` (R126, R127). -/
def AlarmInput.change (a : AlarmInput) (level : Bool) : AlarmInput :=
  { a with level := level, count := 0, state := a.state.moved level }

/-- An input after a sample (R126); a disabled input is not sampled (R125). -/
def AlarmInput.sampled (a : AlarmInput) (level : Bool) : AlarmInput :=
  if a.config.enable then
    if level = a.level then { a with count := 0 }
    else if a.settles level then a.change level
    else { a with count := a.count + 1 }
  else a

/-- The alarm state after a clear (R128). -/
def AlarmState.cleared : AlarmState → AlarmState
  | .active => .acked
  | .latched => .idle
  | .idle => .idle
  | .acked => .acked

/-- Whether a clear moves the alarm state (R128). -/
def AlarmState.clearMoves : AlarmState → Bool
  | .active => true
  | .latched => true
  | .idle => false
  | .acked => false

/-- The detail a clear returns: the state it found (R128). -/
def AlarmState.found : AlarmState → Nat
  | .idle => 0
  | .active => 1
  | .acked => 2
  | .latched => 3

/-- A group's clears applied in order: the inputs after them, whether any moved, and what each found (R128, R129). -/
def applyClears : List (Nat × Fin 8) → Vector AlarmInput 8 → Vector AlarmInput 8 × Bool × List (Nat × Nat)
  | [], alarms => (alarms, false, [])
  | (pos, i) :: rest, alarms =>
    let a := alarms[i]
    let (after, moved, found) := applyClears rest (vset alarms i { a with state := a.state.cleared })
    (after, a.state.clearMoves || moved, (pos, a.state.found) :: found)

/-- An input after a successful or a failed LOAD, or a LOAD taken (R135), with the configuration given. -/
def AlarmInput.loaded (config : AlarmConfig) : AlarmInput := { AlarmInput.unloaded with config := config }

/-- An input after STOP: its configuration is unloaded, the rest keeps its value (R135, R136). What an unloaded configuration
holds is the model's choice (notes/assumptions/38.md). -/
def AlarmInput.stopped (a : AlarmInput) : AlarmInput := { a with config := AlarmInput.unloaded.config }

end Sys2Proof.Machine
end

