-- ==== Sys2Proof/Machine/Windows.lean ====
section
/-! DEFINITION. Windows and window tables (chapter 2): derived values, drawn and raised windows, the effective stacking order, the range checks of a record, and the operations that edit a table. -/

namespace Sys2Proof.Machine

open Sys2Proof

/-! ## Derived values (R22) -/

/-- The effective border (R22). -/
def WindowRec.effBorder (w : WindowRec) : Nat := min w.border (min (w.w / 2) (w.h / 2))

/-- The interior width (R22). -/
def WindowRec.interiorW (w : WindowRec) : Nat := w.w - 2 * w.effBorder

/-- The interior height (R22). -/
def WindowRec.interiorH (w : WindowRec) : Nat := w.h - 2 * w.effBorder

/-! ## Raised and drawn windows (R24, R26) -/

/-- A window is raised under a set that shares a group with its alarm mask (R24). -/
def WindowRec.raised (w : WindowRec) (R : Groups) : Bool := (w.mask &&& R) != 0

/-- A window is drawn when VISIBLE is set and either ALARM_ONLY is clear or it is raised (R24). -/
def WindowRec.drawn (w : WindowRec) (R : Groups) : Bool := w.visible && (!w.alarmOnly || w.raised R)

/-- The windows of a table in the order of its stacking list, bottom first. -/
def Table.stacked (t : Table) : List (Fin 64 × WindowRec) :=
  t.stack.filterMap fun i => (t.records[i]).map fun w => (i, w)

/-- The effective stacking order under R, bottom first (R26). -/
def Table.effective (t : Table) (R : Groups) : List (Fin 64 × WindowRec) :=
  (t.stacked.filter fun p => p.2.drawn R && !p.2.raised R) ++ t.stacked.filter fun p => p.2.drawn R && p.2.raised R

/-- The drawn raised windows alone, in the order of the stacking list (R56). -/
def Table.raisedOnly (t : Table) (R : Groups) : List (Fin 64 × WindowRec) :=
  t.stacked.filter fun p => p.2.drawn R && p.2.raised R

/-! ## The ranges of a record (R20, R161) -/

/-- The record offset of the first field outside its range, in layout order (R158, R161, R198). -/
def WindowRec.fault (w : WindowRec) : Option Nat :=
  if 63 < w.id then some 0
  else if 31 < w.source ∧ w.source < 255 then some 2
  else if 16383 < w.x then some 4
  else if 16383 < w.y then some 6
  else if w.w = 0 ∨ 16383 < w.w ∨ 16384 < w.x + w.w then some 8
  else if w.h = 0 ∨ 16383 < w.h ∨ 16384 < w.y + w.h then some 10
  else if 4095 < w.sx then some 12
  else if 2399 < w.sy then some 14
  else if 4096 < w.sw ∨ 4096 < w.sx + w.sw then some 16
  else if 2400 < w.sh ∨ 2400 < w.sy + w.sh then some 18
  else if 15 < w.border then some 20
  else none

/-! ## The operations on a table (R27 to R32) -/

/-- Windows in a table. -/
def Table.count (t : Table) : Nat := t.stack.length

/-- Whether an id is present. -/
def Table.has (t : Table) (i : Fin 64) : Bool := (t.records[i]).isSome

/-- The position of an id in the stacking list, 0 at the bottom (R159). -/
def Table.position (t : Table) (i : Fin 64) : Nat := t.stack.idxOf i

/-- PUT (R28): an absent id goes to the top of the stack, a present one keeps its position. -/
def Table.put (t : Table) (i : Fin 64) (w : WindowRec) : Table :=
  { records := vset t.records i (some w)
    stack := if t.has i then t.stack else t.stack ++ [i] }

/-- The stacking list without an id. -/
def withoutId (stack : List (Fin 64)) (i : Fin 64) : List (Fin 64) := stack.filter fun j => j != i

/-- REMOVE (R29). -/
def Table.remove (t : Table) (i : Fin 64) : Table :=
  { records := vset t.records i none
    stack := withoutId t.stack i }

/-- A placement (R30). -/
inductive Placement where
  | top
  | bottom
  | above (ref : Fin 64)
  | below (ref : Fin 64)
deriving DecidableEq, Repr

/-- An id put into the list directly after a reference. -/
def insertAfter (stack : List (Fin 64)) (ref i : Fin 64) : List (Fin 64) :=
  stack.flatMap fun j => if j = ref then [j, i] else [j]

/-- An id put into the list directly before a reference. -/
def insertBefore (stack : List (Fin 64)) (ref i : Fin 64) : List (Fin 64) :=
  stack.flatMap fun j => if j = ref then [i, j] else [j]

/-- RESTACK (R30): the id is taken out of the list and inserted again. -/
def Table.restack (t : Table) (i : Fin 64) (p : Placement) : Table :=
  let rest := withoutId t.stack i
  { t with
    stack :=
      match p with
      | .top => rest ++ [i]
      | .bottom => i :: rest
      | .above ref => insertAfter rest ref i
      | .below ref => insertBefore rest ref i }

end Sys2Proof.Machine
end

