-- ==== Sys2Proof/Machine/Bands.lean ====
section
/-! DEFINITION. The build of one tile's band table (section 3.2): boundary rows, claiming columns, spans, merging and the capacity limits. -/

namespace Sys2Proof.Machine

open Sys2Proof

/-- The canvas pixel lies in a window (R23). -/
def WindowRec.covers (w : WindowRec) (cx cy : Nat) : Bool :=
  decide (w.x ≤ cx) && decide (cx < w.x + w.w) && decide (w.y ≤ cy) && decide (cy < w.y + w.h)

/-- The canvas pixel lies in a window's interior (R23). -/
def WindowRec.inInterior (w : WindowRec) (cx cy : Nat) : Bool :=
  let b := w.effBorder
  decide (w.x + b ≤ cx) && decide (cx + b < w.x + w.w) && decide (w.y + b ≤ cy) && decide (cy + b < w.y + w.h)

/-- What claims a canvas pixel, walking the windows from the top down (R44): the first that covers it. -/
def claim : List (Fin 64 × WindowRec) → (cx cy : Nat) → SpanKind
  | [], _, _ => .background
  | (i, w) :: below, cx, cy =>
    if w.covers cx cy then (if w.inInterior cx cy then .image i else .border i) else claim below cx cy

/-- Maximal runs of equal neighbours as spans, from a start column on (R45). -/
def spansFrom : Nat → List SpanKind → List Span
  | _, [] => []
  | c, k :: ks =>
    match spansFrom (c + 1) ks with
    | [] => [⟨c, 1, k⟩]
    | sp :: rest => if sp.kind = k then ⟨c, sp.len + 1, k⟩ :: rest else ⟨c, 1, k⟩ :: sp :: rest

/-- The span list of a tile row (R44, R45). `order` is the effective stacking order, bottom first. -/
def rowSpans (tile : TileRec) (order : List (Fin 64 × WindowRec)) (row : Nat) : List Span :=
  spansFrom 0 ((List.range tile.width).map fun c => claim order.reverse (tile.x + c) (tile.y + row))

/-- A row put into an ascending list, unless it stands there already. -/
def insertRow (r : Nat) : List Nat → List Nat
  | [] => [r]
  | q :: qs => if r < q then r :: q :: qs else if r = q then q :: qs else q :: insertRow r qs

/-- The four canvas rows at which a window's relation to a row changes (R43). -/
def WindowRec.edges (w : WindowRec) : List Nat :=
  [w.y, w.y + w.effBorder, w.y + w.h - w.effBorder, w.y + w.h]

/-- The boundary rows of a tile: row 0 and the edges strictly between 0 and its height, ascending (R43). -/
def boundaryRows (tile : TileRec) (order : List (Fin 64 × WindowRec)) : List Nat :=
  let edges := order.flatMap fun p => p.2.edges
  let inside := (edges.filter fun v => decide (tile.y < v) && decide (v < tile.y + tile.height)).map fun v => v - tile.y
  inside.foldr insertRow [0]

/-- Bands that follow a band with span list `prev`, each equal to the one before it joined to it (R46). -/
def mergeAfter (prev : List Span) : List Band → List Band
  | [] => []
  | b :: bs => if b.spans = prev then mergeAfter prev bs else b :: mergeAfter b.spans bs

/-- A band table with neighbouring bands of equal span lists joined (R46). -/
def mergeBands : List Band → List Band
  | [] => []
  | b :: bs => b :: mergeAfter b.spans bs

/-- The merged band table of a tile for windows in effective stacking order (R43 to R46). -/
def buildBands (tile : TileRec) (order : List (Fin 64 × WindowRec)) : List Band :=
  mergeBands ((boundaryRows tile order).map fun r => ⟨r, rowSpans tile order r⟩)

/-- The span count of a band table (R40). -/
def spanCount (bands : List Band) : Nat := (bands.map fun b => b.spans.length).sum

/-- The code of the first limit that a band table fails (R48). -/
def limitCode (allowance : Nat) (bands : List Band) : Option Nat :=
  if bands.any fun b => decide (Config.maxSpansPerBand < b.spans.length) then some 1
  else if Config.maxBands < bands.length then some 2
  else if allowance < spanCount bands then some 3
  else none

/-- One band of one BACKGROUND span of the tile's full width (R41, R57). -/
def backgroundBands (tile : TileRec) : List Band := [⟨0, [⟨0, tile.width, .background⟩]⟩]

/-- Spans taken from the pool by the tiles of a bank before tile t (R49). -/
def spansTaken (bank : Bank) (t : Fin 16) : Nat :=
  ((List.finRange 16).map fun u =>
    if u < t then (match bank.tiles[u] with | some tt => spanCount tt.bands | none => 0) else 0).sum

/-- Enabled tiles after tile t. -/
def tilesAfter (cfg : Loaded) (t : Fin 16) : Nat :=
  ((List.finRange 16).filter fun u => decide (t < u) && (cfg.tiles[u]).enable).length

/-- The pool allowance of tile t (R49). -/
def poolAllowance (cfg : Loaded) (bank : Bank) (t : Fin 16) : Nat :=
  Config.poolSpans - spansTaken bank t - tilesAfter cfg t

/-- What building a tile gives: a band table with its mark, or, in a GROUP build, the code of the limit it fails. -/
inductive TileResult where
  | kept (table : TileTable)
  | failed (code : Nat)
deriving DecidableEq, Repr

/-- The build of one tile from a table: kept when it fits; a GROUP build fails on a limit (R55); an ALARM build falls
back to the raised windows alone (R56), and to one background band when those do not fit either (R57). -/
def buildTile (kind : BuildKind) (tile : TileRec) (table : Table) (R : Groups) (allowance : Nat) : TileResult :=
  let bands := buildBands tile (table.effective R)
  match limitCode allowance bands with
  | none => .kept ⟨bands, .normal⟩
  | some code =>
    match kind with
    | .group => .failed code
    | .alarm =>
      let raised := buildBands tile (table.raisedOnly R)
      match limitCode allowance raised with
      | none => .kept ⟨raised, .fallback⟩
      | some _ => .kept ⟨backgroundBands tile, .degraded⟩

/-- The next enabled tile from tile number n on (R42). -/
def nextTile (cfg : Loaded) (n : Nat) : Option (Fin 16) :=
  (List.finRange 16).find? fun t => decide (n ≤ t.val) && (cfg.tiles[t]).enable

/-- The initial bank (R41). -/
def initialBank (cfg : Loaded) : Bank :=
  { builtWith := 0
    tiles := mapBank cfg.tiles fun _ tile => if tile.enable then some ⟨backgroundBands tile, .normal⟩ else none }

/-- Whether some tile of a bank is marked FALLBACK or DEGRADED (R60). -/
def Bank.marked (b : Bank) : Bool :=
  anyBank b.tiles fun _ t => match t with | some tt => tt.mark != .normal | none => false

end Sys2Proof.Machine
end

