-- ==== Sys2Proof/Machine/Builder.lean ====
section
/-! DEFINITION. The band builder's events (section 3.3): starting and restarting builds, changes of the raised set, and the swap. -/

namespace Sys2Proof.Machine

open Sys2Proof

/-- A build of a kind starts or restarts: the shadow is discarded and the raised set is read (R42, R52, R53). -/
def State.startBuild (s : State) (kind : BuildKind) : State :=
  s.withBuilder
    { s.builder with
      state := .building kind 0
      shadow := some { builtWith := raisedSet s.alarms, tiles := Vector.replicate 16 none } }

/-- A change of the raised set reaches the builder: a build restarts with its kind kept (R53), an IDLE builder starts
an ALARM build (R54). -/
def State.raisedChanged (s : State) : State :=
  match s.builder.state with
  | .idle => s.startBuild .alarm
  | .building kind _ => s.startBuild kind
  | .donePending kind => s.startBuild kind

/-- The sample of an alarm input from the levels of the contacts (R125). -/
def AlarmInput.sampleOf (a : AlarmInput) (high : Groups) (i : Fin 8) : Bool := a.reads (high.getLsbD i.val)

/-- The alarm inputs after every enabled one has been sampled (R125, R126). -/
def sampledAll (alarms : Vector AlarmInput 8) (high : Groups) : Vector AlarmInput 8 :=
  mapBank alarms fun i a => a.sampled (a.sampleOf high i)

/-- A sample of one of them is a debounced change (R126). -/
def someSettles (alarms : Vector AlarmInput 8) (high : Groups) : Bool :=
  anyBank alarms fun i a => a.settles (a.sampleOf high i)

/-- The alarm inputs after a piece of work that the time base brings: every enabled one sampled (R125), or one input's
debounced change (R127), which does not come about where the input does not stand before it. -/
def AlarmStep.applied (alarms : Vector AlarmInput 8) : AlarmStep → Vector AlarmInput 8
  | .interval high => sampledAll alarms high
  | .change i level => if (alarms[i]).settles level then vset alarms i ((alarms[i]).change level) else alarms

/-- A piece of work moves an alarm state: every debounced change does (R127), so it sets ALARM_EVENT (R133). -/
def AlarmStep.moves (alarms : Vector AlarmInput 8) : AlarmStep → Bool
  | .interval high => someSettles alarms high
  | .change i level => (alarms[i]).settles level

/-- The alarm contact unit makes its moves, and hands a change of the raised set to the builder (R131). -/
def State.makeMoves (s : State) (alarms : Vector AlarmInput 8) : State :=
  let t := s.withAlarms alarms
  if raisedSet alarms = raisedSet s.alarms then t else t.raisedChanged

/-- One piece of the alarm contact unit's work: ALARM_EVENT when an input moves (R133), and the moves. -/
def State.alarmWork (s : State) (alarms : Vector AlarmInput 8) (moved : Bool) : State :=
  (s.raiseIf moved causeAlarmEvent).makeMoves alarms

/-- The alarm contact unit does a piece of work that the time base brings it. -/
def State.alarmStep (s : State) (step : AlarmStep) : State := s.alarmWork (step.applied s.alarms) (step.moves s.alarms)

/-- The alarm contact unit samples every enabled input as one piece of work (R125, R131). -/
def State.sampleContacts (s : State) (high : Groups) : State := s.alarmStep (.interval high)

/-- A piece of work joins what came after the last wall frame start that is kept. -/
def stepAfter (step : AlarmStep) : List (List AlarmStep) → List (List AlarmStep)
  | [] => []
  | [steps] => [steps ++ [step]]
  | steps :: rest => steps :: stepAfter step rest

/-- The alarm inputs with what the unit has still to take. The clears that come between change no level and no counter
(R128), so the levels and counters are those that the samples taken so far have given. -/
def State.alarmsAhead (s : State) : Vector AlarmInput 8 := s.alarmsLater.flatten.foldl AlarmStep.applied s.alarms

/-- A piece of work reaches the alarm contact unit: it does it at once, or, while the ring processor keeps a wall frame
start, sets ALARM_EVENT at once when a sample settles (R133) and makes the moves once that start has been taken. R129 has
the unit apply the clears of a wall frame start only once the ring processor has taken it, and neither R129 nor R172 says
what becomes of an interval that comes meanwhile: that its moves are made after those clears, so that a page shows no later
move (R137), is the model's (notes/assumptions/21.md). -/
def State.alarmTakes (s : State) (step : AlarmStep) : State :=
  if s.alarmsLater.isEmpty then s.alarmStep step
  else (s.withAlarmsLater (stepAfter step s.alarmsLater)).raiseIf (step.moves s.alarmsAhead) causeAlarmEvent

/-- The builder's state once a change of the raised set has reached it (R53, R54). -/
def BuilderState.restarted : BuilderState → BuilderState
  | .idle => .building .alarm 0
  | .building kind _ => .building kind 0
  | .donePending kind => .building kind 0

/-- Work of the alarm contact unit that took it from `s` to `t` belongs before a wall frame start of which the status writer
has already copied the builder: a change of the raised set in it shows in that copy as the change of the builder that it
made, so that a page shows no such difference beside an IDLE builder (R62; notes/assumptions/21.md). -/
def State.copyFollows (s t : State) : State :=
  if raisedSet t.alarms = raisedSet s.alarms then t
  else t.withStatus { t.status with builder := t.status.builder.restarted }

/-- A piece of the alarm contact unit's work that it had still to take: its ALARM_EVENT was set when it came. `more`: a
later wall frame start is kept. -/
def State.alarmStepLate (more : Bool) (s : State) (step : AlarmStep) : State :=
  let t := s.makeMoves (step.applied s.alarms)
  if more then s.copyFollows t else t

/-- The ring processor has taken the oldest wall frame start it kept: the alarm contact unit does what came after it.
`more`: a later one is kept. -/
def State.alarmsGoOn (s : State) (more : Bool) : State :=
  match s.alarmsLater with
  | [] => s
  | steps :: rest => steps.foldl (State.alarmStepLate more) (s.withAlarmsLater rest)

/-- The kind of the bank that waits to be swapped in, when one does. -/
def State.swapKind (s : State) : Option BuildKind :=
  match s.builder.state with
  | .donePending kind => some kind
  | .building _ _ => none
  | .idle => none

/-- A wall frame start as the builder takes it (R59, R60, R62): a complete shadow becomes active, a GROUP build's
live table takes the draft (R34), and FALLBACK is set for a bank with a marked tile. -/
def State.swap (s : State) : State :=
  match s.swapKind with
  | none => s
  | some kind =>
    let marked := match s.builder.shadow with | some b => b.marked | none => false
    let t := s.withBuilder
      { s.builder with state := .idle, active := s.builder.shadow, shadow := s.builder.active, built := satInc s.builder.built }
    let u := match kind with
      | .group => t.withLive s.ring.draft
      | .alarm => t
    u.raiseIf marked causeFallback

/-- The built-with set of the active bank, empty while none is loaded. -/
def Builder.activeSet (b : Builder) : Groups :=
  match b.active with
  | some bank => bank.builtWith
  | none => 0

/-- The band table a bank holds for a tile. -/
def Bank.bandsOf (b : Bank) (t : Fin 16) : List Band :=
  match b.tiles[t] with
  | some tt => tt.bands
  | none => []

/-- The band table of a tile in the active bank. -/
def State.activeBands (s : State) (t : Fin 16) : List Band :=
  match s.builder.active with
  | some bank => bank.bandsOf t
  | none => []

/-- The mark of a tile in the active bank. -/
def State.activeMark (s : State) (t : Fin 16) : Mark :=
  match s.builder.active with
  | some bank => (match bank.tiles[t] with | some tt => tt.mark | none => .normal)
  | none => .normal

end Sys2Proof.Machine
end

