-- ==== Sys2Proof/Machine/Sampling.lean ====
section
/-! DEFINITION. Sampling and scaling (chapter 4): the scaler state of a window, sample positions, and the blending of source pixels. -/

namespace Sys2Proof.Machine

open Sys2Proof

/-! ## The scaler state (R66 to R70) -/

/-- The effective size of a crop on one axis (R67). -/
def cropSize (first size frame : Nat) : Nat := if size = 0 then frame - first else min size (frame - first)

/-- The step of an axis, after the step clamp (R68). -/
def axisStep (crop interior : Nat) : Nat := min (crop * 65536 / interior) Config.stepClamp

/-- One axis of a NORMAL state (R67 to R70). -/
def axisOf (first size frame interior : Nat) : Axis :=
  let crop := cropSize first size frame
  let step := axisStep crop interior
  { first := first, stop := first + crop, step := step, bilinear := decide (step ≤ Config.bilinearMax),
    start := (first * 65536 + step / 2 : Nat) - (32768 : Int) }

/-- The scaler state of a window whose source shows a frame of `wf` by `hf` at `base` (section 4.1). -/
def scalerOf (id : Fin 64) (w : WindowRec) (base wf hf : Nat) : Scaler :=
  { window := id, source := w.source, base := base, wf := wf, hf := hf,
    axes :=
      if wf ≤ w.sx ∨ hf ≤ w.sy then none
      else some (axisOf w.sx w.sw wf w.interiorW, axisOf w.sy w.sh hf w.interiorH) }

/-! ## Sample positions (R73 to R76) -/

/-- The position of interior column or row i (R73). -/
def Axis.position (a : Axis) (i : Nat) : Int := a.start + (i * a.step : Nat)

/-- The source index and the fraction of a position: R74 and R75 on a BILINEAR axis, R76 on a NEAREST one. -/
def Axis.locate (a : Axis) (i : Nat) : Nat × Nat :=
  let p := a.position i
  if a.bilinear then
    if p < (a.first * 65536 : Nat) then (a.first, 0)
    else
      let k := p.toNat / 65536
      let f := p.toNat % 65536 / 256
      if a.stop - 1 ≤ k then (a.stop - 1, 0) else (k, f)
  else
    let k := (p + 32768) / 65536
    if k < a.first then (a.first, 0)
    else if a.stop - 1 < k.toNat then (a.stop - 1, 0)
    else (k.toNat, 0)

/-- The pixel blended with index k: its neighbour, limited to the crop (R74). -/
def Axis.neighbour (a : Axis) (k : Nat) : Nat := min (k + 1) (a.stop - 1)

/-! ## Forming a sample (R78, R79) -/

/-- Two components blended with an 8-bit fraction (R78). -/
def blend (a b : Byte) (f : Nat) : Byte := BitVec.ofNat 8 ((a.toNat * (256 - f) + b.toNat * f + 128) / 256)

/-- Two pixels blended component by component (R78). -/
def blendColour (a b : Colour) (f : Nat) : Colour := ⟨blend a.r b.r f, blend a.g b.g f, blend a.b b.b f⟩

/-- The horizontal result for one source row (R79, first stage). `pixel k m` is the source pixel at column k, row m. -/
def rowResult (pixel : Nat → Nat → Colour) (h : Axis) (i m : Nat) : Colour :=
  let (k, f) := h.locate i
  if f = 0 then pixel k m else blendColour (pixel k m) (pixel (h.neighbour k) m) f

/-- The sample of interior column i, row j (R79): horizontal first, then vertical. -/
def sample (pixel : Nat → Nat → Colour) (h v : Axis) (i j : Nat) : Colour :=
  let (ky, fy) := v.locate j
  if fy = 0 then rowResult pixel h i ky
  else blendColour (rowResult pixel h i ky) (rowResult pixel h i (v.neighbour ky)) fy

/-- The source columns a pixel needs (R77). -/
def Axis.needed (a : Axis) (i : Nat) : List Nat :=
  let (k, f) := a.locate i
  if f = 0 then [k] else [k, a.neighbour k]

/-- The byte offset in frame memory of the source pixel at column k, row m (R11). -/
def pixelAddr (base wf k m : Nat) : Nat := base + 16 + 4 * (m * wf + k)

end Sys2Proof.Machine
end

