-- ==== Sys2Proof/Machine/Tiles.lean ====
section
/-! DEFINITION. The tile engines (sections 1.3, 1.4 and 4.4): the view of a wall frame, the fetches a row needs, the colours of a row, and the line buffer. -/

namespace Sys2Proof.Machine

open Sys2Proof

/-! ## The view of a wall frame (R8, R63 to R65) -/

/-- The presentation of a window's source: NONE for a source number that names none (R21). -/
def sourcePresentation (ps : Vector Presentation 32) (src : Nat) : Presentation :=
  if h : src < 32 then ps[(⟨src, h⟩ : Fin 32)] else .none

/-- The scaler state R63 forms for a window, when it forms one. -/
def State.formScaler (s : State) (ps : Vector Presentation 32) (id : Fin 64) (w : WindowRec) : Option Scaler :=
  if h : w.source < 32 then
    let ch := s.channel ⟨w.source, h⟩
    if w.drawn s.builder.activeSet ∧ 1 ≤ w.interiorW ∧ 1 ≤ w.interiorH ∧ sourcePresentation ps w.source ≠ .none then
      some (scalerOf id w ch.shownBase ch.shownW ch.shownH)
    else none
  else none

/-- The presentations as the source unit has decided them. -/
def State.presentations (s : State) : Vector Presentation 32 := mapBank s.sources.channels fun _ c => c.presentation

/-- The view of the wall frame, formed once the source unit's work for its start is done (R63, R64). -/
def State.formView (s : State) : FrameView :=
  { presentations := s.presentations
    scalers := (List.finRange 64).filterMap fun id =>
      match s.live.records[id] with
      | some w => s.formScaler s.presentations id w
      | none => none }

/-- The scaler state of a window in a view. -/
def FrameView.scaler (v : FrameView) (id : Fin 64) : Option Scaler := v.scalers.find? fun sc => sc.window == id

/-! ## The colours of a row (R9 to R11, R81) -/

/-- The spans of the band that holds a row: that of the greatest start row not above it (R9). -/
def spansOf (bands : List Band) (row : Nat) : List Span :=
  match (bands.filter fun b => decide (b.start ≤ row)).getLast? with
  | some b => b.spans
  | none => []

/-- The axes of a window whose IMAGE spans show samples: presentation FRESH or STALE and a NORMAL state (R10). -/
def FrameView.sampled (v : FrameView) (id : Fin 64) (w : WindowRec) : Option (Scaler × Axis × Axis) :=
  match sourcePresentation v.presentations w.source, v.scaler id with
  | .none, _ => none
  | _, none => none
  | _, some sc => sc.axes.map fun a => (sc, a.1, a.2)

/-- The interior column of tile column c (R11). -/
def interiorColumn (tile : TileRec) (w : WindowRec) (c : Nat) : Nat := tile.x + c - (w.x + w.effBorder)

/-- The interior row of tile row r (R11). -/
def interiorRow (tile : TileRec) (w : WindowRec) (r : Nat) : Nat := tile.y + r - (w.y + w.effBorder)

/-- The bytes fetched for a span of the row, by its number (R11: a span uses the pixels fetched for it). -/
def cellsOf (fetched : List (Nat × List Host.Cell)) (span : Nat) : List Host.Cell :=
  (fetched.filter fun p => p.1 == span).flatMap fun p => p.2

/-- The pixel at an address among the bytes fetched; its fourth byte is ignored (R11). -/
def fetchedPixel (cells : List Host.Cell) (addr : Nat) : Colour :=
  ⟨Memory.read cells addr, Memory.read cells (addr + 1), Memory.read cells (addr + 2)⟩

/-- The colour of column c of a span in row r (R10, R11). -/
def spanColour (s : State) (v : FrameView) (t : Fin 16) (cells : List Host.Cell) (kind : SpanKind) (r c : Nat) : Colour :=
  match kind with
  | .background => s.cfg.background
  | .border id =>
    match s.live.records[id] with
    | none => s.cfg.background
    | some w => if sourcePresentation v.presentations w.source = .stale then s.cfg.stale else w.borderColour
  | .image id =>
    match s.live.records[id] with
    | none => s.cfg.background
    | some w =>
      match v.sampled id w with
      | none => w.fillColour
      | some (sc, h, vt) =>
        sample (fun k m => fetchedPixel cells (pixelAddr sc.base sc.wf k m)) h vt
          (interiorColumn (s.tile t) w c) (interiorRow (s.tile t) w r)

/-- A row composed span by span (R9). -/
def composeRow (s : State) (v : FrameView) (t : Fin 16) (fetched : List (Nat × List Host.Cell)) (r : Nat) : List Colour :=
  (spansOf (s.activeBands t) r).zipIdx.flatMap fun p =>
    (List.range p.1.len).map fun k => spanColour s v t (cellsOf fetched p.2) p.1.kind r (p.1.start + k)

/-! ## The fetches of a row (R11, R77) -/

/-- The transfers that fetch the source pixels of an IMAGE span: for each source row the span needs, the run from the
smallest to the largest column that any of its columns needs (R77). Their tag is the number of the span. -/
def runFetches (sc : Scaler) (columns : List Nat) (m span : Nat) : List Transfer :=
  match columns with
  | [] => []
  | k :: ks =>
    let lo := ks.foldl min k
    let hi := ks.foldl max k
    readTransfers (pixelAddr sc.base sc.wf lo m) (4 * (hi - lo + 1)) span

/-- The fetches of one span of a row. -/
def spanFetches (s : State) (v : FrameView) (t : Fin 16) (r : Nat) (sp : Span) (span : Nat) : List Transfer :=
  match sp.kind with
  | .background => []
  | .border _ => []
  | .image id =>
    match s.live.records[id] with
    | none => []
    | some w =>
      match v.sampled id w with
      | none => []
      | some (sc, h, vt) =>
        let columns := (List.range sp.len).flatMap fun k => h.needed (interiorColumn (s.tile t) w (sp.start + k))
        (vt.needed (interiorRow (s.tile t) w r)).flatMap fun m => runFetches sc columns m span

/-- The fetches of a row, span by span. -/
def rowFetches (s : State) (v : FrameView) (t : Fin 16) (r : Nat) : List Transfer :=
  (spansOf (s.activeBands t) r).zipIdx.flatMap fun p => spanFetches s v t r p.1 p.2

/-! ## The line buffer (R12, R13) -/

/-- A row as its composition begins. -/
def Composing.begin (row : Nat) (begun : Bool) : Composing := ⟨row, begun, false, []⟩

/-- The transfers with which the composition of a row begins: none before the view is formed (R63). -/
def State.firstFetches (s : State) (t : Fin 16) (row : Nat) : List Transfer :=
  match s.view with
  | some v => rowFetches s v t row
  | none => []

/-- A tile's engine begins composing a row into the line `into`, or begins none when the row is not below the tile's
height. Fetches of an unfinished row are withdrawn (R13). -/
def State.beginRow (s : State) (t : Fin 16) (e : TileEngine) (row : Nat) (into : Bool) : State :=
  if row < (s.tile t).height then
    (s.setEngine t { e with into := into, composing := some (Composing.begin row s.view.isSome) }).setQueue
      (.tile t) (s.firstFetches t row)
  else (s.setEngine t { e with composing := none }).setQueue (.tile t) []

/-- The line into which an engine composes row 0: the one not being sent (R12). -/
def TileEngine.freeLine (e : TileEngine) : Bool :=
  match e.sending with
  | some l => !l
  | none => e.into

/-- The line of the buffer with a given name. -/
def TileEngine.line (e : TileEngine) (which : Bool) : List Colour := if which then e.line1 else e.line0

/-- A line of the buffer written. -/
def TileEngine.setLine (e : TileEngine) (which : Bool) (px : List Colour) : TileEngine :=
  if which then { e with line1 := px } else { e with line0 := px }

/-- A wall frame start as the engine of an enabled tile takes it: the tile output begins a new video frame (R6,
notes/assumptions/30.md), and row 0 of the new frame begins (R12). Its fetches wait for the view. -/
def TileEngine.newFrame (e : TileEngine) : TileEngine :=
  { e with output := .frameStart, into := e.freeLine, composing := some (Composing.begin 0 false) }

/-- The wall frame start as all tile engines take it: scaler states are discarded (R72) and every enabled tile begins
its frame. -/
def State.tilesNewFrame (s : State) : State :=
  ((s.withView none).withEngines
      (mapBank s.engines fun t e => if (s.tile t).enable then e.newFrame else e)).withPort
    { s.port with tile := Vector.replicate 16 [] }

/-- Engines that have begun a row without its fetches issue them. -/
def TileEngine.beginFetches (e : TileEngine) : TileEngine :=
  match e.composing with
  | some c => { e with composing := some { c with begun := true } }
  | none => e

/-- The view has been formed: it is held for the wall frame and rows that waited for it issue their fetches. -/
def State.tilesTakeView (s : State) : State :=
  let v := s.formView
  ((s.withView (some v)).withPort
      { s.port with
        tile := mapBank s.port.tile fun t ts =>
          match (s.engines[t]).composing with
          | some c => if c.begun then ts else rowFetches s v t c.row
          | none => ts }).withEngines
    (mapBank s.engines fun _ e => e.beginFetches)

/-- A row is composed: every fetch has been granted and the line is written (R12). -/
def State.rowComposed (s : State) (t : Fin 16) : State :=
  let e := s.engines[t]
  match e.composing, s.view with
  | some c, some v =>
    if s.running ∧ c.begun = true ∧ c.finished = false ∧ s.port.queue (.tile t) = [] then
      s.setEngine t
        { (e.setLine e.into (composeRow s v t c.fetched c.row)) with composing := some { c with finished := true } }
    else s
  | some _, none => s
  | none, _ => s

/-- The line of a late row 0 (R13). -/
def State.backgroundLine (s : State) (t : Fin 16) : List Colour := List.replicate (s.tile t).width s.cfg.background

/-- A line start (R12, R13): a finished row is sent and the next row is composed into the other line; otherwise the
row is late. -/
def State.lineStart (s : State) (t : Fin 16) : State :=
  let e := s.engines[t]
  if s.running && (s.tile t).enable then
    match e.composing with
    | none => s
    | some c =>
      if c.finished then
        s.beginRow t { e with output := .line (e.line e.into), sending := some e.into } (c.row + 1) (!e.into)
      else
        let out := if c.row = 0 then .line (s.backgroundLine t) else e.output
        let sending := if c.row = 0 then none else e.sending
        (s.beginRow t { e with output := out, sending := sending, late := satInc e.late } (c.row + 1) e.into).raise
          causeLateLine
  else s

end Sys2Proof.Machine
end

