-- ==== Sys2Proof/Machine/Status.lean ====
section
/-! DEFINITION. The status writer (section 10.7): its copy of the values a page reports, each as its owning block leaves it once that block has taken the wall frame start, and the transfers that write the page. -/

namespace Sys2Proof.Machine

open Sys2Proof

/-- A mask of the tiles of the active bank that bear a mark (R60). -/
def State.markMask (s : State) (m : Mark) : BitVec 16 :=
  BitVec.ofNat 16
    ((List.finRange 16).map fun t => if (s.tile t).enable ∧ s.activeMark t = m then 2 ^ t.val else 0).sum

/-- The tile entry of a tile (R192). -/
def State.tileEntry (s : State) (t : Fin 16) : TileEntry :=
  if (s.tile t).enable then
    { late := (s.engines[t]).late, bands := (s.activeBands t).length, spans := spanCount (s.activeBands t), enabled := true,
      mark := s.activeMark t }
  else ⟨0, 0, 0, false, .normal⟩

/-- The wall frame start as the status writer takes it: what it has not written of the page before is abandoned, and
the new copy takes the wall frame number and the values of the builder, the tile engines (R191) and the capture inputs
(R123). -/
def State.statusNewFrame (s : State) : State :=
  (s.setQueue (.control statusWriter) []).withStatus
    { s.status with
      number := s.frameNo
      builder := s.builder.state
      builtWith := s.builder.activeSet
      built := s.builder.built
      failed := s.builder.failed
      fallback := s.markMask .fallback
      degraded := s.markMask .degraded
      tiles := Vector.ofFn fun t => s.tileEntry t
      inputs := mapBank s.inputs fun _ i => i.entry }

/-- The copy of the capture inputs after what commits at a wall frame start has reset some of them (R121, R123). -/
def State.statusResetInputs (s : State) (items : List SourceItem) : State :=
  s.withStatus
    { s.status with
      inputs := mapBank s.status.inputs fun c e =>
        if items.any (SourceItem.configures (captureSource c)) then CaptureInput.initial.entry else e }

/-- The copy takes NEXT, the raised set and the alarm entries once the ring processor has taken the wall frame start
and the alarm unit has applied what commits there (R137, R141). -/
def State.statusTakeRing (s : State) : State :=
  s.withStatus
    { s.status with
      next := s.ring.next
      raised := raisedSet s.alarms
      alarms := mapBank s.alarms fun _ a => (a.state, a.level) }

/-- The source entry of a source (R107, R123, R202): its channel as it stands, its capture input as the copy has it. -/
def State.sourceEntry (s : State) (src : Fin 32) : SourceEntry :=
  let c := s.channel src
  let counters : SourceEntry :=
    { SourceEntry.blank with
      published := c.published, superseded := c.superseded, torn := c.torn, oversize := c.oversize, badFrame := c.badFrame,
      expired := c.expired }
  if c.desc.enable then
    let common : SourceEntry :=
      { counters with
        presentation := c.presentation, frozen := c.frozen, shown := c.slotWith .shown, ready := c.slotWith .ready,
        filling := c.slotWith .filling, age := c.age }
    if isCapture src then
      let i := s.status.inputs[captureOf src]
      { common with capture := i.state, halved := i.halved, oversizeFlag := i.oversize, width := i.width, height := i.height }
    else
      let on := (c.slotWith .shown).isSome
      { common with width := if on then c.shownW else 0, height := if on then c.shownH else 0, expected := c.expected }
  else counters

/-- The copy takes the source entries of the sources whose channels have done their work (R107). -/
def State.statusTakeSources (s : State) (done : Fin 32 → Bool) : State :=
  s.withStatus
    { s.status with sources := mapBank s.status.sources fun src e => if done src then s.sourceEntry src else e }

/-- The transfers that write the page from the copy: first word, body in ascending order, last word (R191, R202). That
the body is divided at the blocks of 256 bytes alone is the model's choice (notes/assumptions/29.md). -/
def pageTransfers (base : Nat) (c : StatusCopy) : List Transfer :=
  [⟨base, .write (leBytes 4 c.number.toNat), 0⟩] ++ writeTransfers (base + 4) (pageBody c) 0 ++
    [⟨base + 4092, .write (leBytes 4 c.number.toNat), 0⟩]

/-- The page is written from the copy. -/
def State.statusWrite (s : State) : State :=
  s.setQueue (.control statusWriter) (pageTransfers s.cfg.statusBase s.status)

end Sys2Proof.Machine
end

