-- ==== Sys2Proof/Machine/Frames.lean ====
section
/-! DEFINITION. The source unit's work at a wall frame start (section 5.4) and what waits for it: the tile engines' view and the status page. -/

namespace Sys2Proof.Machine

open Sys2Proof

/-- The source unit has done its work for the latest wall frame start: the tile engines form their view (R63) and the
status writer writes its page (R191). -/
def State.frameReady (s : State) : State := s.tilesTakeView.statusWrite

/-- The header read of a memory source's FILLING slot (R94); the tag names the source. -/
def Source.headerRead (src : Fin 32) (c : Source) : Transfer := ⟨c.fillingBase, .read 16, src.val + 1⟩

/-- The sources of which a test holds, ascending. -/
def sourcesWhere (f : Fin 32 → Bool) : List (Fin 32) := (List.finRange 32).filter f

/-- The capture input of a source that a pending item reconfigures is reset (R121). -/
def resetInputs (inputs : Vector CaptureInput 16) (items : List SourceItem) : Vector CaptureInput 16 :=
  mapBank inputs fun c i => if items.any (SourceItem.configures (captureSource c)) then CaptureInput.initial else i

/-- A reset input was in ACQUIRING or LOCKED, which sets SOURCE_EVENT (R121). -/
def resetEvent (inputs : Vector CaptureInput 16) (items : List SourceItem) : Bool :=
  anyBank inputs fun c i => items.any (SourceItem.configures (captureSource c)) && i.state != .noSignal

/-- Step 1 of R92 for every source: the committed items act on the channels and on the capture inputs; a capture
transfer that waits at the port of a reset input is carried out and nothing follows it (R101, R121). -/
def State.commitSources (s : State) (items : List SourceItem) : State :=
  ((s.withSources { s.sources with channels := mapBank s.sources.channels fun src c => c.commit src items }).withInputs
      (resetInputs s.inputs items)).withPort
    { s.port with
      capture := mapBank s.port.capture fun c ts =>
        if items.any (SourceItem.configures (captureSource c)) then orphan ts else ts }

/-- Steps 2 to 4 of R92 for every source whose header is not read, and the header reads of the others issued. R92 gives
the channels no order: that the reads are issued in ascending source number is the model's choice
(notes/assumptions/31.md). -/
def State.frameSources (s : State) : State :=
  let chans := s.sources.channels
  let toRead := sourcesWhere fun src => (chans[src]).readsHeader src
  (s.withSources
      { s.sources with
        channels := mapBank chans fun src c => if c.readsHeader src then c else c.frame src
        toJudge := toRead
        headers := []
        owed := 0 }).issue
    (.control sourceUnit) (toRead.map fun src => (chans[src]).headerRead src)

/-- Some source whose header is not read sets SOURCE_EVENT in those steps. -/
def State.frameSourcesEvent (s : State) : Bool :=
  anyBank s.sources.channels fun src c => !c.readsHeader src && c.frameEvent src

/-- The source unit takes the millisecond intervals that came after the wall frame start it is at (R98): every source
that has done its work ages at once, the others once they have been judged. -/
def SourceUnit.intervals (u : SourceUnit) (n : Nat) : SourceUnit :=
  { u with
    channels := mapBank u.channels fun src c => if u.toJudge.contains src then c else c.agedBy n
    owed := if u.toJudge.isEmpty then u.owed else u.owed + n }

/-- A millisecond interval that comes while wall frame starts wait: it is taken after the last of them. -/
def intervalAfter : List SourceFrame → List SourceFrame
  | [] => []
  | [f] => [{ f with after := f.after + 1 }]
  | f :: rest => f :: intervalAfter rest

/-- The source unit takes a wall frame start with what commits at it (R92), and then the millisecond intervals that came
after it. The page shows the capture inputs as they stood at that start, with what commits there (R121, R123). -/
def State.sourceStart (s : State) (f : SourceFrame) : State :=
  let t := ((s.commitSources f.items).statusResetInputs f.items).raiseIf (resetEvent s.inputs f.items) causeSourceEvent
  let u := (t.frameSources).raiseIf t.frameSourcesEvent causeSourceEvent
  let v := u.statusTakeSources fun src => !(t.channel src).readsHeader src
  v.withSources (v.sources.intervals f.after)

/-- The source unit begins the wall frame starts that wait for it, one after another: each once the ring processor has
taken it, and not while headers of the one before are still to be judged (R92). When it has done the last one, the
frame is ready. -/
def State.sourceRun : List SourceFrame → State → State
  | [], s => s.withSources { s.sources with frames := [] }
  | f :: rest, s =>
    if f.taken then
      let t := (s.withSources { s.sources with frames := rest }).sourceStart f
      if t.sources.toJudge.isEmpty then
        (if rest.isEmpty then t.frameReady else State.sourceRun rest t)
      else t
    else s.withSources { s.sources with frames := f :: rest }

/-- The source unit goes on, unless it has headers to judge. -/
def State.sourceAdvance (s : State) : State :=
  if s.sources.toJudge.isEmpty then State.sourceRun s.sources.frames s else s

/-- The first wall frame start that the ring processor had not taken is marked taken, with what commits at it. -/
def handTo (items : List SourceItem) : List SourceFrame → List SourceFrame
  | [] => []
  | f :: rest => if f.taken then f :: handTo items rest else { f with taken := true, items := items } :: rest

/-- The ring processor has taken a wall frame start: the source unit learns what commits at it (R92, R153), the status
writer takes NEXT and the alarm entries, and the source unit goes on. -/
def State.handItems (s : State) (items : List SourceItem) : State :=
  let t := s.statusTakeRing
  (t.withSources { t.sources with frames := handTo items t.sources.frames }).sourceAdvance

/-- A wall frame start reaches the source unit. -/
def State.pushFrame (s : State) : State :=
  s.withSources { s.sources with frames := s.sources.frames ++ [⟨false, [], 0⟩] }

/-- A memory source's header has been read and is judged, and its channel finishes its work (R95 to R97) and takes the
millisecond intervals that came meanwhile (R98). With the last of them the source unit has done this wall frame
start. -/
def State.headerJudged (s : State) (src : Fin 32) (header : List Byte) : State :=
  let c := s.channel src
  let t := (s.setChannel src (c.judgeHeader header)).raiseIf (c.judgeEvent header) causeSourceEvent
  let u := (t.withSources
    { t.sources with
      toJudge := t.sources.toJudge.filter fun q => q != src
      headers := t.sources.headers.filter fun p => p.1 != src }).statusTakeSources fun q => q == src
  let v := u.setChannel src ((u.channel src).agedBy u.sources.owed)
  if v.sources.toJudge.isEmpty then
    let w := v.withSources { v.sources with owed := 0 }
    (if w.sources.frames.isEmpty then w.frameReady else w.sourceAdvance)
  else v

end Sys2Proof.Machine
end

