-- ==== Sys2Proof/Machine/RingOps.lean ====
section
/-! DEFINITION. The ring processor's operations (chapter 8): looks, taking slots into groups, aborting and committing a group, the writes of a return, and look events that are kept. -/

namespace Sys2Proof.Machine

open Sys2Proof

/-! ## The ring and its slots (R138, R140) -/

/-- Slots of the ring (R138). -/
def State.ringLength (s : State) : Nat := 2 ^ s.cfg.ringCode

/-- The group length limit (R147). -/
def State.groupLimit (s : State) : Nat := min 32 (s.ringLength / 2)

/-- The address of a slot (R138). -/
def State.slotAddr (s : State) (index : Nat) : Nat := s.cfg.ringBase + 64 * index

/-- NEXT advanced by one modulo the ring length (R141). -/
def State.nextIndex (s : State) : Nat := (s.ring.next + 1) % s.ringLength

/-- The kinds that make a group one with edits (R145). -/
def isEditKind (kind : Nat) : Bool := kind == 1 || kind == 2 || kind == 3 || kind == 4 || kind == 9

/-- The result codes (R155). -/
def resDone : Nat := 1
/-- See `resDone`. -/
def resGroupAborted : Nat := 2
/-- See `resDone`. -/
def resBadKind : Nat := 3
/-- See `resDone`. -/
def resBadField : Nat := 4
/-- See `resDone`. -/
def resNoWindow : Nat := 5
/-- See `resDone`. -/
def resBadScene : Nat := 6
/-- See `resDone`. -/
def resBadSlots : Nat := 7
/-- See `resDone`. -/
def resGroupTooLong : Nat := 8
/-- See `resDone`. -/
def resChainTimeout : Nat := 9
/-- See `resDone`. -/
def resTooComplex : Nat := 10

/-- The transfer that writes result, detail and commit frame number of a slot (R140). -/
def State.resultWrite (s : State) (h : Held) (frame : Word) : Transfer :=
  ⟨s.slotAddr h.index + 3, .write (leBytes 1 h.result ++ leBytes 4 h.detail.toNat ++ leBytes 4 frame.toNat), 0⟩

/-- The transfer that writes POSTED of a slot as 0 (R140). It has the 4 bytes that R15 asks of a transfer, of which the
three after POSTED stay as they are (notes/assumptions/27.md). -/
def State.clearWrite (s : State) (index : Nat) : Transfer := ⟨s.slotAddr index, .merge [some 0, none, none, none], 0⟩

/-- The writes that return slots: every result, then every POSTED flag, in ring order (R150, R154). -/
def State.returnWrites (s : State) (slots : List Held) (frame : Word) : List Transfer :=
  (slots.map fun h => s.resultWrite h frame) ++ slots.map fun h => s.clearWrite h.index

/-- The writes of a saved scene: the marker as 0, the rest in ascending order, the marker (R170, R199). That the rest is
divided at the blocks of 256 bytes alone, 252 bytes and then fifteen times 256, is the model's choice
(notes/assumptions/29.md). -/
def sceneWrites (base : Nat) (t : Table) : List Transfer :=
  [⟨base, .write (zeros 4), 0⟩] ++ writeTransfers (base + 4) (sceneBody t) 0 ++
    [⟨base, .write (leBytes 4 Config.sceneMarker), 0⟩]

/-- The address of a scene (R199). -/
def State.sceneAddr (s : State) (n : Nat) : Nat := s.cfg.sceneBase + Config.unit * n

/-! ## Looks (R141, R142) -/

/-- A look reads slot NEXT (R139). -/
def State.startLook (s : State) (cause : LookCause) : State :=
  (s.withRing { s.ring with look := .reading cause }).issue (.control ringProcessor)
    (readTransfers (s.slotAddr s.ring.next) 64 0)

/-- A look in a state in which a look reads the ring (R142, section 8.3). -/
def State.lookIn (s : State) (cause : LookCause) : State :=
  match s.ring.state with
  | .idle => s.startLook cause
  | .collecting => s.startLook cause
  | .skipping => s.startLook cause
  | .awaitingCommit => s
  | .writingBack => s

/-! ## Commit (R151 to R154) -/

/-- A held slot of a committed group as it is returned: the clears' details are the states found (R128), a save's is
the number of windows written (R170). -/
def committedSlot (live : Table) (found : List (Nat × Nat)) (pos : Nat) (h : Held) : Held :=
  if h.kind = 5 then { h with detail := BitVec.ofNat 32 live.count }
  else
    match found.find? fun f => f.1 == pos with
    | some f => { h with detail := BitVec.ofNat 32 f.2 }
    | none => h

/-- A group's clears act as one piece of the alarm unit's work (R129): the state after it, and what each clear found. -/
def State.clearWork (s : State) : State × List (Nat × Nat) :=
  let work := applyClears s.ring.pendingClears s.alarms
  (s.alarmWork work.1 work.2.1, work.2.2)

/-- The held slots of the group as a commit returns them. -/
def State.committedSlots (s : State) (found : List (Nat × Nat)) : List Held :=
  s.ring.held.mapIdx (committedSlot s.live found)

/-- The writes of a committed group's write-back, in the order of R154. -/
def State.writeBack (s : State) (held : List Held) (n : Word) : List Transfer :=
  (s.ring.pendingSaves.flatMap fun k => sceneWrites (s.sceneAddr k.val) s.live) ++ s.returnWrites held n

/-- The group commits at wall frame n once its clears have acted: the processor moves to WRITING_BACK with the scene
writes, the results and the POSTED clears to issue (R151, R152, R154), and the source unit learns the group's
configurations and freezes; the pending saves stay until the write-back ends (R153). The spec does not say what the draft
descriptors hold from here to the next group start: that they stay as they stood is the model's choice
(notes/assumptions/26.md). -/
def State.commitWith (s : State) (n : Word) (found : List (Nat × Nat)) : State :=
  let held := s.committedSlots found
  ((s.withRing
      { s.ring with
        state := .writingBack, returning := .committed, held := held, commitFrame := n, draft := Table.empty,
        pendingSources := [], pendingClears := [] }).issue (.control ringProcessor)
    (s.writeBack held n)).handItems s.ring.pendingSources

/-- The group in hand commits at wall frame n. -/
def State.commitGroup (s : State) (n : Word) : State := s.clearWork.1.commitWith n s.clearWork.2

/-- A group without edits awaits its commit: the next wall frame start the processor takes (R152). -/
def State.awaitsFrame (s : State) : Bool := s.ring.state == .awaitingCommit && !s.ring.edits

/-- The ring processor takes a wall frame start: the commit of a group without edits (R152), or a look event. The look
that it begins may take slots and move NEXT (R141), and the spec does not say whether the page of that wall frame shows
NEXT before or after them: R152 has the start taken before its look, the rows of section 8.8 show NEXT after it. That the
copy is taken as the look begins, before its read returns, is the model's choice (notes/assumptions/34.md). -/
def State.ringTakesFrame (s : State) (n : Word) : State :=
  if s.awaitsFrame then s.commitGroup n
  else (s.lookIn (.frame n)).handItems []

/-- The processor takes a look event. -/
def State.takeLookEvent (s : State) : LookCause → State
  | .frame n => s.ringTakesFrame n
  | .attend => s.lookIn .attend
  | .atOnce => s.lookIn .atOnce

/-- The processor takes a look event that it has kept. After a wall frame start the alarm contact unit takes what came
after it (notes/assumptions/21.md). `more`: a later wall frame start is kept, of which the builder's values have been
copied before the clears that commit here and what came after them. -/
def State.takeKept (s : State) (ev : LookCause) (more : Bool) : State :=
  match ev with
  | .frame _ =>
    let t := s.takeLookEvent ev
    (if more then s.copyFollows t else t).alarmsGoOn more
  | .attend => s.takeLookEvent ev
  | .atOnce => s.takeLookEvent ev

/-- A look event is a wall frame start. -/
def LookCause.isFrame : LookCause → Bool
  | .frame _ => true
  | .attend => false
  | .atOnce => false

/-- The kept look events are taken until one of them starts a look (R142). R142 does not say in which order several of
them are taken when the work ends: that the oldest goes first, which can decide the wall frame at which a group commits,
is the model's choice (notes/assumptions/20.md). -/
def State.serveKept : List LookCause → State → State
  | [], s => s.withRing { s.ring with kept := [] }
  | ev :: rest, s =>
    let t := (s.withRing { s.ring with kept := [] }).takeKept ev (rest.any LookCause.isFrame)
    if t.ring.look = .none then State.serveKept rest t else t.withRing { t.ring with kept := rest }

/-- The processor has ended a look, or the taking or returning of a slot: it takes what was kept meanwhile. -/
def State.settleLooks (s : State) : State := State.serveKept s.ring.kept s

/-- A look at once: slot NEXT is read without waiting for a look event (R142). -/
def State.lookAtOnce (s : State) : State := s.lookIn .atOnce

/-- With a wall frame start that the processor keeps, the alarm contact unit begins to hold what comes after it. -/
def State.alarmsWait (s : State) (ev : LookCause) : State :=
  match ev with
  | .frame _ => s.withAlarmsLater (s.alarmsLater ++ [[]])
  | .attend => s
  | .atOnce => s

/-- A look event arrives: it is taken, or kept while the processor is in the middle of a look or of a slot. At most one
ATTEND is kept (R142). -/
def State.lookEvent (s : State) (ev : LookCause) : State :=
  if s.ring.look = .none then s.takeLookEvent ev
  else if ev = .attend ∧ s.ring.kept.contains .attend = true then s
  else (s.withRing { s.ring with kept := s.ring.kept ++ [ev] }).alarmsWait ev

/-! ## Aborting a group (R148, R150) -/

/-- The slots of an aborted group as they are returned: the last gets its own result and detail, every other one
GROUP_ABORTED with detail 0. -/
def abortedSlots (code detail : Nat) : List Held → List Held
  | [] => []
  | [h] => [{ h with result := code, detail := BitVec.ofNat 32 detail }]
  | h :: rest => { h with result := resGroupAborted, detail := 0 } :: abortedSlots code detail rest

/-- The group aborts: its drafts and pending lists are discarded and its slots (`extra`: an over-long slot, R147, after
the held ones) are returned with commit frame number 0 (R150). Of the drafts the draft table is emptied; the draft
descriptors stay as they stood until the next group start overwrites them, which is the model's choice
(notes/assumptions/26.md). -/
def State.abortGroup (s : State) (extra : List Held) (code detail : Nat) (skip : Bool) : State :=
  let slots := abortedSlots code detail (s.ring.held ++ extra)
  let t := (s.withRing
    { s.ring with
      state := .writingBack, returning := .aborted skip, look := .none, draft := Table.empty, pendingSources := [],
      pendingClears := [], pendingSaves := [] }).issue (.control ringProcessor) (s.returnWrites slots 0)
  t.settleLooks

/-! ## Taking a slot (R144, R145, R147, R151, R152) -/

/-- What the check of a slot decides. `accept` carries the detail held with the slot and the processor with its drafts
and pending lists changed. -/
inductive Verdict where
  | refuse (code detail : Nat)
  | accept (detail : Nat) (r : Ring)
deriving DecidableEq, Repr

/-- The drafts of a group that starts: copies of the live table and of the live descriptors, nothing pending (R144). -/
def State.startGroup (s : State) : Ring :=
  { s.ring with
    state := .collecting, held := [], draft := s.live, draftDescs := mapBank s.sources.channels fun _ c => c.desc,
    pendingSources := [], pendingClears := [], pendingSaves := [], edits := false, wait := 0 }

/-- A look has read slot NEXT: when it finds it posted in IDLE, a group starts at that moment (R144). -/
def State.groupFound (s : State) (slot : List Byte) : State :=
  if slotPosted slot && s.ring.state == .idle then s.withRing s.startGroup else s

/-- The processor as it begins to take a slot into the group in hand: NEXT advances and the chain-wait counter becomes 0
(R145 step 1). That a TAKE_SCENE slot is taken, with both, only once its scene has been read is the model's choice
(notes/assumptions/37.md). -/
def State.takingRing (s : State) : Ring := { s.ring with next := s.nextIndex, wait := 0, look := .none }

/-- A group is complete: one with edits asks the builder for a GROUP build (R151, R52); the processor awaits the commit. -/
def State.completeGroup (s : State) : State :=
  let t := s.withRing { s.ring with state := .awaitingCommit }
  (if s.ring.edits then t.startBuild .group else t).settleLooks

/-- A posted slot is taken (R145): refused beyond the group length limit (R147) or by its check (R148), otherwise held
and applied; with CHAIN set the processor looks at once, with CHAIN clear the group is complete. R142 does not say
whether the look at once or a look event kept meanwhile comes first: the look at once does, and the kept event is taken
when that look and what it leads to have ended (notes/assumptions/28.md). -/
def State.takeSlot (s : State) (slot : List Byte) (check : Ring → Verdict) : State :=
  let r := s.takingRing
  let me : Held := ⟨s.ring.next, slotKind slot, resDone, 0⟩
  if s.groupLimit ≤ r.held.length then (s.withRing r).abortGroup [me] resGroupTooLong 0 (slotChain slot)
  else
    match check r with
    | .refuse code detail =>
      (s.withRing { r with held := r.held ++ [me] }).abortGroup [] code detail (slotChain slot)
    | .accept detail after =>
      let t := s.withRing
        { after with
          held := r.held ++ [{ me with detail := BitVec.ofNat 32 detail }]
          edits := r.edits || isEditKind (slotKind slot) }
      if slotChain slot then t.lookAtOnce else t.completeGroup

/-- The processor takes posted slots: RUNNING and COLLECTING, where the look that has found one has put it (R144). -/
def State.takes (s : State) : Bool := s.running && s.ring.state == .collecting

/-- The processor reads a scene before it takes a slot: a TAKE_SCENE whose scene number is in range, in a group below
its limit (R166, R147). -/
def State.wantsScene (s : State) (slot : List Byte) : Bool :=
  slotKind slot == 1 && decide (slotByte slot 16 ≤ 15) && decide (s.ring.held.length < s.groupLimit)

/-- The slot of a given kind that the look in hand has found posted, when there is one. -/
def State.foundKind (s : State) (kind : Nat) : Option (List Byte) :=
  match s.ring.look with
  | .found _ slot => if s.takes && slotPosted slot && slotKind slot == kind then some slot else none
  | _ => none

/-- A slot of a given kind is taken, when the look in hand has found one. -/
def State.takeKind (s : State) (kind : Nat) (check : List Byte → Ring → Verdict) : State :=
  match s.foundKind kind with
  | some slot => s.takeSlot slot (check slot)
  | none => s

end Sys2Proof.Machine
end

