-- ==== Sys2Proof/Machine/BuildEvents.lean ====
section
/-! DEFINITION. TILE_BUILT: the builder finishes one enabled tile (R42, R48 to R51, R55 to R58). -/

namespace Sys2Proof.Machine

open Sys2Proof

/-- The table a build reads: a GROUP build the group's draft, an ALARM build the live table (R42). -/
def State.buildTable (s : State) (kind : BuildKind) : Table :=
  match kind with
  | .group => s.ring.draft
  | .alarm => s.live

/-- The shadow bank with the table of a tile kept in it. -/
def Bank.keep (b : Bank) (t : Fin 16) (table : TileTable) : Bank := { b with tiles := vset b.tiles t (some table) }

/-- A tile's table is kept in the shadow; after the last enabled tile the build is complete (R58). -/
def State.keepTile (s : State) (kind : BuildKind) (shadow : Bank) (t : Fin 16) (table : TileTable) : State :=
  s.withBuilder
    { s.builder with
      shadow := some (shadow.keep t table)
      state :=
        match nextTile s.cfg (t.val + 1) with
        | some _ => .building kind (t.val + 1)
        | none => .donePending kind }

/-- A tile of a GROUP build has failed a limit (R55): the shadow is discarded, the build is counted as failed, the ring
processor aborts the group with TOO_COMPLEX (R51, R151), and an ALARM build starts when the active bank was built with
another raised set. -/
def State.failBuild (s : State) (t : Fin 16) (code : Nat) : State :=
  let u := (s.withBuilder { s.builder with state := .idle, shadow := none, failed := satInc s.builder.failed }).abortGroup
    [] resTooComplex (t.val + 256 * code) false
  if raisedSet u.alarms = u.builder.activeSet then u else u.startBuild .alarm

/-- The shadow bank of a build in progress. -/
def Builder.shadowBank (b : Builder) : Bank := b.shadow.getD { builtWith := 0, tiles := Vector.replicate 16 none }

/-- What the build in hand makes of a tile. -/
def State.tileResult (s : State) (kind : BuildKind) (t : Fin 16) : TileResult :=
  let shadow := s.builder.shadowBank
  buildTile kind (s.tile t) (s.buildTable kind) shadow.builtWith (poolAllowance s.cfg shadow t)

/-- The build in hand with the first enabled tile not yet built, when a build is in hand. -/
def State.tileInHand (s : State) : Option (BuildKind × Fin 16) :=
  match s.builder.state with
  | .idle => none
  | .donePending _ => none
  | .building kind n => (nextTile s.cfg n).map fun t => (kind, t)

/-- TILE_BUILT (R48). -/
def execTileBuilt (s : State) : Host.Outcome State Fault Refusal :=
  match s.tileInHand with
  | none => .next s
  | some (kind, t) =>
    match s.tileResult kind t with
    | .kept table => .next (s.keepTile kind s.builder.shadowBank t table)
    | .failed code => .next (s.failBuild t code)

/-- A build whose last tile is finished at the moment of a wall frame start that the builder has taken first (R58, R59):
the builder moves to DONE_PENDING, and this wall frame's page shows it there. Any other tile is left to its
TILE_BUILT. -/
def State.completeLate (s : State) : State :=
  match s.tileInHand with
  | none => s
  | some (kind, t) =>
    match nextTile s.cfg (t.val + 1), s.tileResult kind t with
    | none, .kept table => s.keepTile kind s.builder.shadowBank t table
    | none, .failed _ => s
    | some _, _ => s

end Sys2Proof.Machine
end

