-- ==== Sys2Proof/Machine/PortGrant.lean ====
section
/-! DEFINITION. The frame memory port's commands (section 1.5): an access of the control computer through BAR 2, and the grant of a waiting transfer, with what each requester does with it. -/

namespace Sys2Proof.Machine

open Sys2Proof

/-! ## The configuration block as the load reads it (R181, R196) -/

/-- What the load sequence's checks say of the bytes read so far: they need more bytes, they all pass, or the first that
fails has this fault code and fault index. -/
inductive LoadVerdict where
  | more
  | pass
  | fail (code index : Nat)
deriving DecidableEq, Repr

/-- A tile record fails check 3 (R4). -/
def TileRec.bad (t : TileRec) : Bool :=
  t.enable && (decide (t.width < 64) || decide (1920 < t.width) || decide (t.height < 64) || decide (1200 < t.height) ||
    decide (16384 < t.x + t.width) || decide (16384 < t.y + t.height))

/-- A check on bytes up to `upto` of the block: it waits for the read that carries them, then fails with its fault index
or passes on to the checks after it (R180). -/
def checkOn (bs : List Byte) (upto code : Nat) (fault : Option Nat) (rest : LoadVerdict) : LoadVerdict :=
  if bs.length < upto then .more
  else
    match fault with
    | some index => .fail code index
    | none => rest

/-- A fault of index 0 unless something holds. -/
def zeroUnless (ok : Bool) : Option Nat := if ok then none else some 0

/-- An area is not aligned, not inside memory, or shares a byte with one of the areas placed before it (check 6). -/
def areaBad (base len : Nat) (placed : List (Nat × Nat)) : Bool :=
  base % Config.unit != 0 || decide (Config.memSize < base + len) || placed.any fun a => overlaps base len a.1 a.2

/-- Check 6: the index of the first area that fails, taken in the order ring, scene store, status page. -/
def areasFault (areaBase : Nat) (cfg : Loaded) : Option Nat :=
  let block := (areaBase, Config.unit)
  let ring := (cfg.ringBase, 64 * 2 ^ cfg.ringCode)
  let scenes := (cfg.sceneBase, 16 * Config.unit)
  if areaBad ring.1 ring.2 [block] then some 1
  else if areaBad scenes.1 scenes.2 [block, ring] then some 2
  else if areaBad cfg.statusBase Config.unit [block, ring, scenes] then some 3
  else none

/-- The descriptors before source `src` in the block, with their numbers, ascending. -/
def descsBefore (bs : List Byte) (src : Fin 32) : List (Fin 32 × Descriptor) :=
  ((List.finRange 32).filter fun q => decide (q < src)).map fun q => (q, configDescriptor bs q.val)

/-- Source `src` fails check 7. -/
def sourceBad (areas : List (Nat × Nat)) (bs : List Byte) (src : Fin 32) : Bool :=
  (descriptorFault areas (descsBefore bs src) src (configDescriptor bs src.val)).isSome

/-- Alarm configuration fails check 8 (R124). -/
def AlarmConfig.bad (a : AlarmConfig) : Bool := a.enable && (decide (a.debounce < 1) || decide (255 < a.debounce))

/-- The first member of a list of numbered checks that fails, each on the bytes up to its own end. -/
def checkEach (bs : List Byte) (code : Nat) (items : List (Nat × Nat × Bool)) (rest : LoadVerdict) : LoadVerdict :=
  items.foldr (fun item after => checkOn bs item.2.1 code (if item.2.2 then some item.1 else none) after) rest

/-- The checks of R181 in their order, on the bytes read so far. -/
def loadVerdict (areaBase : Nat) (bs : List Byte) : LoadVerdict :=
  let cfg := loadedOf bs
  checkOn bs 4 1 (zeroUnless (field bs 0 4 == Config.configMarker)) <|
  checkOn bs 8 2 (zeroUnless (decide (13333 ≤ cfg.period) && decide (cfg.period ≤ 41667))) <|
  checkEach bs 3 ((List.finRange 16).map fun t => (t.val, 80 + 16 * t.val, (cfg.tiles[t]).bad)) <|
  checkOn bs 320 4 (zeroUnless (anyBank cfg.tiles fun _ t => t.enable)) <|
  checkOn bs 21 5 (zeroUnless (decide (3 ≤ cfg.ringCode) && decide (cfg.ringCode ≤ 8))) <|
  checkOn bs 32 6 (areasFault areaBase cfg) <|
  checkEach bs 7
    ((List.finRange 32).map fun src => (src.val, 352 + 32 * src.val, sourceBad (controlAreas areaBase cfg) bs src)) <|
  checkEach bs 8 ((List.finRange 8).map fun i => (i.val, 1348 + 4 * i.val, (alarmConfigAt bs i.val).bad)) <|
  if bs.length < Config.configBytes then .more else .pass

/-- The read of the configuration block that follows `have_` bytes of it (R180, R196). That the 1376 bytes are read as
five times 256 bytes and then 96 is the model's choice (notes/assumptions/29.md). -/
def nextLoadRead (areaBase have_ : Nat) : List Transfer :=
  if have_ < Config.configBytes then
    [⟨areaBase + have_, .read (min Config.blockSize (Config.configBytes - have_)), 0⟩]
  else []

/-! ## What a requester does with a granted transfer -/

/-- The load sequence keeps what it has read and reads on, unless a check has failed (R180, R181). -/
def State.loadGranted (s : State) (bytes : List Byte) : State :=
  let have_ := s.control.loadBytes ++ bytes
  let t := s.withControl { s.control with loadBytes := have_ }
  match loadVerdict s.link.areaBase.toNat have_ with
  | .more => t.issue (.control loadSequence) (nextLoadRead s.link.areaBase.toNat have_.length)
  | .pass => t
  | .fail _ _ => t

/-- The ring processor's look goes on with what its read has returned (R139, R149, R166): a slot found posted in IDLE starts
a group at once (R144). -/
def State.ringGranted (s : State) (bytes : List Byte) : State :=
  match s.ring.look with
  | .reading cause =>
    if slotPosted bytes && s.ring.state == .skipping then
      (s.withRing { s.ring with look := .skip cause bytes }).issue (.control ringProcessor)
        [s.resultWrite ⟨s.ring.next, 0, resGroupAborted, 0⟩ 0, s.clearWrite s.ring.next]
    else
      let t := s.groupFound bytes
      if slotPosted bytes && t.wantsScene bytes then
        (t.withRing { t.ring with look := .scene cause bytes [] }).issue (.control ringProcessor)
          (readTransfers (s.sceneAddr (slotByte bytes 16)) Config.unit 0)
      else t.withRing { t.ring with look := .found cause bytes }
  | .scene cause slot scene => s.withRing { s.ring with look := .scene cause slot (scene ++ bytes) }
  | .none => s
  | .found _ _ => s
  | .skip _ _ => s
  | .timeout => s

/-- A header that the source unit has read is kept until it is judged (R94). -/
def State.sourceGranted (s : State) (t : Transfer) (bytes : List Byte) : State :=
  if h : 0 < t.tag ∧ t.tag ≤ 32 then
    s.withSources { s.sources with headers := s.sources.headers ++ [(⟨t.tag - 1, by omega⟩, bytes)] }
  else s

/-- The bytes a tile fetch returned, as cells from an address on. -/
def cellsFrom : Nat → List Byte → List Host.Cell
  | _, [] => []
  | a, b :: bs => (a, b) :: cellsFrom (a + 1) bs

/-- A tile engine keeps what its fetch has returned (R11). -/
def State.tileGranted (s : State) (t : Fin 16) (x : Transfer) (bytes : List Byte) : State :=
  let e := s.engines[t]
  match e.composing with
  | some c => s.setEngine t { e with composing := some { c with fetched := c.fetched ++ [(x.tag, cellsFrom x.addr bytes)] } }
  | none => s

/-- The bytes of a BAR 2 read transfer that the access asked for: its tag holds how many bytes come before them, plus 4
times how many they are. -/
def Transfer.addressed {α : Type} (x : Transfer) (bytes : List α) : List α := (bytes.drop (x.tag % 4)).take (x.tag / 4)

/-- What a control requester does with the bytes its read has returned. The status writer reads nothing. -/
def State.controlRead (s : State) (k : Fin 5) (x : Transfer) (bytes : List Byte) : State :=
  if k = pcieEndpoint then s.withLink { s.link with bar2Data := x.addressed bytes }
  else if k = ringProcessor then s.ringGranted bytes
  else if k = sourceUnit then s.sourceGranted x bytes
  else if k = loadSequence then s.loadGranted bytes
  else s

/-- What a requester does once its transfer has been carried out. A control requester does nothing more about a write. -/
def State.respond (s : State) (r : Requester) (x : Transfer) (bytes : List Byte) : State :=
  match r with
  | .tile t => s.tileGranted t x bytes
  | .capture c => s.captureGranted c x.tag
  | .control k =>
    match x.op with
    | .read _ => s.controlRead k x bytes
    | .write _ => s
    | .merge _ => s

/-- The transfer of a requester granted and carried out whole (R15, R16). -/
def State.grant (s : State) (r : Requester) : State :=
  match s.port.queue r with
  | [] => s
  | x :: _ =>
    ((s.withPort (s.port.granted r)).withMem (x.applied s.mem)).respond r x (x.returned s.mem)

/-! ## The commands -/

/-- TRANSFER_GRANT (R16): one waiting transfer, when there is one. -/
def execTransferGrant (s : State) : Host.Outcome State Fault Refusal :=
  match s.port.choose with
  | some r => .next (s.grant r)
  | none => .next s

/-- The whole 4-byte words that hold the bytes of an access, as address and length of each piece that lies in one
aligned block: no transfer has fewer than 4 bytes (R15, notes/assumptions/11.md). An access of no bytes has none. -/
def wordPieces (addr len : Nat) : List (Nat × Nat) :=
  if len = 0 then [] else areaPieces (addr / 4 * 4) ((addr + len + 3) / 4 * 4 - addr / 4 * 4)

/-- The transfers of a BAR 2 read. The tag of each says which of its bytes the access asked for. -/
def bar2Reads (addr len : Nat) : List Transfer :=
  (wordPieces addr len).map fun p =>
    let skip := addr - p.1
    ⟨p.1, .read p.2, skip + 4 * (min (p.1 + p.2) (addr + len) - (p.1 + skip))⟩

/-- The byte that a BAR 2 write of `data` at `addr` brings to an address, when it brings one. -/
def bar2Byte (addr : Nat) (data : List Byte) (a : Nat) : Option Byte := if addr ≤ a then data[a - addr]? else none

/-- The transfers of a BAR 2 write: a byte of its words that the access does not write stays as it is. -/
def bar2Writes (addr : Nat) (data : List Byte) : List Transfer :=
  (wordPieces addr data.length).map fun p => ⟨p.1, .merge ((List.range p.2).map fun k => bar2Byte addr data (p.1 + k)), 0⟩

/-- BAR2_ACCESS (R18): the access becomes transfers of the PCIe endpoint, after those it has issued before. -/
def execBar2Access (op : Bar2Op) (s : State) : Host.Outcome State Fault Refusal :=
  match op with
  | .read addr len =>
    if Config.memSize < addr + len then .fault (.outsideFrameMemory addr len)
    else .next (s.issue (.control pcieEndpoint) (bar2Reads addr len))
  | .write addr data =>
    if Config.memSize < addr + data.length then .fault (.outsideFrameMemory addr data.length)
    else .next (s.issue (.control pcieEndpoint) (bar2Writes addr data))

end Sys2Proof.Machine
end

