-- ==== Sys2Proof/Machine/ControlOps.lean ====
section
/-! DEFINITION. Part states, the link registers and the resets (chapter 10): the commands of the control computer and of the resets, and the end of a load. -/

namespace Sys2Proof.Machine

open Sys2Proof

/-! ## Register reads (R177) -/

/-- The coding of the part state (R177). -/
def partCode : PartState → Nat
  | .halted => 0
  | .loading => 1
  | .ready => 2
  | .running => 3

/-- What CONTROL reads: part state, fault code, fault index (R178). -/
def State.controlValue (s : State) : Word :=
  BitVec.ofNat 32 (partCode s.control.part + 256 * s.control.faultCode.toNat + 65536 * s.control.faultIndex.toNat)

/-- What a read of the register at a BAR 0 offset returns (R177). -/
def State.readRegister (s : State) (offset : BitVec 12) : Word :=
  match offset.toNat / 4 with
  | 0 => Config.ident
  | 1 => s.controlValue
  | 2 => s.link.cause.setWidth 32
  | 3 => s.link.causeEnable.setWidth 32
  | 4 => s.link.areaBase
  | 5 => 0
  | 6 => s.link.resetReason.setWidth 32
  | _ => 0

/-- The byte at a BAR 0 offset. -/
def State.registerByte (s : State) (offset : BitVec 12) : Byte :=
  (s.readRegister offset).extractLsb' (8 * (offset.toNat % 4)) 8

/-- What a read of `n` bytes of a register returns from an offset on, lowest first: a read of fewer than four bytes
returns the bytes addressed (R177, R193). -/
def State.readRegisterBytes (s : State) (offset : BitVec 12) (n : Nat) : List Byte :=
  (List.range n).map fun k => s.registerByte (offset + BitVec.ofNat 12 k)

/-! ## Register writes as commands (R177, R179) -/

/-- The command that a write to CONTROL is (R179): STOP goes before the others, LOAD before START, and a write with no
command bit set does nothing. -/
def controlCommand (offset : BitVec 12) (w : RegWrite) : Instr :=
  let v := regValue w
  if v.getLsbD 2 then .stop (v.getLsbD 0) (v.getLsbD 1)
  else if v.getLsbD 0 then .load (v.getLsbD 1)
  else if v.getLsbD 1 then .start
  else .ignoredRegisterWrite offset w

/-- The command that a write at a BAR 0 offset is (R177): of a register its row's, of IDENT, of an offset from 0x1C on and
of bits without a meaning the row of ignored writes (notes/assumptions/23.md). -/
def registerCommand (offset : BitVec 12) (w : RegWrite) : Instr :=
  match offset.toNat / 4 with
  | 1 => controlCommand offset w
  | 2 => if regValue w &&& 0xFF = 0 then .ignoredRegisterWrite offset w else .causeClear w
  | 3 => .causeEnableWrite w
  | 4 => .areaBaseWrite w
  | 5 => .attend w
  | 6 => if regValue w &&& 0x7 = 0 then .ignoredRegisterWrite offset w else .resetReasonClear w
  | _ => .ignoredRegisterWrite offset w

/-! ## Unloading (the tables of R36, R41, R86, R106, R109, R135, R143) -/

/-- The builder with both banks unloaded and no build; its counters stay (R41, R61, R62). -/
def Builder.unloaded (b : Builder) : Builder := { b with state := .idle, active := none, shadow := none }

/-- The source unit unloaded; the counters of its sources stay (R106). -/
def SourceUnit.unloaded (u : SourceUnit) : SourceUnit :=
  { channels := mapBank u.channels fun _ c => c.unload, frames := [], toJudge := [], headers := [], owed := 0 }

/-- What "LOAD taken" and STOP unload alike: configuration, tables, banks, sources, capture inputs, tile engines and the
ring processor's work. Late-line counters, the wall frame number, NEXT and the other counters stay; so does frame memory.
Transfers of all requesters but the PCIe endpoint are withdrawn (R19). -/
def State.unload (s : State) : State :=
  { s with
    port := s.port.withdrawWork
    config := none
    live := Table.empty
    builder := s.builder.unloaded
    sources := s.sources.unloaded
    inputs := Vector.replicate 16 CaptureInput.initial
    alarmsLater := []
    engines := mapBank s.engines fun _ e => TileEngine.stopped e.late
    view := none
    ring := Ring.atRest s.ring.next }

/-! ## CONTROL (R179 to R184) -/

/-- A link register write that the part state does not allow changes nothing but REFUSED (R179, R185). -/
def State.refuse (s : State) : State := s.raise causeRefused

/-- The part can take a LOAD (R179). -/
def State.canLoad (s : State) : Bool := s.control.part == .halted || s.control.part == .ready

/-- A LOAD is taken (R180): the part is LOADING and unloaded, and the load sequence reads the configuration block. -/
def State.takeLoad (s : State) (start : Bool) : State :=
  (({ s.unload with alarms := Vector.replicate 8 AlarmInput.unloaded }).withControl
      { part := .loading, faultCode := 0, faultIndex := 0, heldStart := start, loadBytes := [] }).issue
    (.control loadSequence) (nextLoadRead s.link.areaBase.toNat 0)

/-- LOAD (R180). -/
def execLoad (start : Bool) (s : State) : Host.Outcome State Fault Refusal :=
  if s.canLoad then .next (s.takeLoad start) else .next s.refuse

/-- START is taken (R183): the part is RUNNING. Wall frame 1 begins at the wall frame start that follows (R2). -/
def State.takeStart (s : State) : State :=
  (s.withControl { s.control with part := .running, heldStart := false }).withInputs
    (Vector.replicate 16 CaptureInput.initial)

/-- START (R183). -/
def execStart (s : State) : Host.Outcome State Fault Refusal :=
  if s.control.part = .ready then .next s.takeStart else .next s.refuse

/-- HELD_START (R179): a START held from a write of LOAD and START together, taken once the load has brought the part to
READY. -/
def execHeldStart (s : State) : Host.Outcome State Fault Refusal :=
  if s.control.part = .ready ∧ s.control.heldStart = true then .next s.takeStart else .next s

/-- STOP (R184), in every state; the other bits of the write are ignored (R179). The link registers keep their values and
no cause bit is set. The alarm inputs keep what the intervals before it have given them, those of which the alarm contact
unit had still to make the moves included (R125, R136; notes/assumptions/21.md). -/
def execStop (_load _start : Bool) (s : State) : Host.Outcome State Fault Refusal :=
  .next
    (({ s.unload with alarms := mapBank s.alarmsAhead fun _ a => a.stopped }).withControl
      { s.control with part := .halted, heldStart := false, loadBytes := [] })

/-! ## The end of a load (R182) -/

/-- A load that has passed every check: the part is READY and every block is set up from the bytes read. -/
def State.loadPassed (s : State) : State :=
  let bs := s.control.loadBytes
  let cfg := loadedOf bs
  ({ s with
      control := { s.control with part := .ready, loadBytes := [] }
      config := some cfg
      frameNo := 0
      live := Table.empty
      builder := { state := .idle, active := some (initialBank cfg), shadow := none, built := 0, failed := 0 }
      sources := { channels := Vector.ofFn fun src => Source.loaded src (configDescriptor bs src.val),
                   frames := [], toJudge := [], headers := [], owed := 0 }
      inputs := Vector.replicate 16 CaptureInput.initial
      alarms := Vector.ofFn fun i => AlarmInput.loaded (alarmConfigAt bs i.val)
      alarmsLater := []
      engines := Vector.replicate 16 (TileEngine.stopped 0)
      view := none
      ring := Ring.atRest 0 }).raise causeLoadDone

/-- A load that fails a check: HALTED, the fault recorded, a held START dropped. -/
def State.loadFailed (s : State) (code index : Nat) : State :=
  ((s.withControl
      { part := .halted, faultCode := BitVec.ofNat 8 code, faultIndex := BitVec.ofNat 8 index, heldStart := false,
        loadBytes := [] }).setQueue (.control loadSequence) []).raise causeLoadFault

/-- LOAD_END (R182): once the bytes read decide the load. -/
def execLoadEnd (s : State) : Host.Outcome State Fault Refusal :=
  if s.control.part = .loading then
    match loadVerdict s.link.areaBase.toNat s.control.loadBytes with
    | .more => .next s
    | .pass => .next s.loadPassed
    | .fail code index => .next (s.loadFailed code index)
  else .next s

/-! ## The other registers (R185 to R187, R190) -/

/-- A write to CAUSE clears each bit written 1 (R186). -/
def State.writeCause (s : State) (w : RegWrite) : State :=
  s.withLink (s.link.setCauses (s.link.cause &&& ~~~((regValue w).setWidth 8)) s.link.causeEnable)

/-- A write to CAUSE_ENABLE (R187). -/
def State.writeCauseEnable (s : State) (w : RegWrite) : State :=
  s.withLink (s.link.setCauses s.link.cause ((regValue w).setWidth 8))

/-- A write to AREA_BASE (R185). -/
def State.writeAreaBase (s : State) (w : RegWrite) : State :=
  if s.control.part = .halted then s.withLink { s.link with areaBase := regValue w &&& 0xFFFFF000 } else s.refuse

/-- A write to ATTEND (R185). -/
def State.writeAttend (s : State) : State := if s.running then s.lookEvent .attend else s.refuse

/-- A write to RESET_REASON clears each bit written 1 (R190). -/
def State.writeResetReason (s : State) (w : RegWrite) : State :=
  s.withLink { s.link with resetReason := s.link.resetReason &&& ~~~((regValue w).setWidth 3) }

/-- CAUSE_CLEAR (R186). -/
def execCauseClear (w : RegWrite) (s : State) : Host.Outcome State Fault Refusal := .next (s.writeCause w)

/-- CAUSE_ENABLE_WRITE (R187). -/
def execCauseEnableWrite (w : RegWrite) (s : State) : Host.Outcome State Fault Refusal := .next (s.writeCauseEnable w)

/-- AREA_BASE_WRITE (R185). -/
def execAreaBaseWrite (w : RegWrite) (s : State) : Host.Outcome State Fault Refusal := .next (s.writeAreaBase w)

/-- ATTEND (R185): a write of any value. -/
def execAttend (_w : RegWrite) (s : State) : Host.Outcome State Fault Refusal := .next s.writeAttend

/-- RESET_REASON_CLEAR (R190). -/
def execResetReasonClear (w : RegWrite) (s : State) : Host.Outcome State Fault Refusal := .next (s.writeResetReason w)

/-- IGNORED_REGISTER_WRITE (R177): the write changes nothing. `ignoredOk` of WellFormed.lean says which writes of BAR 0
the row stands for; a write that another row stands for is sent as that row's command. -/
def execIgnoredRegisterWrite (_offset : BitVec 12) (_w : RegWrite) (s : State) : Host.Outcome State Fault Refusal := .next s

/-! ## Resets (R188, R189) -/

/-- RESET_REASON bit PIN. -/
def reasonPin : BitVec 3 := 2

/-- RESET_REASON bit LINK. -/
def reasonLink : BitVec 3 := 4

/-- POWER_ON_RESET (R188). Frame memory's contents are undefined after it: `dram` is what it then holds. -/
def execPowerOnReset (dram : List Host.Cell) (s : State) : Host.Outcome State Fault Refusal :=
  .next { State.reset with mem := Memory.ofCells dram, pending := s.pending }

/-- Frame memory when a reset cuts a write that the port was carrying out (R19): the transfer the port grants next, of
which the bytes whose bit is set in the mask have been written. -/
def State.cutMemory (s : State) (mask : Nat) : Memory :=
  match s.port.choose with
  | some r =>
    match s.port.queue r with
    | x :: _ => s.mem.writeEnabled x.addr (maskBytes mask x.stores)
    | [] => s.mem
  | none => s.mem

/-- RESET_PIN (R188): as a power-on reset, but frame memory is kept apart from a write cut short, and PIN is added to
RESET_REASON. -/
def execResetPin (cut : Option Nat) (s : State) : Host.Outcome State Fault Refusal :=
  .next
    { State.reset with
      link := { State.reset.link with resetReason := s.link.resetReason ||| reasonPin }
      mem := match cut with | some mask => s.cutMemory mask | none => s.mem
      pending := s.pending }

/-- PCIE_LINK_RESET (R189): CAUSE_ENABLE becomes 0, LINK is added to RESET_REASON, BAR 2 transfers that wait are
withdrawn (R19) and an MSI being sent is lost; all else goes on. -/
def execPcieLinkReset (msiInFlight : Bool) (s : State) : Host.Outcome State Fault Refusal :=
  .next
    ((s.setQueue (.control pcieEndpoint) []).withLink
      { s.link with
        causeEnable := 0
        resetReason := s.link.resetReason ||| reasonLink
        msiSent := if msiInFlight then s.link.msiSent.dropLast else s.link.msiSent })

end Sys2Proof.Machine
end

