-- ==== Sys2Proof/Machine/Requests.lean ====
section
/-! DEFINITION. The ten request kinds (chapter 9): the check of each and its effect on the drafts, and the commands that take a slot of each kind. -/

namespace Sys2Proof.Machine

open Sys2Proof

/-! ## Checks and effects -/

/-- A window id read from a parameter byte. -/
def idOf (n : Nat) : Fin 64 := ⟨n % 64, Nat.mod_lt _ (by decide)⟩

/-- NOP (R160). -/
def checkNop (_slot : List Byte) (r : Ring) : Verdict := .accept 0 r

/-- PUT_WINDOW (R161): the record's ranges, then PUT (R28). -/
def checkPutWindow (slot : List Byte) (r : Ring) : Verdict :=
  let w := windowAt slot 16
  match w.fault with
  | some off => .refuse resBadField (16 + off)
  | none =>
    let i := idOf w.id
    .accept (if r.draft.has i then 1 else 0) { r with draft := r.draft.put i w }

/-- REMOVE_WINDOW (R162). -/
def checkRemoveWindow (slot : List Byte) (r : Ring) : Verdict :=
  let n := slotByte slot 16
  if 63 < n then .refuse resBadField 16
  else if r.draft.has (idOf n) then
    .accept (r.draft.position (idOf n)) { r with draft := r.draft.remove (idOf n) }
  else .refuse resNoWindow n

/-- A RESTACK that moves an id and returns its new position (R163). -/
def acceptRestack (r : Ring) (i : Fin 64) (p : Placement) : Verdict :=
  let draft := r.draft.restack i p
  .accept (draft.position i) { r with draft := draft }

/-- RESTACK (R163), its checks in the order R163 gives. -/
def checkRestack (slot : List Byte) (r : Ring) : Verdict :=
  let n := slotByte slot 16
  let placement := slotByte slot 17
  let ref := slotByte slot 18
  if 63 < n then .refuse resBadField 16
  else if 3 < placement then .refuse resBadField 17
  else if 2 ≤ placement ∧ 63 < ref then .refuse resBadField 18
  else if r.draft.has (idOf n) = false then .refuse resNoWindow n
  else if 2 ≤ placement ∧ (r.draft.has (idOf ref) = false ∨ ref = n) then .refuse resBadField 18
  else
    acceptRestack r (idOf n)
      (if placement = 0 then .top else if placement = 1 then .bottom
        else if placement = 2 then .above (idOf ref) else .below (idOf ref))

/-- CLEAR_WALL (R164). -/
def checkClearWall (_slot : List Byte) (r : Ring) : Verdict := .accept r.draft.count { r with draft := Table.empty }

/-- The bits set in a scene's presence mask. -/
def scenePopulation (scene : List Byte) : Nat := ((List.range 64).filter fun i => scenePresent scene i).length

/-- A list position of a scene fails check 3 of R167. -/
def sceneEntryBad (scene : List Byte) (p : Nat) : Bool :=
  let e := sceneEntry scene p
  decide (63 < e) || !scenePresent scene e || (List.range p).any fun q => sceneEntry scene q == e

/-- The record offset of the first failing field of record i of a scene (R167, check 4): the id field first. -/
def sceneRecordFault (scene : List Byte) (i : Nat) : Option Nat :=
  let w := sceneRecord scene i
  if w.id ≠ i then some 0 else w.fault

/-- The check of a scene: the detail of the first check of R167 that fails. -/
def sceneFault (scene : List Byte) : Option Nat :=
  if sceneMarkerOf scene ≠ Config.sceneMarker then some 1
  else if sceneCount scene ≠ scenePopulation scene then some (2 + 256 * sceneCount scene)
  else
    match (List.range (sceneCount scene)).find? fun p => sceneEntryBad scene p with
    | some p => some (3 + 256 * p + 65536 * sceneEntry scene p)
    | none =>
      (List.range 64).findSome? fun i =>
        if scenePresent scene i then (sceneRecordFault scene i).map fun off => 4 + 256 * i + 65536 * off else none

/-- The table a scene holds (R32, R168). -/
def sceneTable (scene : List Byte) : Table :=
  { records := Vector.ofFn fun i : Fin 64 => if scenePresent scene i.val then some (sceneRecord scene i.val) else none
    stack := (List.range (sceneCount scene)).map fun p => idOf (sceneEntry scene p) }

/-- TAKE_SCENE (R166 to R168), with the scene as read. -/
def checkTakeScene (scene slot : List Byte) (r : Ring) : Verdict :=
  if 15 < slotByte slot 16 then .refuse resBadField 16
  else
    match sceneFault scene with
    | some detail => .refuse resBadScene detail
    | none => .accept (sceneCount scene) { r with draft := sceneTable scene }

/-- SAVE_SCENE (R169). Its detail is decided at write-back (R159): that the slot is held with 0 until then is the model's
choice (notes/assumptions/40.md). -/
def checkSaveScene (slot : List Byte) (r : Ring) : Verdict :=
  let n := slotByte slot 16
  if h : n < 16 then .accept 0 { r with pendingSaves := r.pendingSaves ++ [⟨n, h⟩] } else .refuse resBadField 16

/-- FREEZE (R171). -/
def checkFreeze (slot : List Byte) (r : Ring) : Verdict :=
  let n := slotByte slot 16
  if h : n < 32 then
    if 1 < slotByte slot 17 then .refuse resBadField 17
    else .accept 0 { r with pendingSources := r.pendingSources ++ [.freeze ⟨n, h⟩ (slotByte slot 17 == 1)] }
  else .refuse resBadField 16

/-- CLEAR_ALARM (R172). Its detail is decided at the commit (R159): that the slot is held with 0 until then is the model's
choice (notes/assumptions/40.md). -/
def checkClearAlarm (slot : List Byte) (r : Ring) : Verdict :=
  let n := slotByte slot 16
  if h : n < 8 then .accept 0 { r with pendingClears := r.pendingClears ++ [(r.held.length, ⟨n, h⟩)] }
  else .refuse resBadField 16

/-- The draft descriptors with their source numbers, ascending. -/
def Ring.numberedDescs (r : Ring) : List (Fin 32 × Descriptor) := (List.finRange 32).map fun q => (q, r.draftDescs[q])

/-- SOURCE_CONFIG (R173 to R175). With enable clear the other fields are not read (R173): that the draft descriptor, and at
the commit the live one (R101), nevertheless hold what the slot has in them is the model's choice
(notes/assumptions/39.md). -/
def checkSourceConfig (areas : List (Nat × Nat)) (slot : List Byte) (r : Ring) : Verdict :=
  let n := slotByte slot 16
  if h : n < 32 then
    let d := descriptorAt slot 20
    match descriptorFault areas r.numberedDescs ⟨n, h⟩ d with
    | some detail => .refuse resBadSlots detail
    | none =>
      .accept 0
        { r with
          draftDescs := vset r.draftDescs ⟨n, h⟩ d
          pendingSources := r.pendingSources ++ [.config ⟨n, h⟩ d] }
  else .refuse resBadField 16

/-- The control areas the last successful LOAD placed (R174, check 5). -/
def State.areas (s : State) : List (Nat × Nat) := controlAreas s.link.areaBase.toNat s.cfg

/-! ## The commands -/

/-- NOP (R160). -/
def execNop (s : State) : Host.Outcome State Fault Refusal := .next (s.takeKind 0 checkNop)

/-- TAKE_SCENE (R166): once the whole scene has been read; a slot whose scene number is out of range, or that lies
beyond the group length limit, is taken without reading a scene. -/
def execTakeScene (s : State) : Host.Outcome State Fault Refusal :=
  match s.ring.look with
  | .scene _ slot scene =>
    .next (if s.takes && decide (Config.unit ≤ scene.length) then s.takeSlot slot (checkTakeScene scene slot) else s)
  | .found _ slot => .next (if s.wantsScene slot then s else s.takeKind 1 (checkTakeScene []))
  | .none => .next s
  | .reading _ => .next s
  | .skip _ _ => .next s
  | .timeout => .next s

/-- PUT_WINDOW (R161). -/
def execPutWindow (s : State) : Host.Outcome State Fault Refusal := .next (s.takeKind 2 checkPutWindow)

/-- REMOVE_WINDOW (R162). -/
def execRemoveWindow (s : State) : Host.Outcome State Fault Refusal := .next (s.takeKind 3 checkRemoveWindow)

/-- RESTACK (R163). -/
def execRestack (s : State) : Host.Outcome State Fault Refusal := .next (s.takeKind 4 checkRestack)

/-- SAVE_SCENE (R169). -/
def execSaveScene (s : State) : Host.Outcome State Fault Refusal := .next (s.takeKind 5 checkSaveScene)

/-- FREEZE (R171). -/
def execFreeze (s : State) : Host.Outcome State Fault Refusal := .next (s.takeKind 6 checkFreeze)

/-- CLEAR_ALARM (R172). -/
def execClearAlarm (s : State) : Host.Outcome State Fault Refusal := .next (s.takeKind 7 checkClearAlarm)

/-- SOURCE_CONFIG (R173 to R175). -/
def execSourceConfig (s : State) : Host.Outcome State Fault Refusal := .next (s.takeKind 8 (checkSourceConfig s.areas))

/-- CLEAR_WALL (R164). -/
def execClearWall (s : State) : Host.Outcome State Fault Refusal := .next (s.takeKind 9 checkClearWall)

/-- BAD_KIND (R145): a posted slot whose kind lies outside 0 to 9 is refused with detail 0. -/
def execBadKind (s : State) : Host.Outcome State Fault Refusal :=
  match s.ring.look with
  | .found _ slot =>
    .next (if s.takes && slotPosted slot && decide (9 < slotKind slot) then s.takeSlot slot fun _ => .refuse resBadKind 0 else s)
  | .none => .next s
  | .reading _ => .next s
  | .scene _ _ _ => .next s
  | .skip _ _ => .next s
  | .timeout => .next s

end Sys2Proof.Machine
end

