-- ==== Sys2Proof/Machine/RingEvents.lean ====
section
/-! DEFINITION. The ring processor's other commands (chapter 8): a slot found not posted, a skipped slot, the two timeouts and the two ends of a return. -/

namespace Sys2Proof.Machine

open Sys2Proof

/-- The processor discards the rest of a chain: RUNNING, SKIPPING. -/
def State.skips (s : State) : Bool := s.running && s.ring.state == .skipping

/-- A look finds what to wait for in RUNNING, in IDLE, COLLECTING and SKIPPING (R144, R146, R149). -/
def State.looks (s : State) : Bool :=
  s.running && (s.ring.state == .idle || s.ring.state == .collecting || s.ring.state == .skipping)

/-- A look's read has returned with POSTED 0, and its cause. -/
def State.foundUnposted (s : State) : Option LookCause :=
  match s.ring.look with
  | .found cause slot => if s.looks && !slotPosted slot then some cause else none
  | _ => none

/-- A wall frame start's look in COLLECTING or SKIPPING counts toward the chain wait (R146, R149). -/
def State.countsWait (s : State) (cause : LookCause) : Bool :=
  match cause with
  | .frame _ => s.ring.state == .collecting || s.ring.state == .skipping
  | .attend => false
  | .atOnce => false

/-- SLOT_NOT_POSTED (R146): NEXT stays; a counted wait that reaches 8 times out. -/
def execSlotNotPosted (s : State) : Host.Outcome State Fault Refusal :=
  match s.foundUnposted with
  | none => .next s
  | some cause =>
    let wait := if s.countsWait cause then s.ring.wait + 1 else s.ring.wait
    if s.countsWait cause && decide (Config.chainWaitLimit ≤ wait) then
      .next (s.withRing { s.ring with wait := wait, look := .timeout })
    else .next ((s.withRing { s.ring with wait := wait, look := .none }).settleLooks)

/-- CHAIN_TIMEOUT (R146): the last held slot gets CHAIN_TIMEOUT, the others GROUP_ABORTED, and no skip follows. -/
def execChainTimeout (s : State) : Host.Outcome State Fault Refusal :=
  if s.running ∧ s.ring.look = .timeout ∧ s.ring.state = .collecting then
    .next (s.abortGroup [] resChainTimeout 0 false)
  else .next s

/-- SKIP_TIMEOUT (R149): the processor goes to IDLE without returning anything. R149 does not say what the chain-wait
counter then holds: that it stays at 8 until the next group starts (R144) is the model's choice
(notes/assumptions/19.md). -/
def execSkipTimeout (s : State) : Host.Outcome State Fault Refusal :=
  if s.running ∧ s.ring.look = .timeout ∧ s.ring.state = .skipping then
    .next ((s.withRing { s.ring with state := .idle, look := .none }).settleLooks)
  else .next s

/-- The slot being returned in SKIPPING, once both its writes have been granted. -/
def State.skipped (s : State) : Option (List Byte) :=
  match s.ring.look with
  | .skip _ slot =>
    if s.skips && (s.port.queue (.control ringProcessor)).isEmpty then some slot else none
  | _ => none

/-- SKIPPED_SLOT (R149): NEXT advances, GROUP_DONE is set, and the processor looks at once, in IDLE when the slot's
CHAIN was clear. The look at once goes before a look event kept meanwhile (notes/assumptions/28.md). -/
def execSkippedSlot (s : State) : Host.Outcome State Fault Refusal :=
  match s.skipped with
  | none => .next s
  | some slot =>
    let t := s.withRing
      { s.ring with
        next := s.nextIndex, wait := 0, look := .none, state := if slotChain slot then .skipping else .idle }
    .next ((t.raise causeGroupDone).lookAtOnce)

/-- A WRITING_BACK processor has had every write of its return granted. -/
def State.returned (s : State) : Bool :=
  s.running && s.ring.state == .writingBack && (s.port.queue (.control ringProcessor)).isEmpty

/-- A return has ended: GROUP_DONE is set and the processor looks at once in the state it goes to (R150, R154, R157),
before it takes a look event kept meanwhile (notes/assumptions/28.md). R149 gives the chain-wait counter a value as
SKIPPING is entered alone: that it becomes 0 here in IDLE too, and stays as it was until here, is the model's choice
(notes/assumptions/19.md). R145 gives a complete group its kind alone: that the mark of a group with edits stays as it is
here, until the next group starts, is the model's choice (notes/assumptions/26.md). -/
def State.endReturn (s : State) (state : RingState) : State :=
  ((s.withRing { s.ring with state := state, held := [], pendingSaves := [], wait := 0 }).raise causeGroupDone).lookAtOnce

/-- WRITE_BACK_DONE (R154). -/
def execWriteBackDone (s : State) : Host.Outcome State Fault Refusal :=
  match s.ring.returning with
  | .committed => .next (if s.returned then s.endReturn .idle else s)
  | .aborted _ => .next s

/-- ABORT_RETURN_DONE (R150). -/
def execAbortReturnDone (s : State) : Host.Outcome State Fault Refusal :=
  match s.ring.returning with
  | .committed => .next s
  | .aborted skip => .next (if s.returned then s.endReturn (if skip then .skipping else .idle) else s)

end Sys2Proof.Machine
end

