-- ==== Sys2Proof/Machine/TimeEvents.lean ====
section
/-! DEFINITION. What the time base delivers (R1, R3): the wall frame start and the millisecond interval, and the commands that stand for one event inside them taken alone. -/

namespace Sys2Proof.Machine

open Sys2Proof

/-! ## The wall frame start -/

/-- The wall frame start as the builder and the status writer take it: the swap (R59), a completion that comes right after
it when `lastTile` says so (R58), then the copy of the builder's and the tile engines' values (R191); the engines begin
the frame (R12). -/
def State.blocksTakeFrame (s : State) (lastTile : Bool) : State :=
  (if lastTile then s.swap.completeLate else s.swap).statusNewFrame.tilesNewFrame

/-- A GROUP bank waits to be swapped in, so this wall frame start is the commit of the group with edits (R59). -/
def State.groupCommits (s : State) : Bool := s.swapKind == some .group

/-- The wall frame start as the ring processor takes it, when the builder has reported no commit: at once, or kept
while it is in the middle of a look (R142, R152). -/
def State.ringFrame (s : State) : State := s.lookEvent (.frame s.frameNo)

/-- The wall frame start alone (R1). A GROUP bank that swaps in commits its group; otherwise the ring processor takes the
wall frame start. `setFirst`: a change of the raised set that the clears of a group without edits make reaches the builder
before its swap (R59). `lastTile`: a build is completed right after it (R58). -/
def State.frameAlone (s : State) (setFirst lastTile : Bool) : State :=
  let t := (s.withFrameNo (s.frameNo + 1)).pushFrame
  if s.groupCommits then (t.blocksTakeFrame lastTile).commitGroup t.frameNo
  else if setFirst && s.awaitsFrame then (t.clearWork.1.blocksTakeFrame lastTile).commitWith t.frameNo t.clearWork.2
  else (t.blocksTakeFrame lastTile).ringFrame

/-! ## The millisecond interval -/

/-- The source unit ages the frames on view (R98). An interval that comes while a wall frame start still waits for the
unit is taken after it; one that comes while headers are still to be judged ages their sources after the judgement
(notes/assumptions/21.md). -/
def State.ageSources (s : State) : State :=
  s.withSources
    (if s.sources.frames.isEmpty then s.sources.intervals 1
     else { s.sources with frames := intervalAfter s.sources.frames })

/-- The capture inputs of a set time the loss of signal (R113); a transfer that waits at the port of an input that has lost
its signal is carried out and nothing follows it. -/
def State.tickInputs (s : State) (which : BitVec 16) : State :=
  let loses (c : Fin 16) (i : CaptureInput) : Bool := which.getLsbD c.val && i.losing
  ((s.withInputs (mapBank s.inputs fun c i => if which.getLsbD c.val then i.ticked else i)).withPort
      { s.port with
        capture := mapBank s.port.capture fun c ts => if loses c s.inputs[c] then orphan ts else ts }).raiseIf
    (anyBank s.inputs loses) causeSourceEvent

/-- A millisecond interval as the source unit, when `sources` says so, and the capture inputs of a set take it. -/
def State.unitsTick (s : State) (sources : Bool) (inputs : BitVec 16) : State :=
  (if sources then s.ageSources else s).tickInputs inputs

/-- MILLISECOND_INTERVAL (R3): an interval that every unit takes at one place in the queue. One that arrives together with a
wall frame start is an operand of that command. -/
def execMillisecondInterval (high : Groups) (s : State) : Host.Outcome State Fault Refusal :=
  if s.running then .next ((s.alarmTakes (.interval high)).unitsTick true (BitVec.allOnes 16)) else .next s

/-! ## A wall frame start and a millisecond interval that arrive together (R3)

The alarm contact unit takes the interval before or after the wall frame start, and the builder takes a change of the
raised set that the interval makes before or after its swap (R59, R130): four orders. -/

/-- The alarm unit takes the interval first and the builder the wall frame start first: the moves are made and ALARM_EVENT
is set (R133), and the change reaches the builder after its swap, with any change that clears committed here make. -/
def State.frameChangeAfter (s : State) (high : Groups) (lastTile : Bool) : State :=
  let moved := (s.withAlarms (sampledAll s.alarms high)).raiseIf (someSettles s.alarms high) causeAlarmEvent
  let t := moved.frameAlone false lastTile
  if raisedSet moved.alarms = raisedSet s.alarms then t else t.raisedChanged

/-- The alarm unit takes the wall frame start first, with the clears that commit there, then the interval, and both changes
reach the builder before its swap. A GROUP bank that still swaps in commits its group before the alarm unit takes the wall
frame start (R129), so its interval then comes after all. The page shows the alarms before the interval (R137). -/
def State.frameChangeBefore (s : State) (high : Groups) (lastTile : Bool) : State :=
  let cleared := if s.awaitsFrame then s.clearWork else (s, [])
  let sampled := cleared.1.sampleContacts high
  if sampled.groupCommits then (s.frameAlone true lastTile).alarmTakes (.interval high)
  else
    let t := (((sampled.withFrameNo (s.frameNo + 1)).pushFrame).blocksTakeFrame lastTile).withAlarms cleared.1.alarms
    let u := if s.awaitsFrame then t.commitWith t.frameNo cleared.2 else t.ringFrame
    u.withAlarms sampled.alarms

/-- The wall frame start and the interval as the alarm unit, the builder and the ring processor take them. While the ring
processor is in the middle of a look, or keeps a wall frame start, an interval that the alarm unit takes second waits for
it, and one that it takes first reaches the builder as soon as it is taken. -/
def State.frameAndInterval (s : State) (order : FrameOrder) (x : TogetherInterval) : State :=
  let free := s.ring.look == .none && s.alarmsLater.isEmpty
  if x.alarmsFirst then
    if x.builderFirst || !s.alarmsLater.isEmpty then
      (s.alarmTakes (.interval x.high)).frameAlone order.setFirst order.lastTile
    else s.frameChangeAfter x.high order.lastTile
  else if x.builderFirst && free then s.frameChangeBefore x.high order.lastTile
  else (s.frameAlone order.setFirst order.lastTile).alarmTakes (.interval x.high)

/-- The wall frame start with what arrives together with it: the source unit and each capture input take the interval
before or after it (R3, R98), and the alarm unit and the builder as `frameAndInterval` says. -/
def State.takeFrame (s : State) (order : FrameOrder) : State :=
  match order.interval with
  | none => s.frameAlone order.setFirst order.lastTile
  | some x =>
    ((s.unitsTick x.sourcesFirst x.inputsFirst).frameAndInterval order x).unitsTick (!x.sourcesFirst) (~~~x.inputsFirst)

/-- WALL_FRAME_START (R1). -/
def execWallFrameStart (order : FrameOrder) (s : State) : Host.Outcome State Fault Refusal :=
  .next (if s.running then s.takeFrame order else s)

/-! ## Events inside a millisecond interval, taken alone

Each stands for a millisecond interval of which nothing but this one input's event is taken; where the input does not
stand before the event, the event does not come about. -/

/-- DEBOUNCED_ASSERT (R127). -/
def execDebouncedAssert (i : Fin 8) (s : State) : Host.Outcome State Fault Refusal :=
  .next (if s.running then s.alarmTakes (.change i true) else s)

/-- DEBOUNCED_RELEASE (R127). -/
def execDebouncedRelease (i : Fin 8) (s : State) : Host.Outcome State Fault Refusal :=
  .next (if s.running then s.alarmTakes (.change i false) else s)

/-- LOSS_OF_SIGNAL (R113). -/
def execLossOfSignal (c : Fin 16) (s : State) : Host.Outcome State Fault Refusal :=
  if s.running && (s.inputs[c]).losing then
    .next (((s.setInput c (s.inputs[c]).lost).setQueue (.capture c) (orphan (s.port.queue (.capture c)))).raise causeSourceEvent)
  else .next s

/-! ## Events inside a wall frame start, taken alone

Each stands for steps 3 and 4 of R92 for one source, of a wall frame start that promotes nothing for it. -/

/-- Steps 3 and 4 of R92 come next for a source: RUNNING, enabled, no header to judge, nothing to promote. -/
def State.finishes (s : State) (src : Fin 32) : Bool :=
  s.running && (s.channel src).desc.enable && !s.sources.toJudge.contains src &&
    !(isCapture src && (s.channel src).promotable)

/-- Steps 3 and 4 of R92 for a source. -/
def State.finishSource (s : State) (src : Fin 32) : State :=
  (s.setChannel src ((s.channel src).commit src []).finish).raise causeSourceEvent

/-- STALE_LIMIT_REACHED (R97). -/
def execStaleLimitReached (src : Fin 32) (s : State) : Host.Outcome State Fault Refusal :=
  let c := s.channel src
  if s.finishes src && !c.expires && c.judged == .stale && c.presentation != .stale then .next (s.finishSource src)
  else .next s

/-- EXPIRY (R96). -/
def execExpiry (src : Fin 32) (s : State) : Host.Outcome State Fault Refusal :=
  if s.finishes src && (s.channel src).expires then .next (s.finishSource src) else .next s

end Sys2Proof.Machine
end

