-- ==== Sys2Proof/Machine/UnitEvents.lean ====
section
/-! DEFINITION. The commands of the tile engines, the capture inputs and the source unit (chapters 1, 5 and 6). -/

namespace Sys2Proof.Machine

open Sys2Proof

/-! ## Tile engines -/

/-- LINE_START (R12, R13). -/
def execLineStart (t : Fin 16) (s : State) : Host.Outcome State Fault Refusal := .next (s.lineStart t)

/-- ROW_COMPOSED (R12). -/
def execRowComposed (t : Fin 16) (s : State) : Host.Outcome State Fault Refusal := .next (s.rowComposed t)

/-! ## Capture inputs -/

/-- FRAME_START_MARK (R108, R110, R111, R116). -/
def execFrameStartMark (c : Fin 16) (s : State) : Host.Outcome State Fault Refusal :=
  if s.listens c then .next (s.frameStartMark c) else .next s

/-- What a frame-start mark would make of an input: the input after the frame in progress has ended and been judged. -/
def State.markEnds (s : State) (c : Fin 16) : CaptureInput :=
  (endFrame (s.endLine c).inputs[c] ((s.endLine c).channel (captureSource c))).1

/-- CAPTURE_LOCK (R111): the frame-start mark at which the candidate's count reaches 3 in range. -/
def execCaptureLock (c : Fin 16) (s : State) : Host.Outcome State Fault Refusal :=
  if s.listens c && (s.inputs[c]).state == .acquiring && (s.markEnds c).state == .locked then .next (s.frameStartMark c)
  else .next s

/-- CONGESTION_HALVED (R119): the frame-start mark at which the torn run reaches 2. -/
def execCongestionHalved (c : Fin 16) (s : State) : Host.Outcome State Fault Refusal :=
  if s.listens c && !(s.inputs[c]).halved && (s.markEnds c).halved then .next (s.frameStartMark c) else .next s

/-- CONGESTION_NORMAL (R119): the frame-start mark at which the clean run reaches 16. -/
def execCongestionNormal (c : Fin 16) (s : State) : Host.Outcome State Fault Refusal :=
  if s.listens c && (s.inputs[c]).halved && !(s.markEnds c).halved then .next (s.frameStartMark c) else .next s

/-- LINE_START_MARK (R108, R115). -/
def execLineStartMark (c : Fin 16) (s : State) : Host.Outcome State Fault Refusal :=
  if s.listens c then .next (s.lineStartMark c) else .next s

/-- PIXEL (R108, R114). -/
def execPixel (c : Fin 16) (p : Colour) (s : State) : Host.Outcome State Fault Refusal :=
  if s.listens c then .next (s.pixel c p) else .next s

/-- GOOD_FRAME_REPORT (R117): the last line of a good frame has left the FIFO. -/
def execGoodFrameReport (c : Fin 16) (s : State) : Host.Outcome State Fault Refusal :=
  let i := s.inputs[c]
  if s.listens c && i.reportDue then .next (s.setInput c { i with good := none, report := i.good }) else .next s

/-! ## The source unit -/

/-- The header write of a capture publication, into the slot that was FILLING (R90). -/
def Source.headerWrite (before : Source) (w h : Nat) : Transfer :=
  ⟨before.fillingBase, .write (headerBytes (before.sequence + 1) w h), 0⟩

/-- The source unit takes a report (R89, R90); the input goes on into its new filling slot (R114). -/
def State.publishCapture (s : State) (c : Fin 16) (w h : Nat) : State :=
  let src := captureSource c
  let ch := s.channel src
  (((s.setChannel src (ch.publish w h)).issue (.control sourceUnit) [ch.headerWrite w h]).setInput c
      { s.inputs[c] with report := none }).captureIssue c

/-- CAPTURE_PUBLICATION (R89). R91 lets a report and a wall frame start be taken in either order. A report that comes while
a wall frame start waits in the source unit for the ring processor (R92, R142) is taken at once, and that wall frame start
then promotes its frame: the spec does not say whether a start that waits counts as taken, and this is the model's choice
(notes/assumptions/35.md). -/
def execCapturePublication (c : Fin 16) (s : State) : Host.Outcome State Fault Refusal :=
  match (s.inputs[c]).report with
  | some d => .next (if s.listens c then s.publishCapture c d.1 d.2 else s)
  | none => .next s

/-- The header of a source that has been read and is still to be judged. -/
def State.headerOf (s : State) (src : Fin 32) : Option (List Byte) :=
  if s.running && s.sources.toJudge.contains src then (s.sources.headers.find? fun p => p.1 == src).map (·.2) else none

/-- MEMORY_HEADER_READ (R95). -/
def execMemoryHeaderRead (m : Fin 16) (s : State) : Host.Outcome State Fault Refusal :=
  match s.headerOf (memorySource m) with
  | some header => .next (s.headerJudged (memorySource m) header)
  | none => .next s

end Sys2Proof.Machine
end

