-- ==== Sys2Proof/Machine/Dispatch.lean ====
section
/-! DEFINITION. The effect of each command on everything but the queue: one arm for each constructor of Instr, one call of its meaning. -/

namespace Sys2Proof.Machine

open Sys2Proof

def exec (i : Instr) (s : State) : Host.Outcome State Fault Refusal :=
  match i with
  | .powerOnReset a => Sys2Proof.Machine.execPowerOnReset a s
  | .resetPin a => Sys2Proof.Machine.execResetPin a s
  | .pcieLinkReset a => Sys2Proof.Machine.execPcieLinkReset a s
  | .load a => Sys2Proof.Machine.execLoad a s
  | .start => Sys2Proof.Machine.execStart s
  | .stop a b => Sys2Proof.Machine.execStop a b s
  | .loadEnd => Sys2Proof.Machine.execLoadEnd s
  | .heldStart => Sys2Proof.Machine.execHeldStart s
  | .causeClear a => Sys2Proof.Machine.execCauseClear a s
  | .causeEnableWrite a => Sys2Proof.Machine.execCauseEnableWrite a s
  | .areaBaseWrite a => Sys2Proof.Machine.execAreaBaseWrite a s
  | .attend a => Sys2Proof.Machine.execAttend a s
  | .resetReasonClear a => Sys2Proof.Machine.execResetReasonClear a s
  | .ignoredRegisterWrite a b => Sys2Proof.Machine.execIgnoredRegisterWrite a b s
  | .bar2Access a => Sys2Proof.Machine.execBar2Access a s
  | .transferGrant => Sys2Proof.Machine.execTransferGrant s
  | .wallFrameStart order => Sys2Proof.Machine.execWallFrameStart order s
  | .millisecondInterval a => Sys2Proof.Machine.execMillisecondInterval a s
  | .debouncedAssert a => Sys2Proof.Machine.execDebouncedAssert a s
  | .debouncedRelease a => Sys2Proof.Machine.execDebouncedRelease a s
  | .lossOfSignal a => Sys2Proof.Machine.execLossOfSignal a s
  | .staleLimitReached a => Sys2Proof.Machine.execStaleLimitReached a s
  | .expiry a => Sys2Proof.Machine.execExpiry a s
  | .memoryHeaderRead a => Sys2Proof.Machine.execMemoryHeaderRead a s
  | .lineStart a => Sys2Proof.Machine.execLineStart a s
  | .rowComposed a => Sys2Proof.Machine.execRowComposed a s
  | .frameStartMark a => Sys2Proof.Machine.execFrameStartMark a s
  | .captureLock a => Sys2Proof.Machine.execCaptureLock a s
  | .congestionHalved a => Sys2Proof.Machine.execCongestionHalved a s
  | .congestionNormal a => Sys2Proof.Machine.execCongestionNormal a s
  | .lineStartMark a => Sys2Proof.Machine.execLineStartMark a s
  | .pixel a b => Sys2Proof.Machine.execPixel a b s
  | .goodFrameReport a => Sys2Proof.Machine.execGoodFrameReport a s
  | .capturePublication a => Sys2Proof.Machine.execCapturePublication a s
  | .tileBuilt => Sys2Proof.Machine.execTileBuilt s
  | .nop => Sys2Proof.Machine.execNop s
  | .takeScene => Sys2Proof.Machine.execTakeScene s
  | .putWindow => Sys2Proof.Machine.execPutWindow s
  | .removeWindow => Sys2Proof.Machine.execRemoveWindow s
  | .restack => Sys2Proof.Machine.execRestack s
  | .saveScene => Sys2Proof.Machine.execSaveScene s
  | .freeze => Sys2Proof.Machine.execFreeze s
  | .clearAlarm => Sys2Proof.Machine.execClearAlarm s
  | .sourceConfig => Sys2Proof.Machine.execSourceConfig s
  | .clearWall => Sys2Proof.Machine.execClearWall s
  | .badKind => Sys2Proof.Machine.execBadKind s
  | .slotNotPosted => Sys2Proof.Machine.execSlotNotPosted s
  | .skippedSlot => Sys2Proof.Machine.execSkippedSlot s
  | .chainTimeout => Sys2Proof.Machine.execChainTimeout s
  | .skipTimeout => Sys2Proof.Machine.execSkipTimeout s
  | .writeBackDone => Sys2Proof.Machine.execWriteBackDone s
  | .abortReturnDone => Sys2Proof.Machine.execAbortReturnDone s

end Sys2Proof.Machine
end

