-- ==== Sys2Proof/Safety.lean ====
section
/-! DEFINITION. What counts as a safe run: the conditions on a state that the spec says hold at every moment. The claims say that reset meets each of them and that every step keeps it. The last sections hold the terms in which the claims speak of interrupts and of the ring processor. -/

namespace Sys2Proof.Machine

open Sys2Proof

/-! ## Window tables (R20, R27) -/

/-- Every field within the range that the table of section 2.1 gives for it (R20). -/
def WindowRec.inRange (w : WindowRec) : Prop :=
  w.id ≤ 63 ∧ (w.source ≤ 31 ∨ w.source = 255) ∧ w.x ≤ 16383 ∧ w.y ≤ 16383 ∧
    1 ≤ w.w ∧ w.w ≤ 16383 ∧ w.x + w.w ≤ 16384 ∧ 1 ≤ w.h ∧ w.h ≤ 16383 ∧ w.y + w.h ≤ 16384 ∧
    w.sx ≤ 4095 ∧ w.sy ≤ 2399 ∧ w.sw ≤ 4096 ∧ w.sx + w.sw ≤ 4096 ∧ w.sh ≤ 2400 ∧ w.sy + w.sh ≤ 2400 ∧ w.border ≤ 15

/-- The stacking list holds every id present exactly once and no other id (R27), and every record is in range and
carries the id under which the table holds it (R20). -/
def Table.wellFormed (t : Table) : Prop :=
  t.stack.Nodup ∧ (∀ i : Fin 64, i ∈ t.stack ↔ t.has i = true) ∧
    ∀ (i : Fin 64) (w : WindowRec), t.records[i] = some w → w.id = i.val ∧ w.inRange

/-- Both tables have the form of R27 (R27: "at every moment at which a block reads them"). -/
def State.tablesWellFormed (s : State) : Prop := s.live.wellFormed ∧ s.ring.draft.wellFormed

/-! ## Slot roles (R87) -/

/-- How many slots of a source hold a role. -/
def Source.slotsHolding (c : Source) (r : Role) : Nat := (List.finRange 3).countP fun i => c.roles[i] == some r

/-- An enabled source's slots in use, and no others, hold one role each: one FILLING, at most one SHOWN, at most one
READY and none of a memory source. A disabled source holds no roles (R87). -/
def Source.rolesLegal (src : Fin 32) (c : Source) : Prop :=
  if c.desc.enable = true then
    (∀ i : Fin 3, (c.roles[i]).isSome = true ↔ i ∈ slotsInUse src) ∧ c.slotsHolding .filling = 1 ∧ c.slotsHolding .shown ≤ 1 ∧
      c.slotsHolding .ready ≤ (if isCapture src then 1 else 0)
  else ∀ i : Fin 3, c.roles[i] = none

/-- R87 for every source. -/
def State.rolesLegal (s : State) : Prop := ∀ src, (s.channel src).rolesLegal src

/-! ## The ring processor (R141, R147) -/

/-- No more slots are held than min(32, ring length ÷ 2) (R147), and NEXT is the index of a slot of the ring (R141). -/
def State.ringInRange (s : State) : Prop :=
  s.ring.held.length ≤ min 32 (2 ^ s.cfg.ringCode / 2) ∧ (s.config.isSome = true → s.ring.next < 2 ^ s.cfg.ringCode)

/-! ## Alarm inputs (R126, R127) -/

/-- The debounced level is asserted in ACTIVE and ACKED and released in IDLE and LATCHED (R127), and the debounce
counter of an enabled input lies below its D (R126). -/
def AlarmInput.consistent (a : AlarmInput) : Prop :=
  (a.level = true ↔ a.state = .active ∨ a.state = .acked) ∧ (a.config.enable = true → a.count < a.config.debounce)

/-- R126 and R127 for every input. -/
def State.alarmsConsistent (s : State) : Prop := ∀ i : Fin 8, (s.alarms[i]).consistent

/-! ## Outside RUNNING (R6, R15) -/

/-- In HALTED, LOADING and READY no tile output sends, no engine composes, and no tile or capture transfer waits. -/
def State.quietOutsideRunning (s : State) : Prop :=
  s.control.part ≠ .running →
    (∀ t : Fin 16, (s.engines[t]).output = .noSignal ∧ (s.engines[t]).composing = none ∧ s.port.tile[t] = []) ∧
      ∀ c : Fin 16, s.port.capture[c] = []

/-! ## The pool of spans (R49) -/

/-- The spans that the tiles of a bank hold. -/
def Bank.spans (b : Bank) : Nat :=
  ((List.finRange 16).map fun t =>
    match b.tiles[t] with
    | some table => (table.bands.map fun band => band.spans.length).sum
    | none => 0).sum

/-- The enabled tiles from tile number n on. -/
def State.tilesFrom (s : State) (n : Nat) : Nat :=
  ((List.finRange 16).filter fun t => decide (n ≤ t.val) && (s.tile t).enable).length

/-- The active bank's spans come from one pool of 6144, and a build has taken no more of it than leaves one span for each
enabled tile it has still to build, of which the shadow holds nothing yet (R49). -/
def State.poolHolds (s : State) : Prop :=
  (∀ b, s.builder.active = some b → b.spans ≤ 6144) ∧
    match s.builder.state with
    | .idle => True
    | .building _ n =>
      ∃ b, s.builder.shadow = some b ∧ (∀ t : Fin 16, n ≤ t.val → b.tiles[t] = none) ∧ b.spans + s.tilesFrom n ≤ 6144
    | .donePending _ => ∀ b, s.builder.shadow = some b → b.spans ≤ 6144

/-! ## Terms: loading and unloading (R180 to R184) -/

/-- Two areas share no byte. -/
def apart (a alen b blen : Nat) : Prop := a + alen ≤ b ∨ b + blen ≤ a

/-- An area aligned to 4 KiB that lies inside frame memory and shares no byte with the areas given. -/
def areaFits (base len : Nat) (others : List (Nat × Nat)) : Prop :=
  base % 4096 = 0 ∧ base + len ≤ 4294967296 ∧ ∀ a ∈ others, apart base len a.1 a.2

/-- The part of check `code` of R181 that concerns the tile, area, source or alarm input with fault index `index`, on the
bytes of a configuration block. -/
def loadCheckAt (areaBase : Nat) (bs : List Byte) (code index : Nat) : Prop :=
  let cfg := loadedOf bs
  let block := (areaBase, 4096)
  let ring := (cfg.ringBase, 64 * 2 ^ cfg.ringCode)
  let scenes := (cfg.sceneBase, 65536)
  let page := (cfg.statusBase, 4096)
  match code with
  | 1 => index = 0 → field bs 0 4 = 0x47435741
  | 2 => index = 0 → 13333 ≤ cfg.period ∧ cfg.period ≤ 41667
  | 3 =>
    ∀ t : Fin 16, t.val = index → (cfg.tiles[t]).enable = true →
      (64 ≤ (cfg.tiles[t]).width ∧ (cfg.tiles[t]).width ≤ 1920) ∧ (64 ≤ (cfg.tiles[t]).height ∧ (cfg.tiles[t]).height ≤ 1200) ∧
        (cfg.tiles[t]).x + (cfg.tiles[t]).width ≤ 16384 ∧ (cfg.tiles[t]).y + (cfg.tiles[t]).height ≤ 16384
  | 4 => index = 0 → ∃ t : Fin 16, (cfg.tiles[t]).enable = true
  | 5 => index = 0 → 3 ≤ cfg.ringCode ∧ cfg.ringCode ≤ 8
  | 6 =>
    (index = 1 → areaFits ring.1 ring.2 [block]) ∧ (index = 2 → areaFits scenes.1 scenes.2 [block, ring]) ∧
      (index = 3 → areaFits page.1 page.2 [block, ring, scenes])
  | 7 =>
    ∀ src : Fin 32, src.val = index → (configDescriptor bs src.val).enable = true →
      let d := configDescriptor bs src.val
      (5 ≤ d.size ∧ d.size ≤ 9601) ∧
        ∀ slot ∈ slotsInUse src,
          areaFits (d.base slot) (d.size * 4096) [block, ring, scenes, page] ∧
            (∀ q ∈ slotsInUse src, q ≠ slot → apart (d.base slot) (d.size * 4096) (d.base q) (d.size * 4096)) ∧
            ∀ other : Fin 32, other < src → (configDescriptor bs other.val).enable = true → ∀ q ∈ slotsInUse other,
              apart (d.base slot) (d.size * 4096) ((configDescriptor bs other.val).base q)
                ((configDescriptor bs other.val).size * 4096)
  | 8 =>
    ∀ i : Fin 8, i.val = index → (alarmConfigAt bs i.val).enable = true →
      1 ≤ (alarmConfigAt bs i.val).debounce ∧ (alarmConfigAt bs i.val).debounce ≤ 255
  | _ => True

/-- What "LOAD taken" and STOP leave alike: no configuration, empty tables, unloaded banks, sources with no descriptor and
no roles, capture inputs with no signal, nothing that the alarm contact unit has still to take, tile engines that send nothing and a ring processor at rest; the counters, the
wall frame number, NEXT, the link registers, frame memory, the status copy, the port's pointers and the PCIe endpoint's
transfers keep what they held, and no transfer of another requester but the load sequence waits. -/
def State.unloadedInto (s t : State) : Prop :=
  (t.config = none ∧ t.live = Table.empty ∧ t.view = none ∧ t.ring = Ring.atRest s.ring.next) ∧
    t.builder = ⟨.idle, none, none, s.builder.built, s.builder.failed⟩ ∧
    ((∀ src, t.channel src =
        { Source.unloaded with
          published := (s.channel src).published, superseded := (s.channel src).superseded, torn := (s.channel src).torn,
          oversize := (s.channel src).oversize, badFrame := (s.channel src).badFrame, expired := (s.channel src).expired }) ∧
      t.sources.frames = [] ∧ t.sources.toJudge = [] ∧ t.sources.headers = [] ∧ t.sources.owed = 0) ∧
    ((∀ c : Fin 16, t.inputs[c] = CaptureInput.initial) ∧ t.alarmsLater = []) ∧
    (∀ k : Fin 16, t.engines[k] = TileEngine.stopped (s.engines[k]).late) ∧
    ((∀ k : Fin 16, t.port.tile[k] = []) ∧ (∀ c : Fin 16, t.port.capture[c] = []) ∧
      t.port.control[pcieEndpoint] = s.port.control[pcieEndpoint] ∧
      (∀ r : Fin 5, r ≠ pcieEndpoint → r ≠ loadSequence → t.port.control[r] = []) ∧
      t.port.tilePtr = s.port.tilePtr ∧ t.port.capturePtr = s.port.capturePtr ∧ t.port.controlPtr = s.port.controlPtr) ∧
    t.link = s.link ∧ t.mem = s.mem ∧ t.frameNo = s.frameNo ∧ t.status = s.status ∧ t.pending = s.pending

/-! ## Terms: the port (R16, R17) -/

/-- How many places after the pointer a requester of a class of `n` stands in the cyclic order: 0 right after it, n − 1 the
pointer's own (R17). -/
def placesAfter {n : Nat} (ptr i : Fin n) : Nat := (i.val + n - ptr.val - 1) % n

/-- In a class, `i` has a transfer waiting and no requester that stands nearer after the pointer has (R17). -/
def firstAfter {n : Nat} (ptr i : Fin n) (queues : Vector (List Transfer) n) : Prop :=
  queues[i] ≠ [] ∧ ∀ j : Fin n, queues[j] ≠ [] → placesAfter ptr i ≤ placesAfter ptr j

/-- The requester whose transfer the port grants next: tile before capture before control, and within the class the first
waiting one after the pointer (R16, R17). -/
def Port.next (p : Port) : Requester → Prop
  | .tile t => firstAfter p.tilePtr t p.tile
  | .capture c => (∀ t : Fin 16, p.tile[t] = []) ∧ firstAfter p.capturePtr c p.capture
  | .control r =>
    (∀ t : Fin 16, p.tile[t] = []) ∧ (∀ c : Fin 16, p.capture[c] = []) ∧ firstAfter p.controlPtr r p.control

/-! ## Terms: the port's transfers (R15) -/

/-- The addresses a transfer reads, or writes a byte at. -/
def Transfer.addresses (x : Transfer) : List Nat :=
  match x.op with
  | .read n => (List.range n).map (x.addr + ·)
  | .write data => (List.range data.length).map (x.addr + ·)
  | .merge data => (List.range data.length).map (x.addr + ·)

/-- Every transfer has 4 to 256 bytes of one aligned block of 256 (R15). -/
def allWithinBlocks (xs : List Transfer) : Prop :=
  ∀ x ∈ xs, 4 ≤ x.addresses.length ∧ x.addresses.length ≤ 256 ∧ x.addr % 256 + x.addresses.length ≤ 256

/-- Transfers that cover an area in ascending address order, each byte once, as R15 asks. -/
def coversArea (xs : List Transfer) (base len : Nat) : Prop :=
  allWithinBlocks xs ∧ xs.flatMap Transfer.addresses = (List.range len).map (base + ·)

/-! ## Terms: sources (R88, R98, R101, R102) -/

/-- A source `n` millisecond intervals later (R98): the age of an enabled source that is on view and not frozen has
risen by `n`, and stays at 65535. -/
def Source.older (c : Source) (n : Nat) : Source :=
  if c.desc.enable = true ∧ (∃ k : Fin 3, c.roles[k] = some .shown) ∧ c.frozen = false then
    { c with age := max c.age (min 65535 (c.age + n)) }
  else c

/-- The initial state of a source with an enabled descriptor (R88), the presentation of the wall frame before kept. -/
def Source.restarted (src : Fin 32) (d : Descriptor) (c : Source) : Source :=
  { desc := d
    roles := if src.val < 16 then #v[some .filling, some .spare, some .spare] else #v[some .filling, some .spare, none]
    readyW := 0, readyH := 0, shownW := 0, shownH := 0, age := 0, presentation := .none, before := c.before,
    frozen := false, sequence := 0, expected := if src.val < 16 then 0 else 1, published := 0, superseded := 0, torn := 0,
    oversize := 0, badFrame := 0, expired := 0 }

/-- A source disabled (R102): its six counters keep their values and all else but the descriptor is gone. -/
def Source.switchedOff (d : Descriptor) (c : Source) : Source :=
  { desc := d, roles := #v[none, none, none], readyW := 0, readyH := 0, shownW := 0, shownH := 0, age := 0,
    presentation := .none, before := c.before, frozen := false, sequence := 0, expected := 0, published := c.published,
    superseded := c.superseded, torn := c.torn, oversize := c.oversize, badFrame := c.badFrame, expired := c.expired }

/-- Steps 3 and 4 of R92 for an enabled source that promotes nothing: a frame on view that has reached its expiry limit is
taken from view and counted (R96; the size it had becomes 0, notes/assumptions/22.md), and the presentation is that of
R97. -/
def Source.settled (c : Source) : Source :=
  if (∃ k : Fin 3, c.roles[k] = some .shown) ∧ c.desc.expiryLimit ≠ 0 ∧ c.desc.expiryLimit ≤ c.age then
    { c with
      roles := mapBank c.roles fun _ r => if r = some .shown then some .spare else r
      age := 0, shownW := 0, shownH := 0, presentation := .none
      expired := if c.expired = 0xFFFFFFFF then c.expired else c.expired + 1 }
  else
    { c with
      presentation :=
        if ∀ k : Fin 3, c.roles[k] ≠ some .shown then .none
        else if c.desc.staleLimit ≠ 0 ∧ c.desc.staleLimit ≤ c.age then .stale
        else .fresh }

/-- What the source unit commits at a wall frame start that the ring processor takes at once (R92, R153): the pending
configurations and freezes of a group that commits there. -/
def State.itemsCommitted (s : State) : List SourceItem :=
  if s.builder.state = .donePending .group ∨ (s.ring.state = .awaitingCommit ∧ s.ring.edits = false) then
    s.ring.pendingSources
  else []

/-- The source unit and the ring processor are ready to take a wall frame start at once. -/
def State.readyForFrame (s : State) : Prop :=
  s.control.part = .running ∧ s.sources.frames = [] ∧ s.sources.toJudge = [] ∧ s.ring.look = .none

/-- The lowest slot that holds a role is slot k. -/
def Source.holdsAt (c : Source) (r : Role) (k : Fin 3) : Prop := c.roles[k] = some r ∧ ∀ j : Fin 3, j < k → c.roles[j] ≠ some r

/-! ## Terms: the view of a wall frame (R63 to R66) -/

/-- The engines hold the view of the wall frame (R63, R64): the presentation of every source, and a scaler state for
exactly the windows of the live table that are drawn under the active bank's built-with set, have an interior, and
whose source is not NONE, formed from the SHOWN slot of their source. -/
def State.viewFormed (t : State) : Prop :=
  ∃ v, t.view = some v ∧ (∀ src : Fin 32, v.presentations[src] = (t.channel src).presentation) ∧
    (v.scalers.map fun sc => sc.window).Pairwise (· < ·) ∧
    (∀ sc ∈ v.scalers, ∃ (w : WindowRec) (src : Fin 32), t.live.records[sc.window] = some w ∧ w.source = src.val ∧
      w.drawn t.builder.activeSet = true ∧ 1 ≤ w.interiorW ∧ 1 ≤ w.interiorH ∧ (t.channel src).presentation ≠ .none ∧
      sc.source = src.val ∧ sc.wf = (t.channel src).shownW ∧ sc.hf = (t.channel src).shownH ∧
      (∀ k, (t.channel src).holdsAt .shown k → sc.base = (t.channel src).desc.base k) ∧
      sc.axes =
        if sc.wf ≤ w.sx ∨ sc.hf ≤ w.sy then none
        else some (axisOf w.sx w.sw sc.wf w.interiorW, axisOf w.sy w.sh sc.hf w.interiorH)) ∧
    ∀ (id : Fin 64) (w : WindowRec) (src : Fin 32), t.live.records[id] = some w → w.source = src.val →
      w.drawn t.builder.activeSet = true → 1 ≤ w.interiorW → 1 ≤ w.interiorH → (t.channel src).presentation ≠ .none →
        ∃ sc ∈ v.scalers, sc.window = id

/-- The wall frame is ready: the view is formed, an engine that has begun a row without fetches (`before`) has issued
those of that row (R63), and the page is to be written from the status writer's copy, what was left of the page before
it abandoned (R191). -/
def State.frameIsReady (t : State) (before : Vector TileEngine 16) : Prop :=
  t.viewFormed ∧
    (∀ (k : Fin 16) (c : Composing) (v : FrameView), (before[k]).composing = some c → c.begun = false → t.view = some v →
      (t.engines[k]).composing = some { c with begun := true } ∧ t.port.queue (.tile k) = rowFetches t v k c.row) ∧
    t.port.queue (.control statusWriter) = pageTransfers t.cfg.statusBase t.status

/-- What the status writer copies of a source (R107, R123, R192, R202) whose channel stands at `c` when it has done its
work and whose capture input stood at `input` when the wall frame started. -/
def reportedEntry (src : Fin 32) (c : Source) (input : InputEntry) : SourceEntry :=
  let on := c.desc.enable
  let fed := on && decide (src.val < 16)
  let read := on && decide (16 ≤ src.val)
  { capture := if fed then input.state else .noSignal
    halved := fed && input.halved
    oversizeFlag := fed && input.oversize
    presentation := if on then c.presentation else .none
    frozen := on && c.frozen
    shown := if on then c.slotWith .shown else none
    ready := if on then c.slotWith .ready else none
    filling := if on then c.slotWith .filling else none
    width := if fed then input.width else if read ∧ (c.slotWith .shown).isSome = true then c.shownW else 0
    height := if fed then input.height else if read ∧ (c.slotWith .shown).isSome = true then c.shownH else 0
    expected := if read then c.expected else 0
    age := if on then c.age else 0
    published := c.published, superseded := c.superseded, torn := c.torn, oversize := c.oversize, badFrame := c.badFrame,
    expired := c.expired }

/-- What a page reports of a capture input (R123). -/
def CaptureInput.reported (i : CaptureInput) : InputEntry :=
  { state := i.state, halved := i.halved, oversize := i.oversize, width := i.lockedW, height := i.lockedH }

/-! ## Terms: a wall frame start in the source unit (R92 to R98, R121) -/

/-- Some pending item configures the source of a capture input. -/
def resetsInput (items : List SourceItem) (k : Fin 16) : Prop := ∃ d, SourceItem.config (captureSource k) d ∈ items

/-- What commits at a wall frame start has acted on the capture inputs (R101, R121): each whose source is configured is in
NO_SIGNAL with its frame abandoned, its waiting transfer carried out (notes/assumptions/16.md), and no other has changed. -/
def State.inputsTake (s t : State) (items : List SourceItem) : Prop :=
  ∀ k : Fin 16,
    (resetsInput items k →
      t.inputs[k] = CaptureInput.initial ∧
        t.port.queue (.capture k) = (s.port.queue (.capture k)).map fun x => { x with tag := 0 }) ∧
    (¬ resetsInput items k → t.inputs[k] = s.inputs[k] ∧ t.port.queue (.capture k) = s.port.queue (.capture k))

/-- The source unit has taken a wall frame start with what commits at it (R92 to R97), and then the millisecond intervals
that came after it (R98): it has the header of every enabled memory source that is not frozen to judge, each read issued in
ascending source number (notes/assumptions/31.md), and every other source has done its steps, stands so in the copy for the
page (R107), and has aged. SOURCE_EVENT is set by an expiry, a change of presentation and the reset of an input with a
signal (R121). -/
def State.sourcesTake (s t : State) (f : SourceFrame) : Prop :=
  let c (src : Fin 32) : Source := (s.channel src).commit src f.items
  let reads (src : Fin 32) : Prop := (c src).desc.enable = true ∧ 16 ≤ src.val ∧ (c src).frozen = false
  let promotes (src : Fin 32) : Prop :=
    (c src).desc.enable = true ∧ src.val < 16 ∧ (c src).frozen = false ∧ ∃ k : Fin 3, (c src).roles[k] = some .ready
  let expires (src : Fin 32) : Prop :=
    (c src).desc.enable = true ∧ (∃ k : Fin 3, (c src).roles[k] = some .shown) ∧ (c src).desc.expiryLimit ≠ 0 ∧
      (c src).desc.expiryLimit ≤ (c src).age
  ((∀ src, src ∈ t.sources.toJudge ↔ reads src) ∧ t.sources.toJudge.Pairwise (· < ·) ∧ t.sources.headers = [] ∧
      t.sources.owed = if t.sources.toJudge = [] then 0 else f.after) ∧
    (∃ xs, t.port.queue (.control sourceUnit) = s.port.queue (.control sourceUnit) ++ xs ∧
      xs.length = t.sources.toJudge.length ∧
      ∀ (n : Nat) (src : Fin 32) (k : Fin 3), t.sources.toJudge[n]? = some src → (c src).holdsAt .filling k →
        xs[n]? = some ⟨(c src).desc.base k, .read 16, src.val + 1⟩) ∧
    (∀ src,
      (reads src → t.channel src = c src ∧ t.status.sources[src] = s.status.sources[src]) ∧
        (¬ reads src →
          ∃ done : Source,
            ((c src).desc.enable = false → done = { c src with presentation := .none }) ∧
              (promotes src →
                done =
                  { c src with
                    roles := mapBank (c src).roles fun _ r =>
                      if r = some .ready then some .shown else if r = some .shown then some .spare else r
                    shownW := (c src).readyW, shownH := (c src).readyH, age := 0, presentation := .fresh
                    published := if (c src).published = 0xFFFFFFFF then (c src).published else (c src).published + 1 }) ∧
              ((c src).desc.enable = true → ¬ promotes src → done = (c src).settled) ∧
              t.channel src = done.older f.after ∧
              t.status.sources[src] = reportedEntry src done t.status.inputs[captureOf src])) ∧
    (t.link.cause.getLsbD 3 = true ↔
      s.link.cause.getLsbD 3 = true ∨
        (∃ src, ¬ reads src ∧
          ((t.channel src).presentation ≠ (s.channel src).presentation ∨ (expires src ∧ ¬ promotes src))) ∨
        ∃ k : Fin 16, resetsInput f.items k ∧ (s.inputs[k]).state ≠ .noSignal)

/-! ## Terms: alarms and builds (R127, R53, R54) -/

/-- The table of R127: the alarm state after a debounced change to asserted (true) or released. -/
def AlarmState.afterLevel (st : AlarmState) (asserted : Bool) : AlarmState :=
  if asserted then (if st = .idle ∨ st = .latched then .active else st)
  else if st = .active then .latched
  else if st = .acked then .idle
  else st

/-- The builder after a change of the raised set, which now is `new`: a build starts from the first tile with that set, of
the kind of the build in hand, or an ALARM build when there is none (R53, R54). -/
def Builder.restarted (b : Builder) (new : Groups) : Builder :=
  { b with
    state := .building (match b.state with | .idle => .alarm | .building kind _ => kind | .donePending kind => kind) 0
    shadow := some ⟨new, Vector.replicate 16 none⟩ }

/-- The builder after the raised set has gone from `old` to `new`: as it was when they are equal. -/
def Builder.afterRaised (b : Builder) (old new : Groups) : Builder := if new = old then b else b.restarted new

/-! ## Terms: causes and the interrupt (R186, R187) -/

/-- The link registers after CAUSE and CAUSE_ENABLE have become these: an MSI with the capability's address and data has
been sent if the set of bits both set and enabled was empty and is not, and the capability is enabled (R187). -/
def Link.withCauses (l : Link) (cause enable : BitVec 8) : Link :=
  { l with
    cause := cause
    causeEnable := enable
    msiSent :=
      l.msiSent ++
        if l.cause &&& l.causeEnable = 0 ∧ cause &&& enable ≠ 0 ∧ l.msiEnabled = true then [⟨l.msiAddress, l.msiData⟩] else [] }

/-- The link registers after a block has set cause bits (R186: a bit already set stays set). -/
def Link.withCausesSet (l : Link) (bits : BitVec 8) : Link := l.withCauses (l.cause ||| bits) l.causeEnable

/-! ## Terms: the millisecond interval (R3, R98, R113, R125 to R127) -/

/-- Every enabled alarm input has been sampled (R125 to R127): a sample equal to the debounced level sets the counter to 0,
the D-th in a row that differs changes the level and moves the alarm state. -/
def inputsSampled (a b : Vector AlarmInput 8) (high : Groups) : Prop :=
  ∀ i : Fin 8,
    let old := a[i]
    let asserted := if old.config.lowAsserts then !high.getLsbD i.val else high.getLsbD i.val
    b[i] =
      if old.config.enable = false then old
      else if asserted = old.level then { old with count := 0 }
      else if old.count + 1 < old.config.debounce then { old with count := old.count + 1 }
      else { old with level := asserted, count := 0, state := old.state.afterLevel asserted }

/-- One input's debounced change has come about (R127), if the input stands before it. -/
def inputsChanged (a b : Vector AlarmInput 8) (i : Fin 8) (level : Bool) : Prop :=
  let old := a[i]
  if old.config.enable = true ∧ old.level ≠ level ∧ old.config.debounce ≤ old.count + 1 then
    b[i] = { old with level := level, count := 0, state := old.state.afterLevel level } ∧ ∀ j : Fin 8, j ≠ i → b[j] = a[j]
  else b = a

/-- A piece of the alarm contact unit's work has taken the inputs from `a` to `b`. -/
def AlarmStep.turns (a b : Vector AlarmInput 8) : AlarmStep → Prop
  | .interval high => inputsSampled a b high
  | .change i level => inputsChanged a b i level

/-- Pieces of work one after another have taken the inputs from `a` to `b`. -/
def alarmsTurn (a b : Vector AlarmInput 8) : List AlarmStep → Prop
  | [] => b = a
  | step :: rest => ∃ m, step.turns a m ∧ alarmsTurn m b rest

/-- A level differs: there has been a debounced change, which is always a move (R127). -/
def levelsMoved (a b : Vector AlarmInput 8) : Prop := ∃ i : Fin 8, (b[i]).level ≠ (a[i]).level

/-- The alarm contact unit has made its moves: a change of the raised set has reached the builder (R131). ALARM_EVENT is set
when a level has changed and `events` says so (R133). -/
def State.movedInto (s t : State) (events : Bool) : Prop :=
  (levelsMoved s.alarms t.alarms ∧ events = true → t.link = s.link.withCausesSet 0x10) ∧
    (¬ (levelsMoved s.alarms t.alarms ∧ events = true) → t.link = s.link) ∧
    t = { s with
      alarms := t.alarms, link := t.link
      builder := s.builder.afterRaised (raisedSet s.alarms) (raisedSet t.alarms) }

/-- Every enabled alarm input has been sampled as one piece of work (R125 to R127, R131, R133): a move sets ALARM_EVENT, and
a change of the raised set reaches the builder. -/
def State.sampledInto (s t : State) (high : Groups) : Prop := inputsSampled s.alarms t.alarms high ∧ s.movedInto t true

/-- A piece of work has come to the alarm contact unit while the ring processor keeps a wall frame start: ALARM_EVENT is set
at once when it settles an input after the work that came before it (R133), and its moves are the last of what the unit
makes after that start (notes/assumptions/21.md). -/
def State.keptForLater (s t : State) (step : AlarmStep) : Prop :=
  ∀ older steps, s.alarmsLater = older ++ [steps] →
    ∃ a b, alarmsTurn s.alarms a s.alarmsLater.flatten ∧ step.turns a b ∧
      (levelsMoved a b → t.link = s.link.withCausesSet 0x10) ∧ (¬ levelsMoved a b → t.link = s.link) ∧
      t = { s with alarmsLater := older ++ [steps ++ [step]], link := t.link }

/-- The alarm contact unit has been given a millisecond interval: it has taken it, or, while the ring processor keeps a wall
frame start, makes its moves after that one. -/
def State.alarmsGiven (s t : State) (high : Groups) : Prop :=
  (s.alarmsLater = [] → s.sampledInto t high) ∧ s.keptForLater t (.interval high)

/-- The source unit has taken a millisecond interval: every source that is enabled, on view and not frozen has aged, but for
those with wall frame start work still to do, which age after it (R98; notes/assumptions/21.md). -/
def State.agedInto (s t : State) : Prop :=
  (∀ src : Fin 32,
    t.channel src =
      if s.sources.frames = [] ∧ src ∉ s.sources.toJudge then (s.channel src).older 1 else s.channel src) ∧
    (t.sources.owed = (if s.sources.frames = [] ∧ s.sources.toJudge ≠ [] then s.sources.owed + 1 else s.sources.owed) ∧
      (s.sources.frames = [] → t.sources.frames = []) ∧
      ∀ older last, s.sources.frames = older ++ [last] →
        t.sources.frames = older ++ [{ last with after := last.after + 1 }]) ∧
    t = { s with
      sources := { s.sources with channels := t.sources.channels, frames := t.sources.frames, owed := t.sources.owed } }

/-- The capture inputs of a set have taken a millisecond interval (R113): an input with a signal counts it, and at 250 is in
NO_SIGNAL with its frame abandoned, its waiting transfer carried out, and SOURCE_EVENT set. -/
def State.tickedInto (s t : State) (which : BitVec 16) : Prop :=
  let loses (k : Fin 16) : Prop :=
    which.getLsbD k.val = true ∧ (s.inputs[k]).state ≠ .noSignal ∧ 250 ≤ (s.inputs[k]).loss + 1
  (∀ k : Fin 16,
    let i := s.inputs[k]
    (loses k → t.inputs[k] = { CaptureInput.initial with report := i.report } ∧
      t.port.capture[k] = (s.port.capture[k]).map fun x => { x with tag := 0 }) ∧
    (¬ loses k → t.port.capture[k] = s.port.capture[k] ∧
      t.inputs[k] = if which.getLsbD k.val = false ∨ i.state = .noSignal then i else { i with loss := i.loss + 1 })) ∧
    ((∃ k, loses k) → t.link = s.link.withCausesSet 0x08) ∧ ((∀ k, ¬ loses k) → t.link = s.link) ∧
    t = { s with inputs := t.inputs, link := t.link, port := { s.port with capture := t.port.capture } }

/-- A millisecond interval has been taken by the alarm contact unit, when `alarms` says so, the source unit, when `sources`
says so, and the capture inputs of a set (R3). -/
def State.tookInterval (s t : State) (high : Groups) (alarms sources : Bool) (inputs : BitVec 16) : Prop :=
  ∃ u v, (if alarms then s.alarmsGiven u high else u = s) ∧ (if sources then u.agedInto v else v = u) ∧ v.tickedInto t inputs

/-- One input's debounced change has been taken (R127, R131, R133), if the input stands before it. -/
def State.changedInto (s t : State) (i : Fin 8) (level : Bool) : Prop :=
  inputsChanged s.alarms t.alarms i level ∧ s.movedInto t true

/-- The status writer's copy of the builder after the raised set has gone from `old` to `new` in work that belongs before
the wall frame start of the copy: unchanged when they are equal, otherwise a build starts anew (R53, R54, R62). -/
def StatusCopy.afterRaised (c : StatusCopy) (old new : Groups) : StatusCopy :=
  if new = old then c
  else
    { c with
      builder := .building (match c.builder with | .idle => .alarm | .building kind _ => kind | .donePending kind => kind) 0 }

/-- The state with the copy of a later wall frame start, when one is kept (`more`), showing a change of the raised set from
`old` (R62). -/
def State.copyShows (s : State) (more : Bool) (old : Groups) : State :=
  if more then { s with status := s.status.afterRaised old (raisedSet s.alarms) } else s

/-- The alarm contact unit has made the moves of pieces of work one after another, of which ALARM_EVENT was set as they came.
`more`: they belong before a wall frame start that is kept and whose copy has been begun. -/
def State.stepsInto (s t : State) (more : Bool) : List AlarmStep → Prop
  | [] => t = s
  | step :: rest =>
    ∃ u, step.turns s.alarms u.alarms ∧ s.movedInto u false ∧ (u.copyShows more (raisedSet s.alarms)).stepsInto t more rest

/-! ## Terms: the ring processor taking a slot (R144, R145, R147) -/

/-- The processor is RUNNING and COLLECTING, and its look has found slot NEXT posted with a kind (R139, R197); in IDLE that
look has started the group (R144). -/
def State.hasFound (s : State) (slot : List Byte) (kind : Nat) : Prop :=
  s.control.part = .running ∧ s.ring.state = .collecting ∧
    (∃ cause, s.ring.look = .found cause slot) ∧ slot.getD 0 0 ≠ 0 ∧ (slot.getD 2 0).toNat = kind

/-- The processor once a look in IDLE has found its slot posted (R144): COLLECTING a group that holds nothing, whose drafts
are copies of the live table and of the live descriptors as they stand at that moment. -/
def State.groupStarted (s : State) : Ring :=
  { s.ring with
    state := .collecting, held := [], draft := s.live, draftDescs := Vector.ofFn fun src : Fin 32 => (s.channel src).desc,
    pendingSources := [], pendingClears := [], pendingSaves := [], edits := false, wait := 0 }

/-- The group holds fewer slots than the group length limit (R147). -/
def State.hasRoom (s : State) : Prop := s.ring.held.length < min 32 (2 ^ s.cfg.ringCode / 2)

/-- CHAIN of a slot (R197: bit 0 of the flag byte). -/
def chainSet (slot : List Byte) : Bool := (slot.getD 1 0).getLsbD 0

/-- Looks end before anything else waits for the processor: the slot has CHAIN set, or no look event has been kept. -/
def State.nothingKept (s : State) (slot : List Byte) : Prop := chainSet slot = true ∨ s.ring.kept = []

/-- The slot has been accepted into the group (R145): NEXT has advanced, the slot is held with DONE and its detail, the
drafts and the pending lists are those of `g`, and the processor looks at once when CHAIN is set (R142) or awaits the
commit when it is clear, with a GROUP build started for a group with edits (R151, R152). Nothing else has changed. -/
def State.tookSlot (s t : State) (slot : List Byte) (kind detail : Nat) (g : Ring) : Prop :=
  let next := (s.ring.next + 1) % 2 ^ s.cfg.ringCode
  let edits := s.ring.edits || decide (kind ∈ [1, 2, 3, 4, 9])
  t.ring.next = next ∧ t.ring.wait = 0 ∧
    t.ring.held = s.ring.held ++ [⟨s.ring.next, kind, 1, BitVec.ofNat 32 detail⟩] ∧
    t.ring.draft = g.draft ∧ t.ring.draftDescs = g.draftDescs ∧ t.ring.pendingSources = g.pendingSources ∧
    t.ring.pendingClears = g.pendingClears ∧ t.ring.pendingSaves = g.pendingSaves ∧ t.ring.edits = edits ∧
    (if chainSet slot then
      t.ring.state = .collecting ∧ t.ring.look = .reading .atOnce ∧ t.ring.kept = s.ring.kept ∧
        t = { s with
          ring := t.ring
          port := s.port.issue (.control ringProcessor) (readTransfers (s.cfg.ringBase + 64 * next) 64 0) }
    else
      t.ring.state = .awaitingCommit ∧ t.ring.look = .none ∧ t.ring.kept = [] ∧
        t = { s with
          ring := t.ring
          builder :=
            if edits then
              { s.builder with
                state := .building .group 0
                shadow := some { builtWith := raisedSet s.alarms, tiles := Vector.replicate 16 none } }
            else s.builder })

/-- The transfers that return slots with commit frame number `n` (R140, R150, R154): result, detail and commit frame
number of each, then POSTED of each as 0, the three bytes after it left as they are. -/
def State.returns (s : State) (slots : List Held) (n : Word) : List Transfer :=
  (slots.map fun h =>
      ⟨s.cfg.ringBase + 64 * h.index + 3, .write (leBytes 1 h.result ++ leBytes 4 h.detail.toNat ++ leBytes 4 n.toNat), 0⟩) ++
    slots.map fun h => ⟨s.cfg.ringBase + 64 * h.index, .merge [some 0, none, none, none], 0⟩

/-- The group in hand has committed at wall frame `n` (R151 to R154): its clears have acted in order, each returning the state it found (R128), the processor is returning it with that number,
and the saved scenes of the live table `live`, then the results, then the POSTED clears are to be written; a save's
detail is the number of live windows (R170). The pending saves stay until the write-back ends. -/
def State.groupCommitted (s t : State) (n : Word) (live : Table) : Prop :=
  let done := applyClears s.ring.pendingClears s.alarms
  (t.alarms = done.1 ∧ (done.2.1 = true → t.link.cause.getLsbD 4 = true)) ∧
    t.ring =
      { s.ring with
        state := .writingBack, returning := .committed, held := t.ring.held, commitFrame := n, draft := Table.empty,
        pendingSources := [], pendingClears := [] } ∧
    (t.ring.held.length = s.ring.held.length ∧
      ∀ (pos : Nat) (h : Held), s.ring.held[pos]? = some h →
        ∃ h', t.ring.held[pos]? = some h' ∧ h' = { h with detail := h'.detail } ∧
          (h.kind = 5 → h'.detail = BitVec.ofNat 32 live.stack.length) ∧
          (h.kind ≠ 5 → ∀ code, done.2.2.find? (fun f => f.1 == pos) = some (pos, code) →
            h'.detail = BitVec.ofNat 32 code) ∧
          (h.kind ≠ 5 → (∀ f ∈ done.2.2, f.1 ≠ pos) → h'.detail = h.detail)) ∧
    t.port.queue (.control ringProcessor) =
      s.port.queue (.control ringProcessor) ++
        (s.ring.pendingSaves.flatMap fun k => sceneWrites (s.cfg.sceneBase + 4096 * k.val) live) ++ s.returns t.ring.held n

/-- The group has aborted (R148, R150): the slots `others` are being returned with GROUP_ABORTED and detail 0 and then
the slot `last` with its own result, all with commit frame number 0; the drafts and pending lists are discarded, and
SKIPPING follows when `skip`. Nothing but the ring processor and its transfers has changed. -/
def State.abortedGroup (s t : State) (others : List Held) (last : Held) (skip : Bool) : Prop :=
  t.ring.state = .writingBack ∧ t.ring.returning = .aborted skip ∧ t.ring.look = .none ∧ t.ring.draft = Table.empty ∧
    t.ring.pendingSources = [] ∧ t.ring.pendingClears = [] ∧ t.ring.pendingSaves = [] ∧
    t = { s with
      ring := t.ring
      port := s.port.issue (.control ringProcessor)
        (s.returns ((others.map fun h => { h with result := 2, detail := 0 }) ++ [last]) 0) }

end Sys2Proof.Machine
end

