-- ==== Sys2Proof/Certificates/Slice0/Obligations.lean ====
section
/-! DEFINITION. The statements for the provers: what the spec's rules say the commands and the machine do, each for every state, command and operand it names. -/

open Sys2Proof Sys2Proof.Machine

/-! ## The whole machine -/

/-- One step takes the command at the front of the queue and runs it on the state with the queue's rest. That a step on
an empty queue changes nothing is the model's choice (notes/assumptions/3.md). -/
def Obligations.StepRunsFrontCommand : Prop :=
  ∀ (c : Instr) (rest : List Instr) (s : State),
    (s.pending = c :: rest → step s = exec c { s with pending := rest }) ∧ (s.pending = [] → step s = .next s)

/-- Every command answers a next state in every state and leaves the queue of waiting commands as it was, but a BAR 2 access
that runs past the last of the 4 294 967 296 bytes of frame memory: that one faults. The queue, which PCIE_LINK_RESET too
leaves alone, is the model's (notes/assumptions/3.md, 8.md), so is the fault (notes/assumptions/11.md), and so is that an
event whose condition does not hold answers a next state (notes/assumptions/4.md). -/
def Obligations.OnlyBar2AccessStops : Prop :=
  ∀ (c : Instr) (s : State),
    let completes : Prop := ∃ t, exec c s = .next t ∧ t.pending = s.pending
    match c with
    | .bar2Access (.read a n) =>
      if a + n ≤ 4294967296 then completes else exec c s = .fault (.outsideFrameMemory a n)
    | .bar2Access (.write a d) =>
      if a + d.length ≤ 4294967296 then completes else exec c s = .fault (.outsideFrameMemory a d.length)
    | _ => completes

/-- Frame memory keeps its canonical form: addresses strictly rising, none at or past 4 294 967 296, no byte listed as 0.
The form is the model's (notes/assumptions/1.md). -/
def Obligations.MemoryStaysCanonical : Prop :=
  ∀ s t : State, s.mem.wf = true → step s = .next t → t.mem.wf = true

/-- R87 through every step: an enabled source has one FILLING slot, at most one SHOWN, at most one READY and none of a
memory source, and its other slots in use are SPARE; a disabled source's slots hold no roles. -/
def Obligations.SourceRolesStayLegal : Prop :=
  ∀ s t : State, s.rolesLegal → step s = .next t → t.rolesLegal

/-- R27 and R20 through every step: the stacking lists of the live and the draft table hold exactly the ids present, each
once, and every record is within the ranges of section 2.1 and carries its own id. -/
def Obligations.WindowTablesStayWellFormed : Prop :=
  ∀ s t : State, s.tablesWellFormed → step s = .next t → t.tablesWellFormed

/-- R147 and R141 through every step: no more slots are held than the group length limit, and NEXT is a slot of the ring. -/
def Obligations.HeldSlotsStayInRange : Prop :=
  ∀ s t : State, s.ringInRange → step s = .next t → t.ringInRange

/-- R126 and R127 through every step: an alarm input's debounced level is asserted exactly in ACTIVE and ACKED, and an
enabled input's debounce counter lies below its D. -/
def Obligations.AlarmStatesMatchLevels : Prop :=
  ∀ s t : State, s.alarmsConsistent → step s = .next t → t.alarmsConsistent

/-- R6 and R15 through every step: outside RUNNING no tile output sends, no engine composes a row, and no transfer of a
tile engine or of a capture input waits. -/
def Obligations.OutputsQuietOutsideRunning : Prop :=
  ∀ s t : State, s.quietOutsideRunning → step s = .next t → t.quietOutsideRunning

/-- The state after a power-on reset meets every invariant above, and that of the pool of spans below. -/
def Obligations.ResetMeetsInvariants : Prop :=
  State.reset.mem.wf = true ∧ State.reset.rolesLegal ∧ State.reset.tablesWellFormed ∧ State.reset.ringInRange ∧
    State.reset.alarmsConsistent ∧ State.reset.quietOutsideRunning ∧ State.reset.poolHolds

/-- R34 and R36: the live table changes at the wall frame start at which a complete GROUP build swaps in, and takes the
draft whole; beside that it only becomes empty, by a LOAD taken, the end of a load that passes, STOP or a reset. -/
def Obligations.LiveTableChangesOnlyAtGroupSwap : Prop :=
  ∀ (c : Instr) (s t : State), exec c s = .next t → t.live ≠ s.live →
    ((∃ order, c = .wallFrameStart order) ∧ s.control.part = .running ∧ s.builder.state = .donePending .group ∧
        t.live = s.ring.draft) ∨
      (t.live = Table.empty ∧
        (((∃ held, c = .load held) ∧ (s.control.part = .halted ∨ s.control.part = .ready)) ∨
          (c = .loadEnd ∧ s.control.part = .loading ∧ t.control.part = .ready) ∨ (∃ l st, c = .stop l st) ∨
          (∃ dram, c = .powerOnReset dram) ∨ ∃ cut, c = .resetPin cut))

/-- R186 and R190: no command but a CAUSE write and the two resets clears a bit of CAUSE, none but a RESET_REASON write
and a power-on reset a bit of RESET_REASON, and a write clears no bit that it does not write as 1. -/
def Obligations.CausesStayUntilCleared : Prop :=
  ∀ (c : Instr) (s t : State), exec c s = .next t → (∀ dram, c ≠ .powerOnReset dram) →
    (∀ i : Nat, i < 8 → s.link.cause.getLsbD i = true → (∀ cut, c ≠ .resetPin cut) →
        t.link.cause.getLsbD i = true ∨
          ∃ w, c = .causeClear w ∧ w.data.getLsbD i = true ∧ w.bytes.getLsbD 0 = true) ∧
      (∀ i : Nat, i < 3 → s.link.resetReason.getLsbD i = true →
        t.link.resetReason.getLsbD i = true ∨
          ∃ w, c = .resetReasonClear w ∧ w.data.getLsbD i = true ∧ w.bytes.getLsbD 0 = true)

/-- R178 to R184 and R188 give the moves of the part state and no others; R1, R2 and R182 give those of the wall frame
number: one more, modulo 2^32, at each wall frame start of RUNNING, 0 at a load that passes and at the two resets. -/
def Obligations.PartStateAndFrameNumberMove : Prop :=
  ∀ (c : Instr) (s t : State), exec c s = .next t →
    (t.control.part ≠ s.control.part →
      (t.control.part = .loading ∧ (s.control.part = .halted ∨ s.control.part = .ready) ∧ ∃ held, c = .load held) ∨
        (t.control.part = .ready ∧ s.control.part = .loading ∧ c = .loadEnd) ∨
        (t.control.part = .running ∧ s.control.part = .ready ∧
          (c = .start ∨ (c = .heldStart ∧ s.control.heldStart = true))) ∨
        (t.control.part = .halted ∧
          ((c = .loadEnd ∧ s.control.part = .loading) ∨ (∃ l st, c = .stop l st) ∨ (∃ dram, c = .powerOnReset dram) ∨
            ∃ cut, c = .resetPin cut))) ∧
      match c with
      | .wallFrameStart _ => t.frameNo = if s.control.part = .running then s.frameNo + 1 else s.frameNo
      | .loadEnd => t.frameNo = if s.control.part = .loading ∧ t.control.part = .ready then 0 else s.frameNo
      | .powerOnReset _ => t.frameNo = 0
      | .resetPin _ => t.frameNo = 0
      | _ => t.frameNo = s.frameNo

/-! ## Windows, the band builder, sampling, memory formats -/

/-- R22 and R24: the effective border is the least of the border width and half of each side, the interior is what the
border leaves, both interior sides lie between 0 and 16383, and a window with an interior side of 0 has no interior pixel;
a window is raised when its mask and the set share a group, and drawn when visible and not kept back by ALARM_ONLY. -/
def Obligations.WindowInteriorAndDrawing : Prop :=
  ∀ w : WindowRec, w.w ≤ 16383 → w.h ≤ 16383 →
    (w.effBorder ≤ w.border ∧ w.effBorder ≤ w.w / 2 ∧ w.effBorder ≤ w.h / 2 ∧
        (w.effBorder = w.border ∨ w.effBorder = w.w / 2 ∨ w.effBorder = w.h / 2)) ∧
      (w.interiorW + 2 * w.effBorder = w.w ∧ w.interiorH + 2 * w.effBorder = w.h) ∧
      (w.interiorW ≤ 16383 ∧ w.interiorH ≤ 16383) ∧
      (w.interiorW = 0 ∨ w.interiorH = 0 → ∀ cx cy, w.inInterior cx cy = false) ∧
      ∀ R : Groups,
        (w.raised R = true ↔ ∃ g : Nat, g < 8 ∧ w.mask.getLsbD g = true ∧ R.getLsbD g = true) ∧
          (w.mask = 0 → w.raised R = false) ∧
          (w.drawn R = true ↔ w.visible = true ∧ (w.alarmOnly = false ∨ w.raised R = true))

/-- R47: in every row of a tile built from the effective stacking order under R, exactly one span holds a column, and it
shows the highest drawn window that covers the canvas pixel, as border or as interior, or the background where none
does; where a drawn window raised under R covers the pixel, the window shown is raised. R26: that order is the drawn windows
not raised under R in the order of the stacking list and then the drawn raised ones, in that order too. R56 and the
exception of R26: a FALLBACK tile is built from the drawn raised windows alone, in the order of the stacking list, and shows
the highest of those that covers the pixel, or the background where none does. -/
def Obligations.BandsShowHighestDrawnWindow : Prop :=
  (∀ (table : Table) (R : Groups),
    let placed (up : Bool) (i : Fin 64) : Bool :=
      match table.records[i] with
      | some w => w.drawn R && w.raised R == up
      | none => false
    ((table.effective R).map fun p => p.1) = table.stack.filter (placed false) ++ table.stack.filter (placed true) ∧
      ((table.raisedOnly R).map fun p => p.1) = table.stack.filter (placed true) ∧
      ∀ p ∈ table.effective R ++ table.raisedOnly R, table.records[p.1] = some p.2) ∧
  ∀ (tile : TileRec) (table : Table) (R : Groups) (order : List (Fin 64 × WindowRec)) (c r : Nat),
    (order = table.effective R ∨ order = table.raisedOnly R) → c < tile.width → r < tile.height →
    let cx := tile.x + c
    let cy := tile.y + r
    let onto (p : Fin 64 × WindowRec) : Bool :=
      decide (p.2.x ≤ cx ∧ cx < p.2.x + p.2.w ∧ p.2.y ≤ cy ∧ cy < p.2.y + p.2.h)
    let shown := order.reverse.find? onto
    (∃ sp ∈ spansOf (buildBands tile order) r, (sp.start ≤ c ∧ c < sp.start + sp.len) ∧
        sp.kind = (match shown with
          | none => .background
          | some (i, w) =>
            let b := min w.border (min (w.w / 2) (w.h / 2))
            if w.x + b ≤ cx ∧ cx < w.x + w.w - b ∧ w.y + b ≤ cy ∧ cy < w.y + w.h - b then .image i else .border i) ∧
        ∀ other ∈ spansOf (buildBands tile order) r, other.start ≤ c → c < other.start + other.len → other = sp) ∧
      ∀ p ∈ table.stacked, p.2.drawn R = true → p.2.raised R = true → onto p = true →
        ∃ q : Fin 64 × WindowRec, shown = some q ∧ q.2.raised R = true

/-- R38, R45 and R46: the bands of a built tile start at row 0 in rising rows, no two neighbours have the same spans, and
in every row the spans run from column 0 to the tile's width without gap, none empty, no two neighbours alike in kind
and window. -/
def Obligations.SpansCoverTheRow : Prop :=
  ∀ (tile : TileRec) (order : List (Fin 64 × WindowRec)),
    let bands := buildBands tile order
    ((bands[0]?.map fun b => b.start) = some 0 ∧
        ∀ (k : Nat) (a b : Band), bands[k]? = some a → bands[k + 1]? = some b → a.start < b.start ∧ a.spans ≠ b.spans) ∧
      ∀ r : Nat,
        let spans := spansOf bands r
        (spans.map fun sp => sp.len).sum = tile.width ∧
          (∀ (k : Nat) (sp : Span), spans[k]? = some sp →
            sp.start = ((spans.take k).map fun q => q.len).sum ∧ 1 ≤ sp.len) ∧
          ∀ (k : Nat) (a b : Span), spans[k]? = some a → spans[k + 1]? = some b → a.kind ≠ b.kind

/-- R48 and R55 to R57: what a build of one tile keeps meets the three limits, unless it is the background table of a
degraded tile, and a GROUP build fails it with the code of the first limit that its merged bands exceed. -/
def Obligations.BuiltTileMeetsLimits : Prop :=
  ∀ (kind : BuildKind) (tile : TileRec) (table : Table) (R : Groups) (allowance : Nat),
    let within (bands : List Band) : Prop :=
      (∀ b ∈ bands, b.spans.length ≤ 40) ∧ bands.length ≤ 128 ∧ (bands.map fun b => b.spans.length).sum ≤ allowance
    let normal := buildBands tile (table.effective R)
    let raised := buildBands tile (table.raisedOnly R)
    match buildTile kind tile table R allowance with
    | .kept ⟨bands, .normal⟩ => bands = normal ∧ within normal
    | .kept ⟨bands, .fallback⟩ => kind = .alarm ∧ ¬ within normal ∧ bands = raised ∧ within raised
    | .kept ⟨bands, .degraded⟩ =>
      kind = .alarm ∧ ¬ within normal ∧ ¬ within raised ∧ bands = [⟨0, [⟨0, tile.width, .background⟩]⟩]
    | .failed code =>
      kind = .group ∧
        if ∃ b ∈ normal, 40 < b.spans.length then code = 1
        else if 128 < normal.length then code = 2
        else code = 3 ∧ allowance < (normal.map fun b => b.spans.length).sum

/-- R49 through every step: the spans of the active bank, and those a build has taken together with one for each enabled
tile still to be built, never exceed the pool of 6144. -/
def Obligations.PoolNeverOverflows : Prop :=
  ∀ s t : State, s.poolHolds → step s = .next t → t.poolHolds

/-- R78: blending two pixels gives, in each component, the weighted mean rounded to the nearest whole value with a half
rounded up, and the first pixel itself when the fraction is 0; along the horizontal axis the pixels blended are those at
columns k and k + 1, with fraction fx. -/
def Obligations.BlendRoundsToNearest : Prop :=
  (∀ (a b : Colour) (f : Nat), f < 256 →
    (f = 0 → blendColour a b f = a) ∧
      ∀ component : Colour → Byte, (component = Colour.r ∨ component = Colour.g ∨ component = Colour.b) →
        let exact := (component a).toNat * (256 - f) + (component b).toNat * f
        let got := (component (blendColour a b f)).toNat
        got = (exact + 128) / 256 ∧ 2 * exact < 256 * (2 * got + 1) ∧ 256 * (2 * got) ≤ 2 * exact + 256) ∧
    ∀ (p : Nat → Nat → Colour) (h : Axis) (i m : Nat),
      let k := (h.locate i).1
      let fx := (h.locate i).2
      fx < 256 ∧ rowResult p h i m = blendColour (p k m) (p (k + 1) m) fx

/-- R67 to R71: the effective crop of an axis, its step with the step clamp, its sampling mode, and its start position, with
the ranges the rules give them. R73: position i is the start and i steps. R74 and R75, BILINEAR: before the crop the index
is its first and the fraction 0; else the index is the whole part of the position and the fraction the top 8 bits of the
rest, or the crop's last index and 0 when the whole part is not below it; the neighbour is the next index, limited to the
crop. R76, NEAREST: the index is the nearest one, limited to the crop, and the fraction 0. R77: what a position needs lies
in the crop. -/
def Obligations.AxisFollowsCropAndInterior : Prop :=
  ∀ first size frame interior : Nat, first < frame →
    let a := axisOf first size frame interior
    let crop := if size = 0 then frame - first else min size (frame - first)
    (frame ≤ 4096 → 1 ≤ interior → interior ≤ 16383 →
      (a.first = first ∧ a.stop = first + crop ∧ 1 ≤ crop ∧ a.stop ≤ frame) ∧
        (a.step = (if crop * 65536 / interior ≤ 1048576 then crop * 65536 / interior else 1048576) ∧ 4 ≤ a.step) ∧
        (a.bilinear = true ↔ a.step ≤ 262144) ∧
        (a.start = (first : Int) * 65536 + (a.step / 2 : Nat) - 32768 ∧ -32766 ≤ a.start ∧ a.start ≤ 268926976) ∧
        (first = 0 → a.step < 65536 → a.start < 0) ∧ (a.step = 65536 → a.start = (first : Int) * 65536)) ∧
      first + crop ≤ frame ∧
      ∀ i : Nat,
        let pos : Int := a.start + (i : Int) * (a.step : Int)
        let k : Int := pos / 65536
        let nearest : Int := (pos + 32768) / 65536
        let last := first + crop - 1
        (a.step ≤ 262144 →
          (pos < (first : Int) * 65536 → a.locate i = (first, 0)) ∧
            ((first : Int) * 65536 ≤ pos → k < (last : Int) →
              a.locate i = (k.toNat, ((pos - k * 65536) / 256).toNat)) ∧
            ((first : Int) * 65536 ≤ pos → (last : Int) ≤ k → a.locate i = (last, 0))) ∧
          (262144 < a.step →
            a.locate i =
              (if nearest < (first : Int) then first else if (last : Int) < nearest then last else nearest.toNat, 0)) ∧
          (∀ m : Nat, a.neighbour m = if m + 1 ≤ last then m + 1 else last) ∧
          (first ≤ (a.locate i).1 ∧ (a.locate i).1 < first + crop ∧ (a.locate i).2 < 256) ∧
          ∀ m ∈ a.needed i, first ≤ m ∧ m < first + crop

/-- R77 and R79: a sample is the same whatever the pixels it does not need, and each of its components lies between the
least and the greatest of that component in the pixels it needs. R79 and R78: of each needed row the horizontal result is the
pixel at k, or its blend with its neighbour when the axis is BILINEAR and fx is not 0, and the sample is row ky's result, or
its blend with the next row's by fy when the vertical axis is BILINEAR and fy is not 0. R80: at a step of exactly 65 536 on both axes a window
reproduces its crop pixel for pixel. -/
def Obligations.SampleUsesOnlyNeededPixels : Prop :=
  (∀ (h v : Axis) (i j : Nat) (p : Nat → Nat → Colour),
    (∀ q : Nat → Nat → Colour, (∀ k ∈ h.needed i, ∀ m ∈ v.needed j, q k m = p k m) → sample q h v i j = sample p h v i j) ∧
      ∀ component : Colour → Byte, (component = Colour.r ∨ component = Colour.g ∨ component = Colour.b) →
        ∀ lo hi : Byte, (∀ k ∈ h.needed i, ∀ m ∈ v.needed j, lo ≤ component (p k m) ∧ component (p k m) ≤ hi) →
          lo ≤ component (sample p h v i j) ∧ component (sample p h v i j) ≤ hi) ∧
    (∀ (h v : Axis) (i j : Nat) (p : Nat → Nat → Colour) (component : Colour → Byte),
      (component = Colour.r ∨ component = Colour.g ∨ component = Colour.b) →
        let mix (a b : Byte) (f : Nat) : Byte := BitVec.ofNat 8 ((a.toNat * (256 - f) + b.toNat * f + 128) / 256)
        let k := (h.locate i).1
        let fx := (h.locate i).2
        let ky := (v.locate j).1
        let fy := (v.locate j).2
        let row (m : Nat) : Byte :=
          if h.bilinear = false ∨ fx = 0 then component (p k m)
          else mix (component (p k m)) (component (p (min (k + 1) (h.stop - 1)) m)) fx
        component (sample p h v i j) =
          if v.bilinear = false ∨ fy = 0 then row ky else mix (row ky) (row (min (ky + 1) (v.stop - 1))) fy) ∧
    ∀ (sx sw wf wi sy sh hf hi i j : Nat) (p : Nat → Nat → Colour), sx < wf → sy < hf → i < wi → j < hi →
      (axisOf sx sw wf wi).step = 65536 → (axisOf sy sh hf hi).step = 65536 →
        sample p (axisOf sx sw wf wi) (axisOf sy sh hf hi) i j = p (sx + i) (sy + j)

/-- R170, R199 and R32: the writes of a saved scene are one that writes the marker as 0, those of the bytes 4 to 4095 in
ascending order and one that writes the marker; once all have been carried out the scene is 4096 bytes that pass every
check of R167, and taking it gives the table that was saved. Into which transfers the body is divided is the model's
(notes/assumptions/29.md). -/
def Obligations.SavedSceneReadsBack : Prop :=
  ∀ (m : Memory) (base : Nat) (t : Table), m.wf = true → base + 4096 ≤ 4294967296 → t.wellFormed →
    (base % 4096 = 0 →
      ∃ body, sceneWrites base t =
          ⟨base, .write [0, 0, 0, 0], 0⟩ :: body ++ [⟨base, .write (leBytes 4 0x43535741), 0⟩] ∧
        coversArea body (base + 4) 4092) ∧
      let after := (sceneWrites base t).foldl (fun k x => x.applied k) m
      let scene := after.readBytes base 4096
      sceneFault scene = none ∧ sceneTable scene = t ∧
        ∀ a, (a < base ∨ base + 4096 ≤ a) → after.read a = m.read a

/-- R191, R201 and R202: the writes of a status page are one of its first word, those of the bytes 4 to 4091 in ascending
order and one of its last word; once all have been carried out the page holds every field of the copy at the offset of
R201, 0 in every byte between them, and nothing outside its 4 KiB unit has changed. Into which transfers the body is
divided is the model's (notes/assumptions/29.md). -/
def Obligations.StatusPageIsWrittenWhole : Prop :=
  ∀ (m : Memory) (base : Nat) (c : StatusCopy), m.wf = true → base + 4096 ≤ 4294967296 →
    let num := leBytes 4 c.number.toNat
    (base % 4096 = 0 →
      ∃ body, pageTransfers base c = ⟨base, .write num, 0⟩ :: body ++ [⟨base + 4092, .write num, 0⟩] ∧
        coversArea body (base + 4) 4088) ∧
    let after := (pageTransfers base c).foldl (fun k x => x.applied k) m
    let page := after.readBytes base 4096
    let zero (lo hi : Nat) : Prop := ∀ off, lo ≤ off → off < hi → page.getD off 0 = 0
    let slot (i : Option (Fin 3)) : Nat := match i with | some k => k.val | none => 255
    let flag (b : Bool) : Nat := if b then 1 else 0
    (page.take 4 = num ∧ page.drop 4092 = num) ∧
      (field page 4 1 = 3 ∧ field page 5 1 = (match c.builder with | .idle => 0 | .building _ _ => 1 | .donePending _ => 2) ∧
        field page 6 1 = (match c.builder with
          | .idle => 0
          | .building .group _ => 1
          | .donePending .group => 1
          | .building .alarm _ => 2
          | .donePending .alarm => 2) ∧
        field page 7 1 = 0 ∧ field page 8 2 = c.next % 65536 ∧ page.getD 10 0 = c.raised ∧ page.getD 11 0 = c.builtWith ∧
        field page 12 4 = c.built.toNat ∧ field page 16 4 = c.failed.toNat ∧ field page 20 2 = c.fallback.toNat ∧
        field page 22 2 = c.degraded.toNat ∧ zero 24 64) ∧
      (∀ t : Fin 16,
        let o := 64 + 16 * t.val
        let e := c.tiles[t]
        if e.enabled then
          field page o 4 = e.late.toNat ∧ field page (o + 4) 2 = e.bands % 65536 ∧
            field page (o + 6) 2 = e.spans % 65536 ∧
            field page (o + 8) 1 = 1 + 2 * (match e.mark with | .normal => 0 | .fallback => 1 | .degraded => 2) ∧
            zero (o + 9) (o + 16)
        else zero o (o + 16)) ∧
      (∀ src : Fin 32,
        let o := 320 + 48 * src.val
        let e := c.sources[src]
        (field page o 1 = (match e.capture with | .noSignal => 0 | .acquiring => 1 | .locked => 2) ∧
            field page (o + 1) 1 = flag e.halved ∧ field page (o + 2) 1 = flag e.oversizeFlag ∧
            field page (o + 3) 1 = (match e.presentation with | .none => 0 | .fresh => 1 | .stale => 2) ∧
            field page (o + 4) 1 = flag e.frozen) ∧
          (field page (o + 5) 1 = slot e.shown ∧ field page (o + 6) 1 = slot e.ready ∧
            field page (o + 7) 1 = slot e.filling ∧ field page (o + 8) 2 = e.width % 65536 ∧
            field page (o + 10) 2 = e.height % 65536 ∧ field page (o + 12) 2 = e.expected.toNat ∧
            field page (o + 14) 2 = e.age % 65536) ∧
          (field page (o + 16) 4 = e.published.toNat ∧ field page (o + 20) 4 = e.superseded.toNat ∧
            field page (o + 24) 4 = e.torn.toNat ∧ field page (o + 28) 4 = e.oversize.toNat ∧
            field page (o + 32) 4 = e.badFrame.toNat ∧ field page (o + 36) 4 = e.expired.toNat ∧ zero (o + 40) (o + 48))) ∧
      (∀ i : Fin 8,
        let o := 1856 + 4 * i.val
        let e := c.alarms[i]
        field page o 1 = (match e.1 with | .idle => 0 | .active => 1 | .acked => 2 | .latched => 3) ∧
          field page (o + 1) 1 = flag e.2 ∧ zero (o + 2) (o + 4)) ∧
      zero 1888 4092 ∧ ∀ a, (a < base ∨ base + 4096 ≤ a) → after.read a = m.read a

/-- R180 and R181: a whole configuration block passes the load's checks exactly when every check holds for every tile,
area, source and alarm input, and a load that fails has the code and the fault index of the first that does not hold. -/
def Obligations.LoadChecksInOrder : Prop :=
  ∀ (areaBase : Nat) (bs : List Byte), bs.length = 1376 →
    (loadVerdict areaBase bs = .pass ↔ ∀ code index, loadCheckAt areaBase bs code index) ∧
      (∀ code index, loadVerdict areaBase bs = .fail code index →
        (1 ≤ code ∧ code ≤ 8) ∧ ¬ loadCheckAt areaBase bs code index ∧
          ∀ code' index', code' < code ∨ (code' = code ∧ index' < index) → loadCheckAt areaBase bs code' index') ∧
      loadVerdict areaBase bs ≠ .more

/-! ## Resets, link registers and part states -/

/-- R188: a power-on reset and the reset pin leave the part HALTED and unloaded in every block, the ring processor with
nothing held, drafted or pending, all work in progress ended, and the link registers as the table of R188 has them; the pin
keeps frame memory apart from a write cut short, of which the bytes named by the mask have been written. The mask is the
model's (notes/assumptions/7.md), and so is what stands where R188 gives no value: in a source not in use (33.md), in an
unloaded alarm configuration (38.md), in an empty line buffer (14.md), in the status copy and a processor that returns
nothing (6.md), and in the draft descriptors of a processor with no group (26.md). -/
def Obligations.ResetsStopAndUnloadEverything : Prop :=
  ∀ (s : State) (c : Instr) (dram : List Host.Cell) (cut : Option Nat), (c = .powerOnReset dram ∨ c = .resetPin cut) →
    ∃ t, exec c s = .next t ∧
      (t.control = ⟨.halted, 0, 0, false, []⟩ ∧ t.link.cause = 0 ∧ t.link.causeEnable = 0 ∧ t.link.areaBase = 0 ∧
        t.link.resetReason = if c = .powerOnReset dram then 1 else s.link.resetReason ||| 2) ∧
      (t.config = none ∧ t.frameNo = 0 ∧ t.live = Table.empty ∧ t.builder = ⟨.idle, none, none, 0, 0⟩ ∧ t.view = none) ∧
      ((∀ src, t.channel src = Source.unloaded) ∧ t.sources.frames = [] ∧ t.sources.toJudge = [] ∧ t.sources.headers = [] ∧
        t.sources.owed = 0) ∧
      ((∀ i : Fin 16, t.inputs[i] = CaptureInput.initial) ∧ (∀ i : Fin 8, t.alarms[i] = AlarmInput.unloaded) ∧
        t.alarmsLater = [] ∧ (∀ k : Fin 16, t.engines[k] = TileEngine.stopped 0) ∧ t.ring = Ring.atRest 0 ∧
        t.status = StatusCopy.blank) ∧
      (t.port.tilePtr = 15 ∧ t.port.capturePtr = 15 ∧ t.port.controlPtr = loadSequence ∧
        ∀ r : Requester, t.port.queue r = []) ∧
      (c = .resetPin cut → s.mem.wf = true →
        (cut = none ∨ (∀ r, s.port.queue r = []) → t.mem = s.mem) ∧
          ∀ mask r x rest, cut = some mask → s.port.next r → s.port.queue r = x :: rest → ∀ a : Nat,
            t.mem.read a =
              match x.stores[a - x.addr]? with
              | some (some b) => if x.addr ≤ a ∧ a < 4294967296 ∧ mask.testBit (a - x.addr) = true then b else s.mem.read a
              | _ => s.mem.read a)

/-- R189: a PCIe link reset sets CAUSE_ENABLE to 0, adds LINK to RESET_REASON and withdraws the waiting BAR 2 transfers;
an MSI being sent is lost; everything else goes on. The record of MSIs sent is the model's (notes/assumptions/8.md), and so
is that the endpoint's MSI capability outlives the reset (2.md). -/
def Obligations.LinkResetKeepsTheRest : Prop :=
  ∀ (lost : Bool) (s : State),
    ∃ t, exec (.pcieLinkReset lost) s = .next t ∧
      (t.link.causeEnable = 0 ∧ t.link.resetReason = s.link.resetReason ||| 4 ∧ 
        t.link.msiSent = if lost then s.link.msiSent.dropLast else s.link.msiSent) ∧
      t.port.queue (.control pcieEndpoint) = [] ∧ (∀ r, r ≠ .control pcieEndpoint → t.port.queue r = s.port.queue r) ∧
      (t.port.tilePtr = s.port.tilePtr ∧ t.port.capturePtr = s.port.capturePtr ∧ t.port.controlPtr = s.port.controlPtr) ∧
      t = { s with
        port := t.port
        link := { s.link with
          causeEnable := t.link.causeEnable, resetReason := t.link.resetReason, msiSent := t.link.msiSent } }

/-- R179 and R180: a LOAD in HALTED or READY is taken, with or without START: the part is LOADING with fault code and index
0, every block is unloaded and alarm inputs are IDLE, and the load sequence waits to read the first bytes at AREA_BASE (256
of them: notes/assumptions/29.md). What a source that is not in use holds beside its counters, an unloaded alarm
configuration, and the draft descriptors, commit frame number and kind of return of a processor with no group, and that the
line buffers are empty with line 0 first, is the model's (33.md, 38.md, 26.md, 6.md, 14.md). -/
def Obligations.LoadTakenUnloadsAndReads : Prop :=
  ∀ (held : Bool) (s : State), (s.control.part = .halted ∨ s.control.part = .ready) →
    ∃ t, exec (.load held) s = .next t ∧ t.control = ⟨.loading, 0, 0, held, []⟩ ∧ s.unloadedInto t ∧
      (∀ i : Fin 8, t.alarms[i] = AlarmInput.unloaded) ∧
      t.port.control[loadSequence] = [⟨s.link.areaBase.toNat, .read 256, 0⟩]

/-- R179 and R185: a LOAD in LOADING or RUNNING, a START outside READY, an AREA_BASE write outside HALTED and an ATTEND
write outside RUNNING change nothing but the cause bit REFUSED, which they set. -/
def Obligations.RefusedWritesOnlySetRefused : Prop :=
  ∀ (s : State) (c : Instr),
    (((∃ held, c = .load held) ∧ (s.control.part = .loading ∨ s.control.part = .running)) ∨
        (c = .start ∧ s.control.part ≠ .ready) ∨ ((∃ w, c = .areaBaseWrite w) ∧ s.control.part ≠ .halted) ∨
        ((∃ w, c = .attend w) ∧ s.control.part ≠ .running)) →
      exec c s = .next { s with link := s.link.withCausesSet 0x80 }

/-- R183 and R179: START in READY, or a START held from a write of LOAD and START once the part is READY, moves the part to
RUNNING, puts every capture input in NO_SIGNAL, and sets no cause bit. That wall frame 1 begins at the wall frame start that
follows is read by inference (notes/assumptions/9.md). R184: STOP in any state, whatever the other bits of the write, leaves
the part HALTED with the link registers kept, CAUSE among them (R186), every block unloaded, alarm states and levels kept,
and no transfer waiting but the PCIe endpoint's; what is kept includes the samples of the intervals before it of which the
alarm contact unit had still to make the moves (R125, read by inference: 21.md). What a source that is not in use holds
beside its counters, an unloaded alarm configuration, and the draft descriptors, commit frame number and kind of return of a
processor with no group, and that the line buffers are empty with line 0 first, is the model's (33.md, 38.md, 26.md, 6.md,
14.md). -/
def Obligations.StartAndStop : Prop :=
  (∀ (s : State) (c : Instr), s.control.part = .ready → (c = .start ∨ (c = .heldStart ∧ s.control.heldStart = true)) →
    exec c s =
      .next { s with
        control := { s.control with part := .running, heldStart := false }
        inputs := Vector.replicate 16 CaptureInput.initial }) ∧
    ∀ (load start : Bool) (s : State),
      ∃ (after : Vector AlarmInput 8) (t : State), alarmsTurn s.alarms after s.alarmsLater.flatten ∧
        exec (.stop load start) s = .next t ∧ t.link = s.link ∧
        t.control = ⟨.halted, s.control.faultCode, s.control.faultIndex, false, []⟩ ∧ s.unloadedInto t ∧
        (∀ i : Fin 8, t.alarms[i] = { after[i] with config := ⟨false, false, 0⟩ }) ∧ t.port.control[loadSequence] = []

/-- R182: a load whose bytes pass every check leaves the part READY and every block in the state its chapter gives for a
successful LOAD (R36, R41, R72, R88, R106, R109, R135, R143), and sets LOAD_DONE; one whose bytes fail a check leaves it
HALTED with that check's fault code and fault index, drops a held START and the load's reads, sets LOAD_FAULT, and changes
nothing else. What a source that is not in use holds beside its roles and counters, what the line buffers and the draft
descriptors, commit frame number and kind of return of a processor with no group hold, and that a capture source's expected
tag is 0 is the model's (notes/assumptions/33.md, 14.md, 26.md, 6.md, 25.md). -/
def Obligations.LoadEndsInOneOfTwoWays : Prop :=
  ∀ s : State, s.control.part = .loading →
    let bs := s.control.loadBytes
    let cfg := loadedOf bs
    (loadVerdict s.link.areaBase.toNat bs = .pass →
      ∃ t, exec .loadEnd s = .next t ∧
        (t.control = { s.control with part := .ready, loadBytes := [] } ∧ t.config = some cfg ∧ t.frameNo = 0) ∧
        (t.live = Table.empty ∧
          t.ring =
            { t.ring with
              state := .idle, next := 0, held := [], draft := Table.empty, pendingSources := [], pendingClears := [],
              pendingSaves := [], edits := false, wait := 0, look := .none, kept := [] }) ∧
        (t.builder = ⟨.idle, t.builder.active, none, 0, 0⟩ ∧
          ∃ bank, t.builder.active = some bank ∧ bank.builtWith = 0 ∧
            ∀ k : Fin 16, bank.tiles[k] =
              if (cfg.tiles[k]).enable then some ⟨[⟨0, [⟨0, (cfg.tiles[k]).width, .background⟩]⟩], .normal⟩ else none) ∧
        ((∀ src : Fin 32,
            let d := configDescriptor bs src.val
            t.channel src =
              if d.enable then Source.unloaded.restarted src d else Source.unloaded.switchedOff d) ∧
          t.sources.frames = [] ∧ t.sources.toJudge = [] ∧ t.sources.headers = [] ∧ t.sources.owed = 0) ∧
        ((∀ i : Fin 16,
            t.inputs[i] =
              { state := .noSignal, candidate := none, count := 0, lockedW := 0, lockedH := 0, oversize := false,
                halved := false, tornRun := 0, cleanRun := 0, loss := 0, fifo := [], frame := none, lastWritten := false,
                good := none, report := none }) ∧
          (∀ i : Fin 8, t.alarms[i] = ⟨alarmConfigAt bs i.val, false, 0, .idle⟩) ∧ t.alarmsLater = [] ∧
          (∀ k : Fin 16,
            t.engines[k] =
              { line0 := [], line1 := [], into := false, composing := none, sending := none, output := .noSignal,
                late := 0 }) ∧
          t.view = none) ∧
        t.link = s.link.withCausesSet 0x01 ∧ t.mem = s.mem ∧ t.port = s.port ∧ t.status = s.status ∧
        t.pending = s.pending) ∧
      ∀ code index : Nat, loadVerdict s.link.areaBase.toNat bs = .fail code index →
        exec .loadEnd s =
          .next { s with
            control := ⟨.halted, BitVec.ofNat 8 code, BitVec.ofNat 8 index, false, []⟩
            port := s.port.setQueue (.control loadSequence) []
            link := s.link.withCausesSet 0x02 }

/-- R177, R178, R185 to R187 and R190. Reads: each register returns its contents, fewer than four bytes return the bytes
addressed. Writes, bytes not written taken as 0: CAUSE and RESET_REASON clear the bits written as 1, CAUSE_ENABLE is set as
a whole, AREA_BASE in HALTED takes bits 31:12, and a write with no meaning changes nothing; an MSI is sent when the set of
bits both set and enabled was empty and is not. Which command a BAR 0 write is, and that the command of ignored writes
changes nothing whatever it carries, is read from the rules by inference (notes/assumptions/23.md). -/
def Obligations.RegisterReadsAndWrites : Prop :=
  ∀ (w : RegWrite) (s : State),
    let wrote (i : Nat) : Bool := w.data.getLsbD i && w.bytes.getLsbD (i / 8)
    let written : BitVec 8 := if w.bytes.getLsbD 0 then w.data.setWidth 8 else 0
    (exec (.causeClear w) s =
        .next { s with link := s.link.withCauses (s.link.cause &&& ~~~written) s.link.causeEnable } ∧
      exec (.causeEnableWrite w) s = .next { s with link := s.link.withCauses s.link.cause written } ∧
      (s.control.part = .halted →
        ∃ t, exec (.areaBaseWrite w) s = .next t ∧
          (∀ i, i < 32 → t.link.areaBase.getLsbD i = (decide (12 ≤ i) && wrote i)) ∧
          t = { s with link := { s.link with areaBase := t.link.areaBase } }) ∧
      (∃ t, exec (.resetReasonClear w) s = .next t ∧
        (∀ i, i < 3 → t.link.resetReason.getLsbD i = (s.link.resetReason.getLsbD i && !wrote i)) ∧
        t = { s with link := { s.link with resetReason := t.link.resetReason } }) ∧
      ∀ offset : BitVec 12, exec (.ignoredRegisterWrite offset w) s = .next s) ∧
      ∀ offset : BitVec 12,
        let o := offset.toNat
        let v := s.readRegister offset
        ((o < 4 → v = 0x41573201) ∧
          (4 ≤ o → o < 8 →
            v.extractLsb' 0 8 =
                (match s.control.part with | .halted => 0 | .loading => 1 | .ready => 2 | .running => 3) ∧
              v.extractLsb' 8 8 = s.control.faultCode ∧ v.extractLsb' 16 8 = s.control.faultIndex ∧
              v.extractLsb' 24 8 = 0) ∧
          (8 ≤ o → o < 12 → v = s.link.cause.setWidth 32) ∧ (12 ≤ o → o < 16 → v = s.link.causeEnable.setWidth 32) ∧
          (16 ≤ o → o < 20 → v = s.link.areaBase) ∧ (20 ≤ o → o < 24 → v = 0) ∧
          (24 ≤ o → o < 28 → v = s.link.resetReason.setWidth 32) ∧ (28 ≤ o → v = 0) ∧
          ∀ n, o % 4 + n ≤ 4 →
            s.readRegisterBytes offset n = (List.range n).map fun k => v.extractLsb' (8 * (o % 4 + k)) 8) ∧
          let c := registerCommand offset w
          (o < 4 ∨ 28 ≤ o → c = .ignoredRegisterWrite offset w) ∧
            (4 ≤ o → o < 8 →
              c =
                if wrote 2 then .stop (wrote 0) (wrote 1)
                else if wrote 0 then .load (wrote 1)
                else if wrote 1 then .start
                else .ignoredRegisterWrite offset w) ∧
            (8 ≤ o → o < 12 → c = if written = 0 then .ignoredRegisterWrite offset w else .causeClear w) ∧
            (12 ≤ o → o < 16 → c = .causeEnableWrite w) ∧ (16 ≤ o → o < 20 → c = .areaBaseWrite w) ∧
            (20 ≤ o → o < 24 → c = .attend w) ∧
            (24 ≤ o → o < 28 →
              c = if wrote 0 ∨ wrote 1 ∨ wrote 2 then .resetReasonClear w else .ignoredRegisterWrite offset w)

/-- R185 and R142: an ATTEND write in RUNNING starts a look in IDLE, COLLECTING and SKIPPING, reads nothing in
AWAITING_COMMIT and WRITING_BACK, and is kept, once, while the processor is in the middle of a look. -/
def Obligations.AttendIsALookEvent : Prop :=
  ∀ (w : RegWrite) (s : State), s.control.part = .running →
    (s.ring.look = .none → s.ring.state ≠ .awaitingCommit → s.ring.state ≠ .writingBack →
        exec (.attend w) s =
          .next { s with
            ring := { s.ring with look := .reading .attend }
            port := s.port.issue (.control ringProcessor) (readTransfers (s.cfg.ringBase + 64 * s.ring.next) 64 0) }) ∧
      (s.ring.look = .none → (s.ring.state = .awaitingCommit ∨ s.ring.state = .writingBack) →
        exec (.attend w) s = .next s) ∧
      (s.ring.look ≠ .none →
        exec (.attend w) s =
          .next (if LookCause.attend ∈ s.ring.kept then s
            else { s with ring := { s.ring with kept := s.ring.kept ++ [.attend] } }))

/-! ## The port -/

/-- R15 and R18: a BAR 2 access inside frame memory becomes transfers of the PCIe endpoint, after those it has waiting: whole
aligned words, each transfer of 4 to 256 bytes of one aligned block of 256, of which together exactly the bytes of the
access are returned, or are written, in ascending order. That an access of any length is taken so, by whole words with byte
enables, is the model's (notes/assumptions/11.md, 27.md). -/
def Obligations.Bar2AccessBecomesTransfers : Prop :=
  ∀ (s : State) (addr : Nat),
    (∀ len, addr + len ≤ 4294967296 →
        ∃ ts, exec (.bar2Access (.read addr len)) s = .next { s with port := s.port.issue (.control pcieEndpoint) ts } ∧
          allWithinBlocks ts ∧ (∀ x ∈ ts, ∃ n, x.op = .read n ∧ x.addr % 4 = 0 ∧ n % 4 = 0) ∧
          (ts.flatMap fun x => x.addressed x.addresses) = (List.range len).map (addr + ·)) ∧
      ∀ data, addr + data.length ≤ 4294967296 →
        ∃ ts, exec (.bar2Access (.write addr data)) s = .next { s with port := s.port.issue (.control pcieEndpoint) ts } ∧
          allWithinBlocks ts ∧ (∀ x ∈ ts, ∃ bs, x.op = .merge bs ∧ x.addr % 4 = 0 ∧ bs.length % 4 = 0) ∧
          (ts.flatMap fun x => (x.stores.zipIdx x.addr).filterMap fun p => p.1.map fun b => (b, p.2)) = data.zipIdx addr

/-- R16 and R17: a grant carries out the waiting transfer of the highest class with one waiting and, in that class, of the
first waiting requester after the pointer; the pointer moves to it, only the bytes it writes change in frame memory (a write
with byte enables leaves the others: notes/assumptions/27.md), and the other classes' pointers, the other requesters'
transfers, and the other engines and capture inputs stay; a tile or capture grant touches no control unit, a control grant
none but its own. Of the ring processor only the look in hand changes, or a group starts (R144). A granted write of a control
requester leaves its queue and does nothing more. With nothing waiting nothing happens. -/
def Obligations.GrantFollowsClassAndPointer : Prop :=
  ∀ s : State, s.mem.wf = true →
    ((∀ r, s.port.queue r = []) → exec .transferGrant s = .next s) ∧
      ∀ (r : Requester) (x : Transfer) (rest : List Transfer), s.port.next r → s.port.queue r = x :: rest →
        ∃ t, exec .transferGrant s = .next t ∧
          (∀ a, t.mem.read a =
            match x.stores[a - x.addr]? with
            | some (some b) => if x.addr ≤ a ∧ a < 4294967296 then b else s.mem.read a
            | _ => s.mem.read a) ∧
          (∀ u, r = .tile u → t.port.queue r = rest) ∧
          (∀ k, r = .control k → (∀ n, x.op ≠ .read n) →
            t.port.queue r = rest ∧ t = { s with mem := t.mem, port := t.port }) ∧
          (match r with
            | .tile u => t.port.tilePtr = u ∧ t.port.capturePtr = s.port.capturePtr ∧ t.port.controlPtr = s.port.controlPtr
            | .capture u => t.port.tilePtr = s.port.tilePtr ∧ t.port.capturePtr = u ∧ t.port.controlPtr = s.port.controlPtr
            | .control u =>
              t.port.tilePtr = s.port.tilePtr ∧ t.port.capturePtr = s.port.capturePtr ∧ t.port.controlPtr = u) ∧
          (∀ q, q ≠ r → t.port.queue q = s.port.queue q) ∧
          (∀ k, r = .control k →
            (k ≠ loadSequence → t.control = s.control) ∧ (k ≠ pcieEndpoint → t.link = s.link) ∧
              (k ≠ ringProcessor → t.ring = s.ring) ∧ (k ≠ sourceUnit → t.sources = s.sources)) ∧
          (∀ u : Fin 16, r ≠ .tile u → t.engines[u] = s.engines[u]) ∧
          (∀ c : Fin 16, r ≠ .capture c → t.inputs[c] = s.inputs[c]) ∧
          ((∀ k, r ≠ .control k) →
            t.control = s.control ∧ t.link = s.link ∧ t.ring = s.ring ∧ t.sources = s.sources) ∧
          t = { s with
            mem := t.mem, port := t.port
            control := { s.control with loadBytes := t.control.loadBytes }
            link := { s.link with bar2Data := t.link.bar2Data }
            ring := t.ring
            sources := { s.sources with headers := t.sources.headers }
            inputs := t.inputs, engines := t.engines } ∧
          (t.ring = { s.ring with look := t.ring.look } ∨
            s.ring.state = .idle ∧ (∃ cause, s.ring.look = .reading cause) ∧
              t.ring = { s.groupStarted with look := t.ring.look })

/-- What a granted read brings its requester, and no other engine, capture input or unit: bytes for the control computer
(R18), the pixels of a tile engine's row (R11), the slot of a look (R139, R149) and the bytes of a scene (R166), a memory
source's header (R94), more of the configuration block, of which the next bytes are then read unless a check has failed
(R180). A slot found posted in IDLE starts a group at that moment: the drafts become copies of the live table and the live
descriptors, before a scene is read (R144). That it does so in the step of the grant is the model's
(notes/assumptions/10.md), and so are the sizes of the load's reads (29.md) and which bytes of whole words a BAR 2 access
returns (11.md). That the read which finds a skipped slot issues its return, with writes of 9 and of 4 bytes, and NEXT and
the chain wait move at its end, is read by inference (18.md, 12.md, 27.md). -/
def Obligations.GrantedReadReachesItsRequester : Prop :=
  ∀ (s : State) (r : Requester) (x : Transfer) (rest : List Transfer) (n : Nat),
    s.port.next r → s.port.queue r = x :: rest → x.op = .read n →
      let bytes := (List.range n).map fun k => s.mem.read (x.addr + k)
      ∃ t, exec .transferGrant s = .next t ∧ t.mem = s.mem ∧
        (∀ u : Fin 16, r ≠ .tile u → t.engines[u] = s.engines[u]) ∧
        (∀ c : Fin 16, r ≠ .capture c → t.inputs[c] = s.inputs[c]) ∧
        match r with
        | .tile u =>
          (t.port.queue r = rest ∧ t = { s with port := t.port, engines := t.engines }) ∧
            t.engines[u] =
              { s.engines[u] with
                composing := (s.engines[u]).composing.map fun c =>
                  { c with fetched := c.fetched ++ [(x.tag, bytes.zipIdx.map fun p => (x.addr + p.2, p.1))] } }
        | .capture _ => t = { s with port := t.port, inputs := t.inputs }
        | .control k =>
          (k = pcieEndpoint →
              t = { s with port := t.port, link := { s.link with bar2Data := x.addressed bytes } } ∧ t.port.queue r = rest) ∧
            (k = statusWriter → t = { s with port := t.port } ∧ t.port.queue r = rest) ∧
            (k = sourceUnit → t = { s with port := t.port, sources := { s.sources with headers := t.sources.headers } } ∧
              ∀ src : Fin 32, x.tag = src.val + 1 →
              t.sources = { s.sources with headers := s.sources.headers ++ [(src, bytes)] } ∧ t.port.queue r = rest) ∧
            (k = loadSequence →
              let got := s.control.loadBytes ++ bytes
              t = { s with port := t.port, control := { s.control with loadBytes := got } } ∧
                t.port.queue r =
                  rest ++
                    if loadVerdict s.link.areaBase.toNat got = .more ∧ got.length < 1376 then
                      [⟨s.link.areaBase.toNat + got.length, .read (min 256 (1376 - got.length)), 0⟩]
                    else []) ∧
            (k = ringProcessor → t = { s with port := t.port, ring := t.ring } ∧
              ((∀ cause, s.ring.look ≠ .reading cause) → t.ring = { s.ring with look := t.ring.look })) ∧
            (k = ringProcessor → ∀ cause, s.ring.look = .reading cause →
              let g := if bytes.getD 0 0 ≠ 0 ∧ s.ring.state = .idle then s.groupStarted else s.ring
              let room := g.held.length < min 32 (2 ^ s.cfg.ringCode / 2)
              (bytes.getD 0 0 ≠ 0 → s.ring.state = .skipping →
                t.ring = { s.ring with look := .skip cause bytes } ∧
                  t.port.queue r = rest ++ s.returns [⟨s.ring.next, 0, 2, 0⟩] 0) ∧
                ((bytes.getD 0 0 = 0 ∨
                    (s.ring.state ≠ .skipping ∧
                      ((bytes.getD 2 0).toNat ≠ 1 ∨ 15 < (bytes.getD 16 0).toNat ∨ ¬ room))) →
                  t.ring = { g with look := .found cause bytes } ∧ t.port.queue r = rest) ∧
                (bytes.getD 0 0 ≠ 0 → s.ring.state ≠ .skipping → (bytes.getD 2 0).toNat = 1 →
                  (bytes.getD 16 0).toNat ≤ 15 → room →
                  t.ring = { g with look := .scene cause bytes [] } ∧
                    t.port.queue r =
                      rest ++ readTransfers (s.cfg.sceneBase + 4096 * (bytes.getD 16 0).toNat) 4096 0)) ∧
            (k = ringProcessor → ∀ cause slot scene, s.ring.look = .scene cause slot scene →
              t.ring = { s.ring with look := .scene cause slot (scene ++ bytes) } ∧ t.port.queue r = rest)

/-! ## The wall frame start and the millisecond interval -/

/-- R59, R60, R62, R34 and R54: at a wall frame start a builder in DONE_PENDING makes its shadow the active bank and counts
the build, FALLBACK is set when a tile of the bank is marked, and a change of the raised set by clears committed there
starts an ALARM build. A GROUP build's draft becomes the live table and its group commits (R51, R151, R153, R154; for
pendingSaves, the draft descriptors, which stay by the model's choice, and the writes' widths notes/assumptions/26.md,
12.md, 27.md); an ALARM build leaves the live table. When the
clears of a group without edits are taken first and change the raised set, the ALARM build restarts and nothing swaps (R53;
which order comes is the operand's, notes/assumptions/5.md).
This is a start with which no millisecond interval arrives (with one: MillisecondIntervalActsOnEveryUnit). -/
def Obligations.WallFrameStartSwapsTheBanks : Prop :=
  ∀ (order : FrameOrder) (s : State) (kind : BuildKind), order.interval = none → s.control.part = .running →
    s.builder.state = .donePending kind →
      let alone := s.ring.state = .awaitingCommit ∧ s.ring.edits = false
      let early := kind = .alarm ∧ order.setFirst = true ∧ alone ∧
        raisedSet (applyClears s.ring.pendingClears s.alarms).1 ≠ raisedSet s.alarms
      let built := if s.builder.built = 0xFFFFFFFF then s.builder.built else s.builder.built + 1
      let swapped : Builder := ⟨.idle, s.builder.shadow, s.builder.active, built, s.builder.failed⟩
      ∃ t, exec (.wallFrameStart order) s = .next t ∧ t.frameNo = s.frameNo + 1 ∧
        t.live = (match kind with | .group => s.ring.draft | .alarm => s.live) ∧
        (¬ early →
          t.builder = swapped.afterRaised (raisedSet s.alarms) (raisedSet t.alarms) ∧
            ∀ bank, s.builder.shadow = some bank →
              (∃ (k : Fin 16) (table : TileTable), bank.tiles[k] = some table ∧ table.mark ≠ .normal) →
                t.link.cause.getLsbD 6 = true) ∧
        (early → t.builder.active = s.builder.active ∧ t.builder.built = s.builder.built ∧
          t.builder.failed = s.builder.failed ∧
          (order.lastTile = false → t.builder = s.builder.afterRaised (raisedSet s.alarms) (raisedSet t.alarms))) ∧
        (kind = .group → s.groupCommitted t (s.frameNo + 1) s.ring.draft) ∧
        (kind = .alarm → alone → order.setFirst = true → s.groupCommitted t (s.frameNo + 1) s.live) ∧
        (kind = .alarm → ¬ alone → t.alarms = s.alarms) ∧
        t.mem = s.mem ∧ t.config = s.config ∧ t.control = s.control ∧ t.pending = s.pending

/-- R1, R6, R8, R12 and R142: a wall frame start with no bank to swap and a processor ready to look adds one to the wall
frame number, leaves active bank, live table and alarm inputs as they are, and the builder too unless a build completes at
that moment (R58), makes the processor read slot NEXT, and makes the engine of every enabled tile begin a video frame and
compose row 0 into the line it is not sending, its counter unchanged. That the output then sends the frame mark is read by
inference (notes/assumptions/30.md); which line comes first when none has been sent is the model's (14.md).
This is a start with which no millisecond interval arrives (with one: MillisecondIntervalActsOnEveryUnit). -/
def Obligations.WallFrameStartBeginsTheFrame : Prop :=
  ∀ (order : FrameOrder) (s : State), order.interval = none → s.control.part = .running →
    (∀ kind, s.builder.state ≠ .donePending kind) → s.ring.look = .none →
    (s.ring.state = .idle ∨ s.ring.state = .collecting ∨ s.ring.state = .skipping) →
      ∃ t, exec (.wallFrameStart order) s = .next t ∧
        (t.frameNo = s.frameNo + 1 ∧ t.live = s.live ∧ t.alarms = s.alarms ∧ t.alarmsLater = s.alarmsLater ∧
          (order.lastTile = false → t.builder = s.builder) ∧
          t.builder = { s.builder with state := t.builder.state, shadow := t.builder.shadow }) ∧
        (t.ring = { s.ring with look := .reading (.frame (s.frameNo + 1)) } ∧
          t.port.queue (.control ringProcessor) =
            s.port.queue (.control ringProcessor) ++ readTransfers (s.cfg.ringBase + 64 * s.ring.next) 64 0) ∧
        (∀ k : Fin 16,
          let e := s.engines[k]
          let e' := t.engines[k]
          e'.late = e.late ∧ e'.line0 = e.line0 ∧ e'.line1 = e.line1 ∧ e'.sending = e.sending ∧
            ((s.tile k).enable = true →
              e'.output = .frameStart ∧ e'.into = (match e.sending with | some l => !l | none => e.into) ∧
                ∃ c, e'.composing = some c ∧ c.row = 0 ∧ c.finished = false ∧ c.fetched = []) ∧
            ((s.tile k).enable = false → e'.output = e.output ∧ e'.into = e.into)) ∧
        t.mem = s.mem ∧ t.config = s.config ∧ t.control = s.control ∧ t.pending = s.pending

/-- R128, R129 and R152 to R154: a group without edits commits at the wall frame start that the processor takes: its clears
act in order, each returning the state it found; the live table stays; the group is to be returned with this wall frame's
number, its saved scenes written first, a save's detail the number of live windows. That the pending lists but the saves
empty there, and the widths of the writes of the return, are read by inference, and that the draft descriptors stay as they
stood is the model's choice (notes/assumptions/26.md, 12.md, 27.md).
This is a start with which no millisecond interval arrives (with one: MillisecondIntervalActsOnEveryUnit). -/
def Obligations.GroupWithoutEditsCommits : Prop :=
  (∀ (order : FrameOrder) (s : State), order.interval = none → s.control.part = .running →
    s.ring.state = .awaitingCommit → s.ring.edits = false → s.ring.look = .none → s.builder.state ≠ .donePending .group →
      ∃ t, exec (.wallFrameStart order) s = .next t ∧ t.frameNo = s.frameNo + 1 ∧ t.live = s.live ∧
        s.groupCommitted t (s.frameNo + 1) s.live ∧ t.alarmsLater = s.alarmsLater ∧ t.mem = s.mem ∧ t.config = s.config ∧
        t.control = s.control ∧ t.pending = s.pending) ∧
    ∀ (clears : List (Nat × Fin 8)) (alarms : Vector AlarmInput 8),
      let done := applyClears clears alarms
      let cleared (st : AlarmState) : AlarmState :=
        match st with | .active => .acked | .latched => .idle | .idle => .idle | .acked => .acked
      (∀ i : Fin 8, done.1[i] =
          { alarms[i] with
            state := if ∃ c ∈ clears, c.2 = i then cleared (alarms[i]).state else (alarms[i]).state }) ∧
        (done.2.1 = true ↔ ∃ c ∈ clears, (alarms[c.2]).state = .active ∨ (alarms[c.2]).state = .latched) ∧
        done.2.2.length = clears.length ∧
        ∀ (before : List (Nat × Fin 8)) (pos : Nat) (i : Fin 8) (rest : List (Nat × Fin 8)),
          clears = before ++ (pos, i) :: rest →
            let found := if ∃ c ∈ before, c.2 = i then cleared (alarms[i]).state else (alarms[i]).state
            done.2.2[before.length]? =
              some (pos, match found with | .idle => 0 | .active => 1 | .acked => 2 | .latched => 3)

/-- R3, R125 to R127, R131, R98 and R113: a millisecond interval of RUNNING samples every enabled contact, ages every frame
on view that is not frozen, and times every input that has a signal; a change of the raised set starts or restarts a build.
In the other part states nothing happens. One that arrives together with a wall frame start is taken before or after it by
each unit, as the operand says (R3, R98, R130), and a change it makes reaches the builder before or after its swap (R59): the
alarm unit first and the builder after its swap is an interval of which the builder hears once the start is taken; the alarm
unit second and the builder before its swap is one of which the builder has heard already. A source with work of a wall frame
start still to do takes the interval after it, and so do, while the processor keeps a wall frame start, the moves of the
alarm unit, of which ALARM_EVENT is set at once (R92, R98, R133: read by inference; R129: the model's choice,
notes/assumptions/21.md); how the operand gives the orders is the model's (5.md, 32.md); that a report already made outlives
a loss of signal is read by inference (16.md). -/
def Obligations.MillisecondIntervalActsOnEveryUnit : Prop :=
  (∀ (high : Groups) (s : State),
    (s.control.part ≠ .running → exec (.millisecondInterval high) s = .next s) ∧
      (s.control.part = .running →
        ∃ t, exec (.millisecondInterval high) s = .next t ∧ s.tookInterval t high true true (BitVec.allOnes 16))) ∧
    ∀ (order : FrameOrder) (x : TogetherInterval) (s : State), order.interval = some x →
      let start (o : FrameOrder) (u v : State) : Prop := exec (.wallFrameStart { o with interval := none }) u = .next v
      let before (u v : State) (alarms : Bool) : Prop := u.tookInterval v x.high alarms x.sourcesFirst x.inputsFirst
      let after (u v : State) (alarms : Bool) : Prop := u.tookInterval v x.high alarms (!x.sourcesFirst) (~~~x.inputsFirst)
      let atOnce := s.ring.look = .none ∧ s.alarmsLater = []
      (s.control.part ≠ .running → exec (.wallFrameStart order) s = .next s) ∧
        (s.control.part = .running →
          ((x.alarmsFirst = true ∧ (x.builderFirst = true ∨ s.alarmsLater ≠ []) ∨
              x.alarmsFirst = false ∧ (x.builderFirst = false ∨ ¬ atOnce)) →
            ∃ u v t, before s u x.alarmsFirst ∧ start order u v ∧ after v t (!x.alarmsFirst) ∧
              exec (.wallFrameStart order) s = .next t) ∧
          (x.alarmsFirst = true → x.builderFirst = false → s.alarmsLater = [] →
            ∃ u v t, before s u true ∧ start { order with setFirst := false } { u with builder := s.builder } v ∧
              after
                { v with
                  builder :=
                    if raisedSet u.alarms = raisedSet s.alarms then v.builder else v.builder.restarted (raisedSet v.alarms) }
                t false ∧
              exec (.wallFrameStart order) s = .next t) ∧
          (x.alarmsFirst = false → x.builderFirst = true → atOnce →
            (s.ring.state = .awaitingCommit → s.ring.edits = true) → ∃ heard, s.sampledInto heard x.high ∧
              (heard.builder.state = .donePending .group →
                ∃ u v t, before s u false ∧ start order u v ∧ after v t true ∧ exec (.wallFrameStart order) s = .next t) ∧
              (heard.builder.state ≠ .donePending .group →
                ∃ u v t, before s u false ∧ start order { u with builder := heard.builder } v ∧ after v t true ∧
                  exec (.wallFrameStart order) s = .next { t with builder := v.builder })) ∧
          (x.alarmsFirst = false → x.builderFirst = true → atOnce → s.ring.state = .awaitingCommit → s.ring.edits = false →
            s.builder.state ≠ .donePending .group →
              ∃ u v t, before s u false ∧ start { order with setFirst := true, lastTile := false } u v ∧ after v t true ∧
                (raisedSet v.alarms ≠ raisedSet s.alarms →
                  ∃ t', exec (.wallFrameStart order) s = .next t' ∧ (order.lastTile = false → t' = t) ∧
                    (∀ r, r ≠ .control statusWriter → t'.port.queue r = t.port.queue r) ∧
                    t' = { t with
                      builder := { t.builder with state := t'.builder.state, shadow := t'.builder.shadow }
                      status := { t.status with builder := t'.builder.state }, port := t'.port }) ∧
                (raisedSet v.alarms = raisedSet s.alarms →
                  ∃ w t', start { order with setFirst := true }
                      { u with builder := s.builder.afterRaised (raisedSet s.alarms) (raisedSet t.alarms) } w ∧
                    after w t' true ∧ exec (.wallFrameStart order) s = .next { t' with builder := w.builder })))

/-- R127, R113, R96 and R97, events inside a millisecond interval or a wall frame start taken alone (notes/assumptions/4.md).
A debounced change of one input that its next sample would settle moves its level and state by the table of R127 and sets
ALARM_EVENT; while the ring processor keeps a wall frame start the bit is set at once and the move made after that start
(21.md); a loss of signal at the interval that brings the counter to 250 leaves the input in NO_SIGNAL and sets SOURCE_EVENT;
for a source that has nothing to promote, a frame on view at its expiry limit is taken from view and counted, its slot
becoming SPARE, and one at its stale limit alone becomes STALE, each setting SOURCE_EVENT. That the size shown becomes 0 at
an expiry is the model's (22.md). -/
def Obligations.EventsTakenAlone : Prop :=
  (∀ (s : State) (i : Fin 8) (c : Instr) (level : Bool),
    (c = .debouncedAssert i ∧ level = true ∨ c = .debouncedRelease i ∧ level = false) → s.control.part = .running →
      (s.alarmsLater = [] → ∃ t, exec c s = .next t ∧ s.changedInto t i level) ∧
        (s.alarmsLater ≠ [] → ∃ t, exec c s = .next t ∧ s.keptForLater t (.change i level))) ∧
    (∀ (s : State) (c : Fin 16), s.control.part = .running → (s.inputs[c]).state ≠ .noSignal → 250 ≤ (s.inputs[c]).loss + 1 →
      ∃ t, exec (.lossOfSignal c) s = .next t ∧
        t.inputs[c] = { CaptureInput.initial with report := (s.inputs[c]).report } ∧
        (∀ k : Fin 16, k ≠ c → t.inputs[k] = s.inputs[k]) ∧
        ((t.port.queue (.capture c)).map fun x => (x.addr, x.op)) =
          ((s.port.queue (.capture c)).map fun x => (x.addr, x.op)) ∧
        (∀ r, r ≠ .capture c → t.port.queue r = s.port.queue r) ∧
        t = { s with
          inputs := t.inputs, port := { s.port with capture := t.port.capture }, link := s.link.withCausesSet 0x08 }) ∧
    ∀ (s : State) (src : Fin 32),
      let c := s.channel src
      s.control.part = .running → c.rolesLegal src → c.desc.enable = true → src ∉ s.sources.toJudge →
        (src.val < 16 → c.frozen = true ∨ ∀ k : Fin 3, c.roles[k] ≠ some .ready) → (∃ k : Fin 3, c.roles[k] = some .shown) →
          (c.desc.expiryLimit ≠ 0 → c.desc.expiryLimit ≤ c.age →
            ∃ t, exec (.expiry src) s = .next t ∧
              (∀ k : Fin 3, ((t.channel src).roles[k]) = if c.roles[k] = some .shown then some .spare else c.roles[k]) ∧
              t.channel src =
                { c with
                  roles := (t.channel src).roles, age := 0, presentation := .none, before := c.presentation, shownW := 0,
                  shownH := 0, expired := if c.expired = 0xFFFFFFFF then c.expired else c.expired + 1 } ∧
              (∀ q, q ≠ src → t.channel q = s.channel q) ∧
              t = { s with
                sources := { s.sources with channels := t.sources.channels }, link := s.link.withCausesSet 0x08 }) ∧
            (c.desc.staleLimit ≠ 0 → c.desc.staleLimit ≤ c.age → (c.desc.expiryLimit = 0 ∨ c.age < c.desc.expiryLimit) →
              c.presentation ≠ .stale →
                exec (.staleLimitReached src) s =
                  .next { s with
                    sources := { s.sources with
                      channels := vset s.sources.channels src { c with presentation := .stale, before := c.presentation } }
                    link := s.link.withCausesSet 0x08 })

/-! ## Sources -/

/-- R95 to R97: a header that a memory source's read has brought is judged by its tag, its width and its height: a good one
with the expected tag shows the FILLING slot, a bad one uses the tag up and is counted, and one with another tag does
nothing; where nothing is published the frame on view may expire, and the presentation is decided. SOURCE_EVENT is set by
a bad header, an expiry or a change of presentation. The source then ages by the intervals that came meanwhile (R98, read
by inference: notes/assumptions/21.md), after its entry has been copied for the page (R107). With the last header judged, the
unit begins the next wall frame start that waits, once the ring processor has taken it (R92): each source and capture input
then does its work for that start and the frame is ready if none waits behind it. That an expiry leaves the shown size 0 is
the model's (22.md), and so is that a source reset while FRESH which publishes at once sets no SOURCE_EVENT (36.md). -/
def Obligations.MemoryHeaderIsJudged : Prop :=
  ∀ (s : State) (m : Fin 16) (header : List Byte),
    let src : Fin 32 := memorySource m
    let c := s.channel src
    s.control.part = .running → c.rolesLegal src → c.desc.enable = true → src ∈ s.sources.toJudge →
      s.sources.headers.find? (fun p => p.1 == src) = some (src, header) →
        let tag : Half := BitVec.ofNat 16 (field header 0 2)
        let w := field header 2 2
        let h := field header 4 2
        let good := (1 ≤ w ∧ w ≤ 4096) ∧ (1 ≤ h ∧ h ≤ 2400) ∧ 16 + w * h * 4 ≤ c.desc.size * 4096
        let count (x : Word) : Word := if x = 0xFFFFFFFF then x else x + 1
        let shown : Source :=
          { c with
            roles := mapBank c.roles fun _ r =>
              if r = some .filling then some .shown
              else if r = some .shown then some .filling
              else if r = some .spare ∧ ∀ j : Fin 3, c.roles[j] ≠ some .shown then some .filling
              else r
            shownW := w, shownH := h, age := 0, presentation := .fresh, published := count c.published,
            expected := c.expected + 1 }
        let judged : Source :=
          if tag = c.expected then
            (if good then shown else { c with badFrame := count c.badFrame, expected := c.expected + 1 }.settled)
          else c.settled
        let judges (t : State) : Prop :=
          t.channel src = judged.older s.sources.owed ∧
          (∀ q, q ≠ src → t.channel q = s.channel q) ∧
          (t.link.cause.getLsbD 3 = true ↔
            s.link.cause.getLsbD 3 = true ∨ (tag = c.expected ∧ ¬ good) ∨ judged.presentation ≠ c.before ∨
              (¬ (tag = c.expected ∧ good) ∧ (∃ k : Fin 3, c.roles[k] = some .shown) ∧ c.desc.expiryLimit ≠ 0 ∧
                c.desc.expiryLimit ≤ c.age)) ∧
          (t.sources.toJudge = s.sources.toJudge.filter (fun q => q != src) ∧ t.sources.frames = s.sources.frames ∧
            t.sources.headers = s.sources.headers.filter (fun p => p.1 != src) ∧
            t.sources.owed = if t.sources.toJudge = [] then 0 else s.sources.owed) ∧
          (t.status.sources[src] = reportedEntry src judged t.status.inputs[captureOf src] ∧
            (∀ q : Fin 32, q ≠ src → t.status.sources[q] = s.status.sources[q]) ∧ t.status.inputs = s.status.inputs) ∧
          t.mem = s.mem ∧ t.live = s.live ∧ t.builder = s.builder ∧ t.ring = s.ring ∧ t.alarms = s.alarms ∧
          t.alarmsLater = s.alarmsLater ∧ t.inputs = s.inputs ∧ t.control = s.control ∧ t.config = s.config ∧
          t.frameNo = s.frameNo ∧ t.pending = s.pending
        ((∃ q ∈ s.sources.toJudge, q ≠ src) ∨ (∀ f, s.sources.frames.head? = some f → f.taken = false) →
          ∃ t, exec (.memoryHeaderRead m) s = .next t ∧ judges t) ∧
        ∀ (f : SourceFrame) (later : List SourceFrame), (∀ q ∈ s.sources.toJudge, q = src) → s.rolesLegal →
          s.sources.frames = f :: later → f.taken = true →
            ∃ u v : State, judges u ∧ (u.port = s.port ∧ u.view = s.view ∧ u.engines = s.engines) ∧
              u.sourcesTake v f ∧ u.inputsTake v f.items ∧
              (v.sources.frames = later ∧
                (∀ k : Fin 16,
                  (resetsInput f.items k → v.status.inputs[k] = CaptureInput.initial.reported) ∧
                    (¬ resetsInput f.items k → v.status.inputs[k] = u.status.inputs[k])) ∧
                v = { u with
                  sources := v.sources, inputs := v.inputs, link := v.link, port := v.port
                  status := { u.status with inputs := v.status.inputs, sources := v.status.sources } }) ∧
              (v.sources.toJudge ≠ [] → exec (.memoryHeaderRead m) s = .next v) ∧
              (v.sources.toJudge = [] → later = [] →
                ∃ t, exec (.memoryHeaderRead m) s = .next t ∧ t.frameIsReady v.engines ∧
                  t = { v with view := t.view, engines := t.engines, port := t.port }) ∧
              (v.sources.toJudge = [] → later ≠ [] → exec (.memoryHeaderRead m) s = .next v.sourceAdvance)

/-! ## Tile engines -/

/-- R12 to R14: at a line start a row that has finished is sent and the next one begins in the other line; otherwise the row
is late: the line before it is sent again and stays the line being sent, or the background is sent for row 0 and no line of
the buffer is, the counter rises, LATE_LINE is set, and the next row begins in the same line. The fetches of the row before
are withdrawn. The order of a row's fetches is the model's (notes/assumptions/13.md). -/
def Obligations.LineStartSendsOrIsLate : Prop :=
  ∀ (s : State) (k : Fin 16) (c : Composing),
    let e := s.engines[k]
    s.control.part = .running → (s.tile k).enable = true → e.composing = some c →
      ∃ t, exec (.lineStart k) s = .next t ∧
        (∀ j : Fin 16, j ≠ k → t.engines[j] = s.engines[j]) ∧
        (t.engines[k]).composing =
          (if c.row + 1 < (s.tile k).height then some ⟨c.row + 1, s.view.isSome, false, []⟩ else none) ∧
        t.port = s.port.setQueue (.tile k)
          (match s.view with
            | some v => if c.row + 1 < (s.tile k).height then rowFetches s v k (c.row + 1) else []
            | none => []) ∧
        (if c.finished = true then
          (t.engines[k]).output = .line (if e.into then e.line1 else e.line0) ∧ (t.engines[k]).sending = some e.into ∧
            (t.engines[k]).late = e.late ∧ (c.row + 1 < (s.tile k).height → (t.engines[k]).into = !e.into) ∧
            t = { s with engines := t.engines, port := t.port }
        else
          (t.engines[k]).output = (if c.row = 0 then .line (List.replicate (s.tile k).width s.cfg.background) else e.output) ∧
            (t.engines[k]).sending = (if c.row = 0 then none else e.sending) ∧
            (t.engines[k]).late = (if e.late = 0xFFFFFFFF then e.late else e.late + 1) ∧ (t.engines[k]).into = e.into ∧
            t = { s with engines := t.engines, port := t.port, link := s.link.withCausesSet 0x20 }) ∧
        (t.engines[k]).line0 = e.line0 ∧ (t.engines[k]).line1 = e.line1

/-- R9, R10 and R12: a row whose fetches have all been granted is written into the line being composed, span by span:
background colour; border colour, or the stale colour for a STALE source; samples, or the fill colour where the source
shows nothing or its crop lies outside the frame. Nothing else changes. That the row waits for the grants of its fetches is
the model's (notes/assumptions/13.md). -/
def Obligations.RowComposedFillsTheLine : Prop :=
  ∀ (s : State) (k : Fin 16) (c : Composing) (v : FrameView),
    let e := s.engines[k]
    s.control.part = .running → e.composing = some c → c.begun = true → c.finished = false → s.view = some v →
      s.port.queue (.tile k) = [] →
        ∃ t, exec (.rowComposed k) s = .next t ∧
          (∀ j : Fin 16, j ≠ k → t.engines[j] = s.engines[j]) ∧
          (t.engines[k] =
            { e with
              line0 := if e.into then e.line0 else (t.engines[k]).line0
              line1 := if e.into then (t.engines[k]).line1 else e.line1
              composing := some { c with finished := true } }) ∧
          ((if e.into then (t.engines[k]).line1 else (t.engines[k]).line0) =
            (spansOf (s.activeBands k) c.row).zipIdx.flatMap fun p =>
              (List.range p.1.len).map fun n =>
                match p.1.kind with
                | .background => s.cfg.background
                | .border id =>
                  (match s.live.records[id] with
                  | none => s.cfg.background
                  | some w =>
                    if sourcePresentation v.presentations w.source = .stale then s.cfg.stale else w.borderColour)
                | .image id =>
                  (match s.live.records[id] with
                  | none => s.cfg.background
                  | some w =>
                    match v.scaler id with
                    | none => w.fillColour
                    | some sc =>
                      match sc.axes with
                      | none => w.fillColour
                      | some (h, vt) =>
                        if sourcePresentation v.presentations w.source = .none then w.fillColour
                        else
                          sample (fun x y => fetchedPixel (cellsOf c.fetched p.2) (sc.base + 16 + 4 * (y * sc.wf + x))) h vt
                            ((s.tile k).x + (p.1.start + n) - (w.x + w.effBorder))
                            ((s.tile k).y + c.row - (w.y + w.effBorder)))) ∧
          t = { s with engines := t.engines }

/-- R11 and R77: what the fetches of a row bring is enough for it: composed from what they return from a frame memory, the
row is the one composed with that frame memory's own pixels. -/
def Obligations.FetchedRowShowsFrameMemory : Prop :=
  ∀ (s : State) (v : FrameView) (k : Fin 16) (r : Nat),
    let fetched := (rowFetches s v k r).map fun x => (x.tag, cellsFrom x.addr (x.returned s.mem))
    composeRow s v k fetched r =
      (spansOf (s.activeBands k) r).flatMap fun sp =>
        (List.range sp.len).map fun n => spanColour s v k s.mem sp.kind r (sp.start + n)

/-! ## Capture inputs -/

/-- R110 to R112: a frame-start mark of an input without signal starts ACQUIRING with no candidate; one of an input in
ACQUIRING gives the ended frame's dimensions to the candidate, and locks the input at the third in a row that are alike
and in range (the same event as CAPTURE_LOCK, notes/assumptions/4.md). -/
def Obligations.FrameStartMarkAcquiresAndLocks : Prop :=
  ∀ (s : State) (c : Fin 16),
    let i := s.inputs[c]
    let d := (s.channel (captureSource c)).desc
    s.control.part = .running → d.enable = true →
      (i.state = .noSignal → i.frame = none →
        ∃ t, exec (.frameStartMark c) s = .next t ∧
          ((t.inputs[c]).state = .acquiring ∧ (t.inputs[c]).candidate = none ∧ (t.inputs[c]).loss = 0 ∧
            (∃ f, (t.inputs[c]).frame = some f ∧ f.lines = 0 ∧ f.written = false)) ∧
          t.link = s.link.withCausesSet 0x08 ∧ (∀ k : Fin 16, k ≠ c → t.inputs[k] = s.inputs[k]) ∧
          (∀ r, r ≠ .capture c → t.port.queue r = s.port.queue r) ∧
          t = { s with inputs := t.inputs, link := t.link, port := { s.port with capture := t.port.capture } }) ∧
        (∀ f, i.state = .acquiring → i.frame = some f → f.written = false →
          let dims := f.closeLine.dims
          let count := if dims = none then 0 else if i.candidate = dims then min 3 (i.count + 1) else 1
          let locks := ∃ w h, dims = some (w, h) ∧ count = 3 ∧ (64 ≤ w ∧ w ≤ 4096) ∧ (64 ≤ h ∧ h ≤ 2400)
          ∃ t, exec (.frameStartMark c) s = .next t ∧ (t.inputs[c]).loss = 0 ∧
            (∃ g, (t.inputs[c]).frame = some g ∧ g.lines = 0 ∧
              (g.written = true ↔ locks ∧ (t.inputs[c]).oversize = false)) ∧
            (¬ locks → (t.inputs[c]).state = .acquiring ∧ (t.inputs[c]).candidate = dims ∧ (t.inputs[c]).count = count ∧
              t.link = s.link) ∧
            (locks → (t.inputs[c]).state = .locked ∧ (t.inputs[c]).candidate = none ∧
              (∀ w h, dims = some (w, h) →
                (t.inputs[c]).lockedW = w ∧ (t.inputs[c]).lockedH = h ∧
                  ((t.inputs[c]).oversize = true ↔ d.size * 4096 < 16 + w * h * 4)) ∧
              (t.inputs[c]).tornRun = 0 ∧ (t.inputs[c]).cleanRun = 0 ∧ t.link = s.link.withCausesSet 0x08 ∧
              exec (.captureLock c) s = .next t) ∧
            (t.inputs[c]).halved = i.halved ∧ (∀ k : Fin 16, k ≠ c → t.inputs[k] = s.inputs[k]) ∧
            (∀ r, r ≠ .capture c → t.port.queue r = s.port.queue r) ∧
            t = { s with inputs := t.inputs, link := t.link, port := { s.port with capture := t.port.capture } })

/-- R116, R118 and R119: a frame-start mark of a LOCKED input judges the ended frame as a mismatch, oversize, torn or good,
in that order, counts it, moves the congestion mode by its table (the same event as CONGESTION_HALVED and
CONGESTION_NORMAL, notes/assumptions/4.md), and begins the next frame, written or skipped as the mode then says; one that
ends a skipped frame judges nothing. What stays of the FIFO is read by inference (notes/assumptions/16.md). -/
def Obligations.FrameStartMarkJudgesLockedFrame : Prop :=
  (∀ (s : State) (c : Fin 16) (f : CaptureFrame),
      let i := s.inputs[c]
      let src := captureSource c
      let ch := s.channel src
      s.control.part = .running → ch.desc.enable = true → i.state = .locked → i.frame = some f → f.skipped = false →
        let dims := f.closeLine.dims
        let mismatch := dims ≠ some (i.lockedW, i.lockedH) ∨ f.mismatch = true
        let oversize := ¬ mismatch ∧ i.oversize = true
        let torn := ¬ mismatch ∧ i.oversize = false ∧ f.torn = true
        let good := ¬ mismatch ∧ i.oversize = false ∧ f.torn = false
        let count (x : Word) : Word := if x = 0xFFFFFFFF then x else x + 1
        ∃ t, exec (.frameStartMark c) s = .next t ∧
          let j := t.inputs[c]
          (mismatch → j.state = .acquiring ∧ j.candidate = dims ∧ j.count = (if dims = none then 0 else 1) ∧
            j.lockedW = 0 ∧ j.lockedH = 0 ∧ j.oversize = false ∧ j.tornRun = 0 ∧ j.cleanRun = 0 ∧ j.halved = i.halved ∧
            j.fifo = [] ∧ t.channel src = ch ∧ t.link = s.link.withCausesSet 0x08) ∧
          (¬ mismatch → j.state = .locked ∧ j.lockedW = i.lockedW ∧ j.lockedH = i.lockedH ∧ j.oversize = i.oversize ∧
            t.link = if j.halved = i.halved then s.link else s.link.withCausesSet 0x08) ∧
          (oversize → t.channel src = { ch with oversize := count ch.oversize } ∧ j.halved = i.halved ∧
            j.tornRun = i.tornRun ∧ j.cleanRun = i.cleanRun ∧ j.fifo = i.fifo) ∧
          (torn → t.channel src = { ch with torn := count ch.torn } ∧ j.good = i.good ∧
            j.fifo = (i.fifo.filter fun l => l.prior || l.dead) ∧
            (if i.halved = true then j.halved = true ∧ j.tornRun = i.tornRun ∧ j.cleanRun = 0
              else if i.tornRun + 1 < 2 then j.halved = false ∧ j.tornRun = i.tornRun + 1 ∧ j.cleanRun = i.cleanRun
              else j.halved = true ∧ j.tornRun = 0 ∧ j.cleanRun = 0 ∧ exec (.congestionHalved c) s = .next t)) ∧
          (good → t.channel src = ch ∧ j.good = some (i.lockedW, i.lockedH) ∧
            j.fifo = (i.fifo.map fun l => if l.dead then l else { l with prior := true }) ∧
            (if i.halved = false then j.halved = false ∧ j.tornRun = 0 ∧ j.cleanRun = i.cleanRun
              else if i.cleanRun + 1 < 16 then j.halved = true ∧ j.tornRun = i.tornRun ∧ j.cleanRun = i.cleanRun + 1
              else j.halved = false ∧ j.tornRun = 0 ∧ j.cleanRun = 0 ∧ exec (.congestionNormal c) s = .next t)) ∧
          (∃ g, j.frame = some g ∧ g.lines = 0 ∧ g.inLine = false ∧ g.torn = false ∧ g.mismatch = false ∧
            (g.written = true ↔ (torn ∨ good) ∧ (j.halved = false ∨ i.lastWritten = false)) ∧
            (g.skipped = true ↔ (torn ∨ good) ∧ g.written = false)) ∧
          j.loss = 0 ∧ (∀ k : Fin 16, k ≠ c → t.inputs[k] = s.inputs[k]) ∧ (∀ q, q ≠ src → t.channel q = s.channel q) ∧
          (∀ r, r ≠ .capture c → t.port.queue r = s.port.queue r) ∧
          t = { s with inputs := t.inputs, link := t.link, port := { s.port with capture := t.port.capture },
                       sources := { s.sources with channels := t.sources.channels } }) ∧
    ∀ (s : State) (c : Fin 16) (f : CaptureFrame),
      let i := s.inputs[c]
      s.control.part = .running → (s.channel (captureSource c)).desc.enable = true → i.state = .locked →
        i.frame = some f → f.skipped = true → f.written = false →
          ∃ t, exec (.frameStartMark c) s = .next t ∧
            let j := t.inputs[c]
            (∃ g, j.frame = some g ∧ g.lines = 0 ∧ g.inLine = false ∧ g.torn = false ∧ g.mismatch = false ∧
              (g.written = true ↔ i.oversize = false ∧ (i.halved = false ∨ i.lastWritten = false)) ∧
              (g.skipped = true ↔ i.oversize = false ∧ g.written = false) ∧
              (i.oversize = false → j.lastWritten = g.written)) ∧
            j = { i with frame := j.frame, lastWritten := j.lastWritten, loss := 0 } ∧
            (∀ k : Fin 16, k ≠ c → t.inputs[k] = s.inputs[k]) ∧ (∀ r, r ≠ .capture c → t.port.queue r = s.port.queue r) ∧
            t = { s with inputs := t.inputs, port := { s.port with capture := t.port.capture } }

/-- R108, R114 and R115: a line-start mark ends the line before it and begins a line of the frame in progress, which takes
a place in the line FIFO, or, with all four taken, is dropped and tears the frame; a line of another width, or one too many,
marks the frame mismatched; a torn or mismatched frame's lines leave the FIFO. A pixel is counted, and kept at its column
when its line has a place and the column lies below the locked width. Without a frame in progress neither does anything.
That the line of a torn frame keeps its place while its transfer waits is read by inference (notes/assumptions/16.md). -/
def Obligations.LinesAndPixelsFillTheFifo : Prop :=
  ∀ (s : State) (c : Fin 16) (p : Colour),
    let i := s.inputs[c]
    let base := (s.channel (captureSource c)).fillingBase
    let waiting := s.port.queue (.capture c)
    s.control.part = .running → (s.channel (captureSource c)).desc.enable = true →
      (i.frame = none → exec (.lineStartMark c) s = .next s ∧ exec (.pixel c p) s = .next s) ∧
        ∀ f, i.frame = some f →
          (let differs := f.inLine = true ∧ f.written = true ∧ f.pixels ≠ i.lockedW
            let tooMany := f.written = true ∧ i.lockedH ≤ f.lines
            let mismatch := f.mismatch = true ∨ differs ∨ tooMany
            let tears := f.written = true ∧ f.torn = false ∧ ¬ mismatch ∧ 4 ≤ i.fifo.length
            let kept (fifo : List FifoLine) := fifo.filter fun l => l.prior || l.dead
            ∃ t, exec (.lineStartMark c) s = .next t ∧
              (∃ g, (t.inputs[c]).frame = some g ∧ g.lines = min 2401 (f.lines + 1) ∧ g.inLine = true ∧ g.pixels = 0 ∧
                g.width = f.closeLine.width ∧ g.agree = f.closeLine.agree ∧ g.written = f.written ∧ g.skipped = f.skipped ∧
                (g.mismatch = true ↔ mismatch) ∧ (g.torn = true ↔ f.torn = true ∨ tears)) ∧
              (f.written = true → f.torn = false → ¬ mismatch → i.fifo.length < 4 →
                (t.inputs[c]).fifo = i.fifo ++ [⟨f.lines, [], 0, false, false⟩]) ∧
              (f.written = false ∨ (f.torn = true ∨ f.mismatch = true) ∧ ¬ differs ∧ ¬ tooMany →
                (t.inputs[c]).fifo = i.fifo) ∧
              (differs ∨ tooMany → (t.inputs[c]).fifo = kept i.fifo) ∧
              (tears → ∀ l rest, i.fifo = l :: rest →
                (t.inputs[c]).fifo =
                  if l.prior = false ∧ l.dead = false ∧ (waiting.head?.map fun x => x.tag) = some 1 then
                    { l with dead := true } :: kept rest
                  else kept i.fifo) ∧
              ((waiting ≠ [] → ((t.port.queue (.capture c)).map fun x => (x.addr, x.op)) =
                  waiting.map fun x => (x.addr, x.op)) ∧
                (differs ∨ tooMany → waiting ≠ [] → ∀ l rest, i.fifo = l :: rest → l.prior = false → l.dead = false →
                  ∀ x ∈ t.port.queue (.capture c), x.tag = 0) ∧
                (waiting = [] → t.port.queue (.capture c) = ((t.inputs[c]).nextTransfer base).toList)) ∧
              (∀ k : Fin 16, k ≠ c → t.inputs[k] = s.inputs[k]) ∧ (∀ r, r ≠ .capture c → t.port.queue r = s.port.queue r) ∧
              t = { s with inputs := t.inputs, port := { s.port with capture := t.port.capture } }) ∧
            ∃ t, exec (.pixel c p) s = .next t ∧
              (f.inLine = false → t = s) ∧
              (f.inLine = true → (t.inputs[c]).frame = some { f with pixels := min 4097 (f.pixels + 1) } ∧
                (∀ older l, i.fifo = older ++ [l] → l.prior = false → l.dead = false → f.written = true →
                  f.torn = false → f.mismatch = false → f.pixels < i.lockedW →
                    (t.inputs[c]).fifo = older ++ [{ l with pixels := l.pixels ++ [p] }]) ∧
                (f.written = false ∨ f.torn = true ∨ f.mismatch = true ∨ i.lockedW ≤ f.pixels →
                  (t.inputs[c]).fifo = i.fifo) ∧
                t.port.queue (.capture c) =
                  if waiting = [] then ((t.inputs[c]).nextTransfer base).toList else waiting) ∧
              (∀ k : Fin 16, k ≠ c → t.inputs[k] = s.inputs[k]) ∧ (∀ r, r ≠ .capture c → t.port.queue r = s.port.queue r) ∧
              t = { s with inputs := t.inputs, port := { s.port with capture := t.port.capture } }

/-- R114 and R115: the transfers of a line cover its 4 × W bytes at row m of the slot, 16 + 4 × (m × W + k) being pixel k,
cut at the blocks of 256 bytes; an input issues those of its oldest line in order, each once its pixels have arrived, but
none of a new frame before the report of the good frame before it has been taken, and none of a torn frame; a granted one
is counted, the line leaves the FIFO with its last transfer, and the next is issued. A granted transfer of a line that has
gone changes nothing of the FIFO (read by inference, notes/assumptions/16.md). -/
def Obligations.CaptureWritesLinesInOrder : Prop :=
  (∀ base w row : Nat, base % 4096 = 0 →
    let ps := linePieces base w row
    (∀ q ∈ ps, 4 ≤ q.2 ∧ q.1 % 256 + q.2 ≤ 256) ∧
      (ps.flatMap fun q => (List.range q.2).map (q.1 + ·)) = (List.range (4 * w)).map (base + 16 + 4 * (row * w) + ·)) ∧
    (∀ (i : CaptureInput) (base : Nat) (l : FifoLine) (younger : List FifoLine), i.fifo = l :: younger →
      let start := base + 16 + 4 * (l.row * i.lockedW)
      let held := l.dead = true ∨ (l.prior = false ∧ (i.good ≠ none ∨ i.report ≠ none))
      (held → i.nextTransfer base = none) ∧
        ((linePieces base i.lockedW l.row)[l.sent]? = none → i.nextTransfer base = none) ∧
        ∀ addr len, ¬ held → (linePieces base i.lockedW l.row)[l.sent]? = some (addr, len) →
          (start + 4 * l.pixels.length < addr + len → i.nextTransfer base = none) ∧
            (addr + len ≤ start + 4 * l.pixels.length →
              ∃ bytes, i.nextTransfer base = some ⟨addr, .write bytes, 1⟩ ∧ bytes.length = len ∧
                ∀ (n k : Nat) (px : Colour), l.pixels[n]? = some px → addr ≤ start + 4 * n + k → start + 4 * n + k < addr + len →
                  k < 4 → bytes[start + 4 * n + k - addr]? = some ([px.r, px.g, px.b, 0].getD k 0))) ∧
    ∀ (s : State) (c : Fin 16) (x : Transfer) (rest : List Transfer) (k : Fin 3),
      s.port.next (.capture c) → s.port.queue (.capture c) = x :: rest →
      (s.channel (captureSource c)).holdsAt .filling k →
        let i := s.inputs[c]
        let base := (s.channel (captureSource c)).desc.base k
        ∃ t, exec .transferGrant s = .next t ∧
          (x.tag ≠ 1 ∨ i.fifo = [] → t.inputs = s.inputs) ∧
          (x.tag = 1 → ∀ l younger, i.fifo = l :: younger →
            t.inputs = vset s.inputs c
              { i with
                fifo :=
                  if l.dead = true ∨ (linePieces base i.lockedW l.row).length ≤ l.sent + 1 then younger
                  else { l with sent := l.sent + 1 } :: younger }) ∧
          t.port.queue (.capture c) = if rest = [] then ((t.inputs[c]).nextTransfer base).toList else rest

/-- R117, R89 and R90: a good frame none of whose lines is left in the FIFO is reported; when the source unit takes the
report, the FILLING slot becomes READY with the frame's size, the old READY slot, superseded and counted, or else the
SPARE slot becomes FILLING, the sequence advances, and the header is to be written into the frame's slot. That it does so at
once also while a wall frame start waits in the source unit is the model's choice (notes/assumptions/35.md). -/
def Obligations.ReportsArePublished : Prop :=
  ∀ (s : State) (c : Fin 16) (w h : Nat),
    let i := s.inputs[c]
    let src := captureSource c
    let ch := s.channel src
    s.control.part = .running → ch.desc.enable = true →
      (i.good = some (w, h) → (∀ l ∈ i.fifo, l.prior = false) →
          exec (.goodFrameReport c) s =
            .next { s with inputs := vset s.inputs c { i with good := none, report := some (w, h) } }) ∧
        (i.report = some (w, h) → ch.rolesLegal src →
          ∃ t, exec (.capturePublication c) s = .next t ∧
            (∀ k : Fin 3,
              ((t.channel src).roles[k]) =
                if ch.roles[k] = some .filling then some .ready
                else if ch.roles[k] = some .ready then some .filling
                else if (∀ j : Fin 3, ch.roles[j] ≠ some .ready) ∧ ch.slotWith .spare = some k then some .filling
                else ch.roles[k]) ∧
            t.channel src =
              { ch with
                roles := (t.channel src).roles, readyW := w, readyH := h, sequence := ch.sequence + 1,
                superseded :=
                  if (∃ j : Fin 3, ch.roles[j] = some .ready) ∧ ch.superseded ≠ 0xFFFFFFFF then ch.superseded + 1
                  else ch.superseded } ∧
            (∀ k : Fin 3, ch.roles[k] = some .filling →
              t.port.queue (.control sourceUnit) =
                s.port.queue (.control sourceUnit) ++
                  [⟨ch.desc.base k,
                    .write (leBytes 2 (ch.sequence + 1).toNat ++ leBytes 2 w ++ leBytes 2 h ++ List.replicate 10 0), 0⟩]) ∧
            t.inputs = vset s.inputs c { i with report := none } ∧ (∀ q, q ≠ src → t.channel q = s.channel q) ∧
            t.port.queue (.capture c) =
              (if s.port.queue (.capture c) = [] then
                ((t.inputs[c]).nextTransfer (t.channel src).fillingBase).toList
              else s.port.queue (.capture c)) ∧
            (∀ k : Fin 16, k ≠ c → t.port.queue (.capture k) = s.port.queue (.capture k)) ∧
            t = { s with
              inputs := t.inputs, sources := { s.sources with channels := t.sources.channels }
              port := { s.port with
                control := vset s.port.control sourceUnit (t.port.queue (.control sourceUnit)), capture := t.port.capture } })

/-! ## The band builder and the request ring -/

/-- R42, R48, R49, R51, R55 and R58: the builder finishes the first enabled tile not yet built; its pool allowance is 6144,
less the spans that the tiles before it hold in the shadow, less one for each enabled tile after it. A table that is kept
joins the shadow, and the build is complete after the last enabled tile; a GROUP build that fails is discarded and counted,
its group is aborted with TOO_COMPLEX, the tile and the limit code, and an ALARM build follows when the raised set has moved
on. The widths of the writes of the return are read by inference (notes/assumptions/12.md, 27.md). -/
def Obligations.TileBuiltKeepsOrFails : Prop :=
  ∀ (s : State) (kind : BuildKind) (n : Nat) (k : Fin 16) (shadow : Bank),
    s.builder.state = .building kind n → s.builder.shadow = some shadow →
      n ≤ k.val → (s.tile k).enable = true → (∀ j : Fin 16, n ≤ j.val → j < k → (s.tile j).enable = false) →
        let table := (match kind with | .group => s.ring.draft | .alarm => s.live)
        let result := buildTile kind (s.tile k) table shadow.builtWith (poolAllowance s.cfg shadow k)
        let taken := (((List.finRange 16).filter fun u => decide (u < k)).map fun u =>
          match shadow.tiles[u] with
          | some built => (built.bands.map fun b => b.spans.length).sum
          | none => 0).sum
        let later := ((List.finRange 16).filter fun u => decide (k < u) && (s.tile u).enable).length
        poolAllowance s.cfg shadow k = 6144 - (taken + later) ∧
        (∀ kept, result = .kept kept →
          exec .tileBuilt s =
            .next { s with
              builder := { s.builder with
                shadow := some { shadow with tiles := vset shadow.tiles k (some kept) }
                state :=
                  if ∃ j : Fin 16, k < j ∧ (s.tile j).enable = true then .building kind (k.val + 1)
                  else .donePending kind } }) ∧
          ∀ (code : Nat) (others : List Held) (last : Held), result = .failed code → s.ring.held = others ++ [last] →
            s.ring.kept = [] →
              ∃ t, exec .tileBuilt s = .next t ∧
                (if raisedSet s.alarms = s.builder.activeSet then t.builder.state = .idle ∧ t.builder.shadow = none
                  else t.builder.state = .building .alarm 0 ∧
                    t.builder.shadow = some ⟨raisedSet s.alarms, Vector.replicate 16 none⟩) ∧
                (t.builder.failed = (if s.builder.failed = 0xFFFFFFFF then s.builder.failed else s.builder.failed + 1) ∧
                  t.builder.active = s.builder.active ∧ t.builder.built = s.builder.built) ∧
                ({ s with builder := t.builder }).abortedGroup t others
                  { last with result := 10, detail := BitVec.ofNat 32 (k.val + 256 * code) } false

/-- R145, R160, R169, R171 and R172: a NOP, SAVE_SCENE, FREEZE or CLEAR_ALARM slot whose fields are in range is held with
DONE and detail 0; a save, a freeze or a clear joins its pending list; the draft table stays. R28, R29, R31, R161, R162 and
R164: PUT_WINDOW with a record in range replaces the record of its id, or adds it on top of the stack; REMOVE_WINDOW takes a
present id out of the table; CLEAR_WALL empties it. Their details are whether the id was present, the position it had, and
the number of windows there were. That a SAVE_SCENE and a CLEAR_ALARM, of which the detail is decided later (R159), are held
with 0 until then is the model's (notes/assumptions/40.md). That after a slot with CHAIN set the look at once goes before a
kept look event is the model's (notes/assumptions/28.md). -/
def Obligations.SlotsHeldWithDone : Prop :=
  ∀ (s : State) (slot : List Byte), s.hasRoom → s.nothingKept slot →
    let g := s.ring
    (s.hasFound slot 0 → ∃ t, exec .nop s = .next t ∧ s.tookSlot t slot 0 0 g) ∧
      (s.hasFound slot 5 → ∀ n : Fin 16, (slot.getD 16 0).toNat = n.val →
        ∃ t, exec .saveScene s = .next t ∧ s.tookSlot t slot 5 0 { g with pendingSaves := g.pendingSaves ++ [n] }) ∧
      (s.hasFound slot 6 → ∀ n : Fin 32, (slot.getD 16 0).toNat = n.val → ∀ on : Bool,
        (slot.getD 17 0).toNat = (if on then 1 else 0) →
          ∃ t, exec .freeze s = .next t ∧
            s.tookSlot t slot 6 0 { g with pendingSources := g.pendingSources ++ [.freeze n on] }) ∧
      (s.hasFound slot 7 → ∀ n : Fin 8, (slot.getD 16 0).toNat = n.val →
        ∃ t, exec .clearAlarm s = .next t ∧
          s.tookSlot t slot 7 0 { g with pendingClears := g.pendingClears ++ [(g.held.length, n)] }) ∧
      (∀ (i : Fin 64) (w : WindowRec), s.hasFound slot 2 → w = windowAt slot 16 → w.inRange → w.id = i.val →
          ∃ t, exec .putWindow s = .next t ∧
            s.tookSlot t slot 2 (if (g.draft.records[i]).isSome then 1 else 0)
              { g with draft :=
                { records := vset g.draft.records i (some w)
                  stack := if (g.draft.records[i]).isSome then g.draft.stack else g.draft.stack ++ [i] } }) ∧
        (∀ i : Fin 64, s.hasFound slot 3 → (slot.getD 16 0).toNat = i.val → (g.draft.records[i]).isSome = true →
          ∃ t, exec .removeWindow s = .next t ∧
            s.tookSlot t slot 3 (g.draft.stack.idxOf i)
              { g with draft := ⟨vset g.draft.records i none, g.draft.stack.filter fun j => j != i⟩ }) ∧
        (s.hasFound slot 9 →
          ∃ t, exec .clearWall s = .next t ∧ s.tookSlot t slot 9 g.draft.stack.length { g with draft := Table.empty })

/-- R30, R163, R32, R166 to R168, R173 to R175: RESTACK moves a present id to the top, the bottom, directly above or directly
below its reference and returns its new position; TAKE_SCENE replaces the draft by a scene that passes its checks and returns
its window count; SOURCE_CONFIG keeps a descriptor that passes its check for the commit. That a descriptor with enable clear
keeps what the slot has in its other fields, which R173 does not read, is the model's (39.md). That NEXT and the chain wait
move once the scene has been read is the model's (notes/assumptions/37.md). That after a slot with CHAIN set the look at once
goes before a kept look event is the model's (notes/assumptions/28.md). -/
def Obligations.SlotsThatRestackTakeOrConfigure : Prop :=
  ∀ (s : State) (slot : List Byte), s.hasRoom → s.nothingKept slot →
    let g := s.ring
    (∀ i : Fin 64, s.hasFound slot 4 → (slot.getD 16 0).toNat = i.val → g.draft.wellFormed → i ∈ g.draft.stack →
        let rest := g.draft.stack.filter fun j => j != i
        let moved (p : Nat) (stack : List (Fin 64)) : Prop :=
          (slot.getD 17 0).toNat = p →
            ∃ t, exec .restack s = .next t ∧
              s.tookSlot t slot 4 (stack.idxOf i) { g with draft := { g.draft with stack := stack } }
        moved 0 (rest ++ [i]) ∧ moved 1 (i :: rest) ∧
          ∀ (ref : Fin 64) (lower upper : List (Fin 64)), (slot.getD 18 0).toNat = ref.val → ref ≠ i →
            rest = lower ++ ref :: upper →
              moved 2 (lower ++ ref :: i :: upper) ∧ moved 3 (lower ++ i :: ref :: upper)) ∧
      (∀ (cause : LookCause) (scene : List Byte), s.control.part = .running →
        s.ring.state = .collecting → s.ring.look = .scene cause slot scene →
        (slot.getD 2 0).toNat = 1 → (slot.getD 16 0).toNat ≤ 15 → 4096 ≤ scene.length → sceneFault scene = none →
          ∃ t, exec .takeScene s = .next t ∧
            s.tookSlot t slot 1 (scene.getD 12 0).toNat { g with draft := sceneTable scene }) ∧
      ∀ src : Fin 32, s.hasFound slot 8 → (slot.getD 16 0).toNat = src.val →
        let d := descriptorAt slot 20
        descriptorFault (controlAreas s.link.areaBase.toNat s.cfg) ((List.finRange 32).map fun q => (q, g.draftDescs[q])) src d =
            none →
          ∃ t, exec .sourceConfig s = .next t ∧
            s.tookSlot t slot 8 0
              { g with draftDescs := vset g.draftDescs src d, pendingSources := g.pendingSources ++ [.config src d] }

/-- R145, R147, R148 and R158 to R174: a slot that fails its check, has a kind above 9, or comes after as many held slots as
the group length limit aborts the group: every slot before it gets GROUP_ABORTED, it gets its own result and detail, NEXT
moves past it (for TAKE_SCENE once its scene has been read, which is the model's: notes/assumptions/37.md), and the rest of
its chain is skipped when its CHAIN is set. The details of kinds 1, 2 and 8 are those of `sceneFault`, `WindowRec.fault` and
`descriptorFault`, which `RefusalDetails` holds against R167, R161 and R174. The widths of the writes of the return are read
by inference (notes/assumptions/12.md, 27.md). -/
def Obligations.RefusedSlotsAbortTheGroup : Prop :=
  (∀ (s : State) (slot : List Byte) (kind : Nat) (c : Instr), s.hasFound slot kind → s.ring.kept = [] →
    ((c, kind) ∈ [(Instr.nop, 0), (.takeScene, 1), (.putWindow, 2), (.removeWindow, 3), (.restack, 4), (.saveScene, 5),
        (.freeze, 6), (.clearAlarm, 7), (.sourceConfig, 8), (.clearWall, 9)] ∨ (c = .badKind ∧ 9 < kind)) →
      let g := s.ring
      let param (n : Nat) : Nat := (slot.getD n 0).toNat
      let refused (code detail : Nat) : Prop :=
        ∃ t, exec c s = .next t ∧ t.ring.next = (s.ring.next + 1) % 2 ^ s.cfg.ringCode ∧
          s.abortedGroup t g.held ⟨s.ring.next, kind, code, BitVec.ofNat 32 detail⟩ (chainSet slot)
      (¬ s.hasRoom → refused 8 0) ∧
        (s.hasRoom →
          (9 < kind → refused 3 0) ∧ (kind = 1 → 15 < param 16 → refused 4 16) ∧
            (kind = 2 → ∀ off, (windowAt slot 16).fault = some off → refused 4 (16 + off)) ∧ (kind = 3 → 63 < param 16 → refused 4 16) ∧
            (kind = 3 → ∀ i : Fin 64, param 16 = i.val → (g.draft.records[i]).isSome = false → refused 5 i.val) ∧
            (kind = 4 → 63 < param 16 → refused 4 16) ∧
            (kind = 4 → ∀ i : Fin 64, param 16 = i.val →
              (3 < param 17 → refused 4 17) ∧
                ((param 17 = 2 ∨ param 17 = 3) → 63 < param 18 → refused 4 18) ∧
                ((param 17 ≤ 1 ∨ (param 17 ≤ 3 ∧ param 18 ≤ 63)) → (g.draft.records[i]).isSome = false → refused 5 i.val) ∧
                ((param 17 = 2 ∨ param 17 = 3) → (g.draft.records[i]).isSome = true → ∀ ref : Fin 64, param 18 = ref.val →
                  (ref = i ∨ (g.draft.records[ref]).isSome = false) → refused 4 18)) ∧
            (kind = 5 → 15 < param 16 → refused 4 16) ∧ (kind = 6 → 31 < param 16 → refused 4 16) ∧
            (kind = 6 → param 16 ≤ 31 → 1 < param 17 → refused 4 17) ∧ (kind = 7 → 7 < param 16 → refused 4 16) ∧
            (kind = 8 → 31 < param 16 → refused 4 16) ∧
            (kind = 8 → ∀ src : Fin 32, param 16 = src.val → ∀ detail,
              descriptorFault (controlAreas s.link.areaBase.toNat s.cfg)
                  ((List.finRange 32).map fun q => (q, g.draftDescs[q])) src (descriptorAt slot 20) = some detail →
                refused 7 detail))) ∧
    ∀ (s : State) (cause : LookCause) (slot scene : List Byte) (detail : Nat), s.control.part = .running →
      s.ring.state = .collecting → s.ring.look = .scene cause slot scene → s.ring.kept = [] →
      s.hasRoom → (slot.getD 2 0).toNat = 1 → (slot.getD 16 0).toNat ≤ 15 → 4096 ≤ scene.length →
      sceneFault scene = some detail →
        ∃ t, exec .takeScene s = .next t ∧ t.ring.next = (s.ring.next + 1) % 2 ^ s.cfg.ringCode ∧
          s.abortedGroup t s.ring.held ⟨s.ring.next, 1, 6, BitVec.ofNat 32 detail⟩ (chainSet slot)

/-- R146 and R149: a look that finds slot NEXT not posted leaves NEXT and, when a wall frame start made it in COLLECTING or
SKIPPING, counts toward the chain wait; at 8 the chain times out: a collected group is aborted, its last slot with
CHAIN_TIMEOUT and the others with GROUP_ABORTED, and a skipped chain ends with nothing returned. That the timeout is a
command of its own, and that the counter stays as it is in IDLE and at the end of a skipped chain, is the model's
(notes/assumptions/19.md); the widths of the writes of the return, 9 and 4 bytes, are read by inference (12.md, 27.md). -/
def Obligations.UnpostedSlotsCountToTimeout : Prop :=
  (∀ (s : State) (cause : LookCause) (slot : List Byte), s.control.part = .running →
    (s.ring.state = .idle ∨ s.ring.state = .collecting ∨ s.ring.state = .skipping) →
    s.ring.look = .found cause slot → slot.getD 0 0 = 0 → s.ring.kept = [] →
      let counts := (∃ n, cause = .frame n) ∧ s.ring.state ≠ .idle
      exec .slotNotPosted s =
        .next { s with
          ring := { s.ring with
            wait := if counts then s.ring.wait + 1 else s.ring.wait
            look := if counts ∧ 8 ≤ s.ring.wait + 1 then .timeout else .none } }) ∧
    (∀ (s : State) (others : List Held) (last : Held), s.control.part = .running → s.ring.state = .collecting →
      s.ring.look = .timeout → s.ring.kept = [] → s.ring.held = others ++ [last] →
        ∃ t, exec .chainTimeout s = .next t ∧ t.ring.next = s.ring.next ∧
          s.abortedGroup t others { last with result := 9, detail := 0 } false) ∧
    ∀ s : State, s.control.part = .running → s.ring.state = .skipping → s.ring.look = .timeout → s.ring.kept = [] →
      exec .skipTimeout s = .next { s with ring := { s.ring with state := .idle, look := .none } }

/-- R149, R150, R154, R157 and R142: once the port has granted every write of a skipped slot, of a committed or of an
aborted group, GROUP_DONE is set and the processor looks at slot NEXT at once: past a skipped slot, which ends the skipping
when its CHAIN is clear, and in IDLE, or in SKIPPING after an abort whose slot had CHAIN set. That these ends wait for the
grants is read from the rules by inference (notes/assumptions/17.md, 18.md), and so is that the pending saves end there
(26.md); that the look at once goes before a look event that was kept is the model's (28.md), and so is that the chain wait
becomes 0 in IDLE too (19.md) and the mark of a group with edits stays (26.md). -/
def Obligations.ReturnsEndWithGroupDone : Prop :=
  ∀ s : State, s.control.part = .running → s.port.queue (.control ringProcessor) = [] →
    let looksOn (c : Instr) (r : Ring) : Prop :=
      exec c s =
        .next { s with
          ring := { r with look := .reading .atOnce }
          link := s.link.withCausesSet 0x04
          port := s.port.issue (.control ringProcessor) (readTransfers (s.cfg.ringBase + 64 * r.next) 64 0) }
    (∀ cause slot, s.ring.state = .skipping → s.ring.look = .skip cause slot →
        looksOn .skippedSlot
          { s.ring with
            next := (s.ring.next + 1) % 2 ^ s.cfg.ringCode, wait := 0
            state := if chainSet slot then .skipping else .idle }) ∧
      (s.ring.state = .writingBack → s.ring.returning = .committed →
        looksOn .writeBackDone { s.ring with state := .idle, held := [], pendingSaves := [], wait := 0 }) ∧
      ∀ skip, s.ring.state = .writingBack → s.ring.returning = .aborted skip →
        looksOn .abortReturnDone
          { s.ring with state := if skip then .skipping else .idle, held := [], pendingSaves := [], wait := 0 }

/-! ## A wall frame start in the source unit, the status writer and the tile engines -/

/-- R92 to R97: at a wall frame start that it takes at once the source unit commits the group's items, reads the header of
every enabled memory source that is not frozen, and does the steps 2 to 4 of every other source: a READY slot that is not
frozen is shown, otherwise a frame on view may expire; then the presentation is decided. SOURCE_EVENT is set by an expiry, a
change of presentation and the reset of an input with a signal (R121). That the reads come in ascending source number is
the model's (notes/assumptions/31.md), and so is the size that an expired source shows (22.md) and the one kept with no
READY slot (33.md).
This is a start with which no millisecond interval arrives (with one: MillisecondIntervalActsOnEveryUnit). -/
def Obligations.SourceUnitTakesTheFrame : Prop :=
  ∀ (order : FrameOrder) (s : State), order.interval = none → s.readyForFrame → s.rolesLegal →
    ∃ t, exec (.wallFrameStart order) s = .next t ∧ s.sourcesTake t ⟨true, s.itemsCommitted, 0⟩ ∧ t.sources.frames = []

/-- R92 step 1, R100 to R102, R88, R121 and R153: the items of a group act on their sources in the order their slots were
taken: a freeze sets or clears the flag of an enabled source, an enabled descriptor puts its source into the initial state, a
disabled one leaves it its counters; at the commit's wall frame start each capture input whose source is configured is in
NO_SIGNAL with its frame abandoned, its waiting transfer carried out (read by inference, notes/assumptions/16.md), and no
other input changes. What a source not in use holds beside its counters, the fields of a disabled descriptor beside its
enable (39.md) among it, and that a configured capture source's expected tag is 0, is the model's (33.md, 25.md). The wall
frame start is one with which no millisecond interval arrives (with one: MillisecondIntervalActsOnEveryUnit). -/
def Obligations.CommittedItemsActInOrder : Prop :=
  (∀ (src : Fin 32) (c : Source), c.commit src [] = { c with before := c.presentation }) ∧
    (∀ (src : Fin 32) (c : Source) (items : List SourceItem) (item : SourceItem),
      let before := c.commit src items
      c.commit src (items ++ [item]) =
        match item with
        | .freeze q on => if q = src ∧ before.desc.enable = true then { before with frozen := on } else before
        | .config q d =>
          if q = src then (if d.enable then before.restarted src d else before.switchedOff d) else before) ∧
    ∀ (order : FrameOrder) (s : State), order.interval = none → s.readyForFrame →
      ∃ t, exec (.wallFrameStart order) s = .next t ∧ s.inputsTake t s.itemsCommitted

/-- R191, R192, R58, R60, R62, R107, R123, R137, R141: at a wall frame start the status writer abandons the rest of the old
page and copies what each block holds once it has taken that start: the wall frame number, the builder and its marks (with
DONE_PENDING for a build that completes just after), the tile entries, NEXT and the alarm entries; a source's entry once
its channel has done its work. The page is issued when no source has a header left to judge. That NEXT is copied before the
look of the same wall frame start has read its slot is the model's choice (notes/assumptions/34.md). Left out is the order in
which clears commit before the swap (5.md).
This is a start with which no millisecond interval arrives (with one: MillisecondIntervalActsOnEveryUnit). -/
def Obligations.StatusWriterCopiesTheFrame : Prop :=
  ∀ (order : FrameOrder) (s : State), order.interval = none → s.readyForFrame →
    (order.setFirst = true → s.ring.state = .awaitingCommit → s.ring.edits = true) →
      let completes (kind : BuildKind) (shadow : Bank) (k : Fin 16) (table : TileTable) : Prop :=
        shadow = s.builder.shadowBank ∧ (s.tile k).enable = true ∧
          (∃ n, s.builder.state = .building kind n ∧ n ≤ k.val ∧
            ∀ j : Fin 16, n ≤ j.val → j ≠ k → (s.tile j).enable = false) ∧
          buildTile kind (s.tile k) (match kind with | .group => s.ring.draft | .alarm => s.live) shadow.builtWith
            (poolAllowance s.cfg shadow k) = .kept table
      ∃ t, exec (.wallFrameStart order) s = .next t ∧
        let c := t.status
        ((∀ kind, s.builder.state = .donePending kind → c.builder = .idle) ∧
            ((∀ kind, s.builder.state ≠ .donePending kind) →
              (order.lastTile = false ∨ ∀ kind shadow k table, ¬ completes kind shadow k table) → c.builder = s.builder.state) ∧
            (order.lastTile = true → ∀ kind shadow k table, completes kind shadow k table →
              c.builder = .donePending kind ∧
                ((s.ring.state = .awaitingCommit → s.ring.edits = true) →
                  t.builder =
                    { s.builder with
                      state := .donePending kind
                      shadow := some { shadow with tiles := vset shadow.tiles k (some table) } }))) ∧
          (c.number = s.frameNo + 1 ∧ c.next = t.ring.next ∧ c.raised = raisedSet t.alarms ∧
            (∀ i : Fin 8, c.alarms[i] = ((t.alarms[i]).state, (t.alarms[i]).level)) ∧
            c.builtWith = (match t.builder.active with | some bank => bank.builtWith | none => 0) ∧
            c.built = t.builder.built ∧ c.failed = t.builder.failed) ∧
          (∀ k : Fin 16,
            (c.fallback.getLsbD k.val = true ↔ (s.tile k).enable = true ∧ t.activeMark k = .fallback) ∧
              (c.degraded.getLsbD k.val = true ↔ (s.tile k).enable = true ∧ t.activeMark k = .degraded) ∧
              c.tiles[k] =
                if (s.tile k).enable then
                  { late := (s.engines[k]).late, bands := (t.activeBands k).length
                    spans := ((t.activeBands k).map fun b => b.spans.length).sum, enabled := true, mark := t.activeMark k }
                else ⟨0, 0, 0, false, .normal⟩) ∧
          (∀ k : Fin 16, c.inputs[k] = (t.inputs[k]).reported) ∧
          (∀ src : Fin 32,
            c.sources[src] =
              if src ∈ t.sources.toJudge then s.status.sources[src]
              else reportedEntry src (t.channel src) (t.inputs[captureOf src]).reported) ∧
          t.port.queue (.control statusWriter) =
            if t.sources.toJudge = [] then pageTransfers t.cfg.statusBase c else []

/-- R63 to R66, R72 and R8: at a wall frame start the scaler states and presentations of the wall frame before are
discarded; those of the new one are formed, and row 0 of every enabled tile begins its fetches, once the source unit has no
header left to judge and no later wall frame start to begin: at once, or at the judgement of the last header, with which the
page is issued (R191). Until then no view is formed and no page issued.
This is a start with which no millisecond interval arrives (with one: MillisecondIntervalActsOnEveryUnit). -/
def Obligations.ViewIsFormedOnceSourcesAreDone : Prop :=
  (∀ (order : FrameOrder) (s : State), order.interval = none → s.readyForFrame →
    ∃ t, exec (.wallFrameStart order) s = .next t ∧
      (t.sources.toJudge = [] →
        ∃ before : Vector TileEngine 16, t.frameIsReady before ∧
          ∀ k : Fin 16, (s.tile k).enable = true → (before[k]).composing = some ⟨0, false, false, []⟩) ∧
      (t.sources.toJudge ≠ [] →
        t.view = none ∧ t.port.queue (.control statusWriter) = [] ∧
          ∀ k : Fin 16, t.port.queue (.tile k) = [] ∧
            ((s.tile k).enable = true → (t.engines[k]).composing = some ⟨0, false, false, []⟩))) ∧
    ∀ (s : State) (m : Fin 16) (header : List Byte),
      let src : Fin 32 := memorySource m
      s.control.part = .running → src ∈ s.sources.toJudge →
        s.sources.headers.find? (fun p => p.1 == src) = some (src, header) →
          ∃ t, exec (.memoryHeaderRead m) s = .next t ∧
            (t.sources.toJudge = [] → t.sources.frames = [] → t.frameIsReady s.engines) ∧
            (t.sources.toJudge ≠ [] ∨ t.sources.frames ≠ [] →
              t.view = s.view ∧ t.engines = s.engines ∧
                t.port.queue (.control statusWriter) = s.port.queue (.control statusWriter) ∧
                ∀ k : Fin 16, t.port.queue (.tile k) = s.port.queue (.tile k))

/-! ## Kept look events and the details of refusals -/

/-- R142, R92, R62, R123, R129, R137, R151 and R152: a wall frame start that comes in the middle of a look is kept, and the
source unit and the alarm contact unit wait with it, while the page holds the capture inputs as they stand at that start;
when a look finds its slot not posted, or a group is complete, the kept events are taken, oldest first, until one reads the
ring: an ATTEND in AWAITING_COMMIT or WRITING_BACK reads nothing, a kept wall frame start commits a group without edits with
its own number; the status copy then takes NEXT, the raised set and the alarm entries, and after it the alarm unit makes the
moves of what came after that start, of which ALARM_EVENT was set as it came; where a later start is kept too, whose copy
holds the builder as it stood then, a change of the raised set in that work shows in the copy as the build it starts. How a
kept start and the units' work meet is read by inference, and the order in which kept events are taken and the moment of the
copy of NEXT are the model's (notes/assumptions/20.md, 21.md, 34.md), and so are the widths of the writes of the return, the
emptied draft, the pending saves that stay and the draft descriptors (12.md, 26.md, 27.md). The wall frame start is one with
which no millisecond interval arrives (with one: MillisecondIntervalActsOnEveryUnit). -/
def Obligations.KeptLookEventsAreServed : Prop :=
  (∀ (order : FrameOrder) (s : State), order.interval = none → s.control.part = .running → s.ring.look ≠ .none →
    s.builder.state ≠ .donePending .group → (order.setFirst = true → s.ring.state = .awaitingCommit → s.ring.edits = true) →
      ∃ t, exec (.wallFrameStart order) s = .next t ∧
        t.ring = { s.ring with kept := s.ring.kept ++ [.frame (s.frameNo + 1)] } ∧
        t.sources = { s.sources with frames := s.sources.frames ++ [⟨false, [], 0⟩] } ∧
        (t.view = none ∧ t.port.queue (.control statusWriter) = [] ∧
          t.port.queue (.control ringProcessor) = s.port.queue (.control ringProcessor)) ∧
        t.frameNo = s.frameNo + 1 ∧ t.alarms = s.alarms ∧ t.alarmsLater = s.alarmsLater ++ [[]] ∧ t.live = s.live ∧ t.inputs = s.inputs ∧
        ∀ k : Fin 16, t.status.inputs[k] = (s.inputs[k]).reported) ∧
    (∀ (s : State) (cause : LookCause) (slot : List Byte), s.control.part = .running →
      (s.ring.state = .idle ∨ s.ring.state = .collecting ∨ s.ring.state = .skipping) →
      s.ring.look = .found cause slot → slot.getD 0 0 = 0 →
        let counts := (∃ n, cause = .frame n) ∧ s.ring.state ≠ .idle
        ¬ (counts ∧ 8 ≤ s.ring.wait + 1) →
          exec .slotNotPosted s =
            .next ({ s with
              ring := { s.ring with wait := if counts then s.ring.wait + 1 else s.ring.wait, look := .none } }).settleLooks) ∧
    (∀ (s : State) (slot : List Byte), s.hasRoom → s.hasFound slot 0 → chainSet slot = false →
      let g := s.ring
      exec .nop s =
        .next ({ s with
          ring := { g with
            state := .awaitingCommit, next := (s.ring.next + 1) % 2 ^ s.cfg.ringCode, wait := 0, look := .none
            held := g.held ++ [(⟨s.ring.next, 0, 1, 0⟩ : Held)] }
          builder :=
            if g.edits then
              { s.builder with
                state := .building .group 0
                shadow := some { builtWith := raisedSet s.alarms, tiles := Vector.replicate 16 none } }
            else s.builder }).settleLooks) ∧
    ∀ (s : State) (ev : LookCause) (rest : List LookCause), s.ring.look = .none → s.ring.kept = ev :: rest →
      let reads := s.ring.state = .idle ∨ s.ring.state = .collecting ∨ s.ring.state = .skipping
      let t := s.settleLooks
      let steps := s.alarmsLater.headD []
      let later := s.alarmsLater.tail
      let more := rest.any LookCause.isFrame
      (reads →
        t.ring = { s.ring with look := .reading ev, kept := rest } ∧
          t.port.queue (.control ringProcessor) =
            s.port.queue (.control ringProcessor) ++ readTransfers (s.cfg.ringBase + 64 * s.ring.next) 64 0 ∧
          ((∀ n, ev ≠ .frame n) →
            t = { s with
              ring := t.ring
              port := s.port.issue (.control ringProcessor) (readTransfers (s.cfg.ringBase + 64 * s.ring.next) 64 0) }) ∧
          ((∃ n, ev = .frame n) →
            ∃ u : State, u.alarms = s.alarms ∧ u.builder = s.builder ∧ u.alarmsLater = later ∧ u.stepsInto t more steps ∧
              (u.status.next = s.ring.next ∧ u.status.raised = raisedSet s.alarms ∧
                ∀ i : Fin 8, u.status.alarms[i] = ((s.alarms[i]).state, (s.alarms[i]).level)) ∧
              (s.sources.toJudge = [] → ∀ k, s.sources.frames = [⟨false, [], k⟩] →
                u.sources.frames = [] ∧
                  (∀ src : Fin 32, src.val < 16 → (s.channel src).desc.enable = true →
                    let e := u.status.sources[src]
                    (⟨e.capture, e.halved, e.oversizeFlag, e.width, e.height⟩ : InputEntry) =
                      s.status.inputs[captureOf src]) ∧
                  (u.sources.toJudge = [] →
                    u.port.queue (.control statusWriter) = pageTransfers s.cfg.statusBase u.status)))) ∧
        (¬ reads → (∀ n, ev ≠ .frame n) → t = ({ s with ring := { s.ring with kept := rest } }).settleLooks) ∧
        ((s.ring.state = .writingBack ∨ (s.ring.state = .awaitingCommit ∧ s.ring.edits = true)) →
          t.ring = { s.ring with kept := [] } ∧
            t.port.queue (.control ringProcessor) = s.port.queue (.control ringProcessor)) ∧
        ∀ n, ev = .frame n → s.ring.state = .awaitingCommit → s.ring.edits = false →
          ∃ u v : State, ({ s with ring := { s.ring with kept := [] } }).groupCommitted u n s.live ∧
            (u.status.raised = raisedSet u.alarms ∧
              ∀ i : Fin 8, u.status.alarms[i] = ((u.alarms[i]).state, (u.alarms[i]).level)) ∧
            (({ u with alarmsLater := later }).copyShows more (raisedSet s.alarms)).stepsInto v more steps ∧
            t = ({ v with ring := { v.ring with kept := rest } }).settleLooks

/-- R158, R161 and R198, R167 and R199, R174: the checks behind the refusals of PUT_WINDOW, TAKE_SCENE and SOURCE_CONFIG
report the first failing field of a record in layout order, the first failing check of a scene in the order of R167, and
the first failing check of a descriptor's slots in the order of R174, each with the detail of its table. -/
def Obligations.RefusalDetails : Prop :=
  (∀ w : WindowRec, w.source ≤ 255 →
    let fields : List (Nat × Prop) :=
      [(0, w.id ≤ 63), (2, w.source ≤ 31 ∨ w.source = 255), (4, w.x ≤ 16383), (6, w.y ≤ 16383),
        (8, 1 ≤ w.w ∧ w.w ≤ 16383 ∧ w.x + w.w ≤ 16384), (10, 1 ≤ w.h ∧ w.h ≤ 16383 ∧ w.y + w.h ≤ 16384),
        (12, w.sx ≤ 4095), (14, w.sy ≤ 2399), (16, w.sw ≤ 4096 ∧ w.sx + w.sw ≤ 4096),
        (18, w.sh ≤ 2400 ∧ w.sy + w.sh ≤ 2400), (20, w.border ≤ 15)]
    (w.fault = none ↔ w.inRange) ∧
      ∀ off, w.fault = some off ↔
        ∃ before ok after, fields = before ++ (off, ok) :: after ∧ ¬ ok ∧ ∀ p ∈ before, p.2) ∧
    (∀ scene : List Byte,
      let entry (p : Nat) : Nat := (scene.getD (16 + p) 0).toNat
      let present (i : Nat) : Bool := (scene.getD (4 + i / 8) 0).getLsbD (i % 8)
      let count := (scene.getD 12 0).toNat
      let badEntry (p : Nat) : Prop := 63 < entry p ∨ present (entry p) = false ∨ ∃ q, q < p ∧ entry q = entry p
      let recordFault (i : Nat) : Option Nat :=
        let w := windowAt scene (128 + 32 * i)
        if w.id ≠ i then some 0 else w.fault
      (field scene 0 4 ≠ 0x43535741 → sceneFault scene = some 1) ∧
        (field scene 0 4 = 0x43535741 →
          (count ≠ ((List.range 64).filter present).length → sceneFault scene = some (2 + 256 * count)) ∧
            (count = ((List.range 64).filter present).length →
              (∀ p, p < count → badEntry p → (∀ q, q < p → ¬ badEntry q) →
                  sceneFault scene = some (3 + 256 * p + 65536 * entry p)) ∧
                ((∀ p, p < count → ¬ badEntry p) →
                  (∀ i off, i < 64 → present i = true → recordFault i = some off →
                      (∀ j, j < i → present j = true → recordFault j = none) →
                        sceneFault scene = some (4 + 256 * i + 65536 * off)) ∧
                    ((∀ i, i < 64 → present i = true → recordFault i = none) → sceneFault scene = none))))) ∧
    ∀ (areas : List (Nat × Nat)) (drafts : Fin 32 → Descriptor) (src : Fin 32) (d : Descriptor),
      let fault := descriptorFault areas ((List.finRange 32).map fun q => (q, drafts q)) src d
      let len := d.size * 4096
      let meets (k : Fin 3) (q : Fin 32) : Prop :=
        q ≠ src ∧ (drafts q).enable = true ∧
          ∃ j ∈ slotsInUse q, ¬ apart (d.base k) len ((drafts q).base j) ((drafts q).size * 4096)
      let bad (k : Fin 3) (reason : Nat) : Prop :=
        (reason = 2 ∧ d.base k % 4096 ≠ 0) ∨ (reason = 3 ∧ 4294967296 < d.base k + len) ∨
          (reason = 4 ∧ ∃ j ∈ slotsInUse src, j < k ∧ ¬ apart (d.base k) len (d.base j) len) ∨
          (reason = 5 ∧ ∃ a ∈ areas, ¬ apart (d.base k) len a.1 a.2) ∨ (reason = 6 ∧ ∃ q, meets k q)
      (d.enable = false → fault = none) ∧
        (d.enable = true → (d.size < 5 ∨ 9601 < d.size) → fault = some 1) ∧
        (d.enable = true → 5 ≤ d.size → d.size ≤ 9601 →
          ((∀ k ∈ slotsInUse src, ∀ reason, ¬ bad k reason) → fault = none) ∧
            ∀ k ∈ slotsInUse src, ∀ reason, bad k reason →
              (∀ j ∈ slotsInUse src, j < k → ∀ r, ¬ bad j r) → (∀ r, r < reason → ¬ bad k r) →
                (reason < 6 → fault = some (reason + 256 * k.val)) ∧
                  (reason = 6 → ∀ q : Fin 32, meets k q → (∀ p : Fin 32, p < q → ¬ meets k p) →
                    fault = some (6 + 256 * k.val + 65536 * q.val)))
end

