-- ==== Sys2Proof/Laws/State.lean ====
section
/-! SUPPORT. One lemma for each field of State under each of its updates: what an update sets and what it leaves alone. -/

namespace Sys2Proof.Machine

@[simp] theorem State.withControl_control (s : State) (v : Control) : (s.withControl v).control = v := rfl
@[simp] theorem State.withControl_link (s : State) (v : Control) : (s.withControl v).link = s.link := rfl
@[simp] theorem State.withControl_mem (s : State) (v : Control) : (s.withControl v).mem = s.mem := rfl
@[simp] theorem State.withControl_port (s : State) (v : Control) : (s.withControl v).port = s.port := rfl
@[simp] theorem State.withControl_config (s : State) (v : Control) : (s.withControl v).config = s.config := rfl
@[simp] theorem State.withControl_frameNo (s : State) (v : Control) : (s.withControl v).frameNo = s.frameNo := rfl
@[simp] theorem State.withControl_live (s : State) (v : Control) : (s.withControl v).live = s.live := rfl
@[simp] theorem State.withControl_builder (s : State) (v : Control) : (s.withControl v).builder = s.builder := rfl
@[simp] theorem State.withControl_sources (s : State) (v : Control) : (s.withControl v).sources = s.sources := rfl
@[simp] theorem State.withControl_inputs (s : State) (v : Control) : (s.withControl v).inputs = s.inputs := rfl
@[simp] theorem State.withControl_alarms (s : State) (v : Control) : (s.withControl v).alarms = s.alarms := rfl
@[simp] theorem State.withControl_alarmsLater (s : State) (v : Control) : (s.withControl v).alarmsLater = s.alarmsLater := rfl
@[simp] theorem State.withControl_engines (s : State) (v : Control) : (s.withControl v).engines = s.engines := rfl
@[simp] theorem State.withControl_view (s : State) (v : Control) : (s.withControl v).view = s.view := rfl
@[simp] theorem State.withControl_ring (s : State) (v : Control) : (s.withControl v).ring = s.ring := rfl
@[simp] theorem State.withControl_status (s : State) (v : Control) : (s.withControl v).status = s.status := rfl
@[simp] theorem State.withControl_pending (s : State) (v : Control) : (s.withControl v).pending = s.pending := rfl

@[simp] theorem State.withLink_control (s : State) (v : Link) : (s.withLink v).control = s.control := rfl
@[simp] theorem State.withLink_link (s : State) (v : Link) : (s.withLink v).link = v := rfl
@[simp] theorem State.withLink_mem (s : State) (v : Link) : (s.withLink v).mem = s.mem := rfl
@[simp] theorem State.withLink_port (s : State) (v : Link) : (s.withLink v).port = s.port := rfl
@[simp] theorem State.withLink_config (s : State) (v : Link) : (s.withLink v).config = s.config := rfl
@[simp] theorem State.withLink_frameNo (s : State) (v : Link) : (s.withLink v).frameNo = s.frameNo := rfl
@[simp] theorem State.withLink_live (s : State) (v : Link) : (s.withLink v).live = s.live := rfl
@[simp] theorem State.withLink_builder (s : State) (v : Link) : (s.withLink v).builder = s.builder := rfl
@[simp] theorem State.withLink_sources (s : State) (v : Link) : (s.withLink v).sources = s.sources := rfl
@[simp] theorem State.withLink_inputs (s : State) (v : Link) : (s.withLink v).inputs = s.inputs := rfl
@[simp] theorem State.withLink_alarms (s : State) (v : Link) : (s.withLink v).alarms = s.alarms := rfl
@[simp] theorem State.withLink_alarmsLater (s : State) (v : Link) : (s.withLink v).alarmsLater = s.alarmsLater := rfl
@[simp] theorem State.withLink_engines (s : State) (v : Link) : (s.withLink v).engines = s.engines := rfl
@[simp] theorem State.withLink_view (s : State) (v : Link) : (s.withLink v).view = s.view := rfl
@[simp] theorem State.withLink_ring (s : State) (v : Link) : (s.withLink v).ring = s.ring := rfl
@[simp] theorem State.withLink_status (s : State) (v : Link) : (s.withLink v).status = s.status := rfl
@[simp] theorem State.withLink_pending (s : State) (v : Link) : (s.withLink v).pending = s.pending := rfl

@[simp] theorem State.withMem_control (s : State) (v : Memory) : (s.withMem v).control = s.control := rfl
@[simp] theorem State.withMem_link (s : State) (v : Memory) : (s.withMem v).link = s.link := rfl
@[simp] theorem State.withMem_mem (s : State) (v : Memory) : (s.withMem v).mem = v := rfl
@[simp] theorem State.withMem_port (s : State) (v : Memory) : (s.withMem v).port = s.port := rfl
@[simp] theorem State.withMem_config (s : State) (v : Memory) : (s.withMem v).config = s.config := rfl
@[simp] theorem State.withMem_frameNo (s : State) (v : Memory) : (s.withMem v).frameNo = s.frameNo := rfl
@[simp] theorem State.withMem_live (s : State) (v : Memory) : (s.withMem v).live = s.live := rfl
@[simp] theorem State.withMem_builder (s : State) (v : Memory) : (s.withMem v).builder = s.builder := rfl
@[simp] theorem State.withMem_sources (s : State) (v : Memory) : (s.withMem v).sources = s.sources := rfl
@[simp] theorem State.withMem_inputs (s : State) (v : Memory) : (s.withMem v).inputs = s.inputs := rfl
@[simp] theorem State.withMem_alarms (s : State) (v : Memory) : (s.withMem v).alarms = s.alarms := rfl
@[simp] theorem State.withMem_alarmsLater (s : State) (v : Memory) : (s.withMem v).alarmsLater = s.alarmsLater := rfl
@[simp] theorem State.withMem_engines (s : State) (v : Memory) : (s.withMem v).engines = s.engines := rfl
@[simp] theorem State.withMem_view (s : State) (v : Memory) : (s.withMem v).view = s.view := rfl
@[simp] theorem State.withMem_ring (s : State) (v : Memory) : (s.withMem v).ring = s.ring := rfl
@[simp] theorem State.withMem_status (s : State) (v : Memory) : (s.withMem v).status = s.status := rfl
@[simp] theorem State.withMem_pending (s : State) (v : Memory) : (s.withMem v).pending = s.pending := rfl

@[simp] theorem State.withPort_control (s : State) (v : Port) : (s.withPort v).control = s.control := rfl
@[simp] theorem State.withPort_link (s : State) (v : Port) : (s.withPort v).link = s.link := rfl
@[simp] theorem State.withPort_mem (s : State) (v : Port) : (s.withPort v).mem = s.mem := rfl
@[simp] theorem State.withPort_port (s : State) (v : Port) : (s.withPort v).port = v := rfl
@[simp] theorem State.withPort_config (s : State) (v : Port) : (s.withPort v).config = s.config := rfl
@[simp] theorem State.withPort_frameNo (s : State) (v : Port) : (s.withPort v).frameNo = s.frameNo := rfl
@[simp] theorem State.withPort_live (s : State) (v : Port) : (s.withPort v).live = s.live := rfl
@[simp] theorem State.withPort_builder (s : State) (v : Port) : (s.withPort v).builder = s.builder := rfl
@[simp] theorem State.withPort_sources (s : State) (v : Port) : (s.withPort v).sources = s.sources := rfl
@[simp] theorem State.withPort_inputs (s : State) (v : Port) : (s.withPort v).inputs = s.inputs := rfl
@[simp] theorem State.withPort_alarms (s : State) (v : Port) : (s.withPort v).alarms = s.alarms := rfl
@[simp] theorem State.withPort_alarmsLater (s : State) (v : Port) : (s.withPort v).alarmsLater = s.alarmsLater := rfl
@[simp] theorem State.withPort_engines (s : State) (v : Port) : (s.withPort v).engines = s.engines := rfl
@[simp] theorem State.withPort_view (s : State) (v : Port) : (s.withPort v).view = s.view := rfl
@[simp] theorem State.withPort_ring (s : State) (v : Port) : (s.withPort v).ring = s.ring := rfl
@[simp] theorem State.withPort_status (s : State) (v : Port) : (s.withPort v).status = s.status := rfl
@[simp] theorem State.withPort_pending (s : State) (v : Port) : (s.withPort v).pending = s.pending := rfl

@[simp] theorem State.withConfig_control (s : State) (v : Option Loaded) : (s.withConfig v).control = s.control := rfl
@[simp] theorem State.withConfig_link (s : State) (v : Option Loaded) : (s.withConfig v).link = s.link := rfl
@[simp] theorem State.withConfig_mem (s : State) (v : Option Loaded) : (s.withConfig v).mem = s.mem := rfl
@[simp] theorem State.withConfig_port (s : State) (v : Option Loaded) : (s.withConfig v).port = s.port := rfl
@[simp] theorem State.withConfig_config (s : State) (v : Option Loaded) : (s.withConfig v).config = v := rfl
@[simp] theorem State.withConfig_frameNo (s : State) (v : Option Loaded) : (s.withConfig v).frameNo = s.frameNo := rfl
@[simp] theorem State.withConfig_live (s : State) (v : Option Loaded) : (s.withConfig v).live = s.live := rfl
@[simp] theorem State.withConfig_builder (s : State) (v : Option Loaded) : (s.withConfig v).builder = s.builder := rfl
@[simp] theorem State.withConfig_sources (s : State) (v : Option Loaded) : (s.withConfig v).sources = s.sources := rfl
@[simp] theorem State.withConfig_inputs (s : State) (v : Option Loaded) : (s.withConfig v).inputs = s.inputs := rfl
@[simp] theorem State.withConfig_alarms (s : State) (v : Option Loaded) : (s.withConfig v).alarms = s.alarms := rfl
@[simp] theorem State.withConfig_alarmsLater (s : State) (v : Option Loaded) : (s.withConfig v).alarmsLater = s.alarmsLater := rfl
@[simp] theorem State.withConfig_engines (s : State) (v : Option Loaded) : (s.withConfig v).engines = s.engines := rfl
@[simp] theorem State.withConfig_view (s : State) (v : Option Loaded) : (s.withConfig v).view = s.view := rfl
@[simp] theorem State.withConfig_ring (s : State) (v : Option Loaded) : (s.withConfig v).ring = s.ring := rfl
@[simp] theorem State.withConfig_status (s : State) (v : Option Loaded) : (s.withConfig v).status = s.status := rfl
@[simp] theorem State.withConfig_pending (s : State) (v : Option Loaded) : (s.withConfig v).pending = s.pending := rfl

@[simp] theorem State.withFrameNo_control (s : State) (v : Word) : (s.withFrameNo v).control = s.control := rfl
@[simp] theorem State.withFrameNo_link (s : State) (v : Word) : (s.withFrameNo v).link = s.link := rfl
@[simp] theorem State.withFrameNo_mem (s : State) (v : Word) : (s.withFrameNo v).mem = s.mem := rfl
@[simp] theorem State.withFrameNo_port (s : State) (v : Word) : (s.withFrameNo v).port = s.port := rfl
@[simp] theorem State.withFrameNo_config (s : State) (v : Word) : (s.withFrameNo v).config = s.config := rfl
@[simp] theorem State.withFrameNo_frameNo (s : State) (v : Word) : (s.withFrameNo v).frameNo = v := rfl
@[simp] theorem State.withFrameNo_live (s : State) (v : Word) : (s.withFrameNo v).live = s.live := rfl
@[simp] theorem State.withFrameNo_builder (s : State) (v : Word) : (s.withFrameNo v).builder = s.builder := rfl
@[simp] theorem State.withFrameNo_sources (s : State) (v : Word) : (s.withFrameNo v).sources = s.sources := rfl
@[simp] theorem State.withFrameNo_inputs (s : State) (v : Word) : (s.withFrameNo v).inputs = s.inputs := rfl
@[simp] theorem State.withFrameNo_alarms (s : State) (v : Word) : (s.withFrameNo v).alarms = s.alarms := rfl
@[simp] theorem State.withFrameNo_alarmsLater (s : State) (v : Word) : (s.withFrameNo v).alarmsLater = s.alarmsLater := rfl
@[simp] theorem State.withFrameNo_engines (s : State) (v : Word) : (s.withFrameNo v).engines = s.engines := rfl
@[simp] theorem State.withFrameNo_view (s : State) (v : Word) : (s.withFrameNo v).view = s.view := rfl
@[simp] theorem State.withFrameNo_ring (s : State) (v : Word) : (s.withFrameNo v).ring = s.ring := rfl
@[simp] theorem State.withFrameNo_status (s : State) (v : Word) : (s.withFrameNo v).status = s.status := rfl
@[simp] theorem State.withFrameNo_pending (s : State) (v : Word) : (s.withFrameNo v).pending = s.pending := rfl

@[simp] theorem State.withLive_control (s : State) (v : Table) : (s.withLive v).control = s.control := rfl
@[simp] theorem State.withLive_link (s : State) (v : Table) : (s.withLive v).link = s.link := rfl
@[simp] theorem State.withLive_mem (s : State) (v : Table) : (s.withLive v).mem = s.mem := rfl
@[simp] theorem State.withLive_port (s : State) (v : Table) : (s.withLive v).port = s.port := rfl
@[simp] theorem State.withLive_config (s : State) (v : Table) : (s.withLive v).config = s.config := rfl
@[simp] theorem State.withLive_frameNo (s : State) (v : Table) : (s.withLive v).frameNo = s.frameNo := rfl
@[simp] theorem State.withLive_live (s : State) (v : Table) : (s.withLive v).live = v := rfl
@[simp] theorem State.withLive_builder (s : State) (v : Table) : (s.withLive v).builder = s.builder := rfl
@[simp] theorem State.withLive_sources (s : State) (v : Table) : (s.withLive v).sources = s.sources := rfl
@[simp] theorem State.withLive_inputs (s : State) (v : Table) : (s.withLive v).inputs = s.inputs := rfl
@[simp] theorem State.withLive_alarms (s : State) (v : Table) : (s.withLive v).alarms = s.alarms := rfl
@[simp] theorem State.withLive_alarmsLater (s : State) (v : Table) : (s.withLive v).alarmsLater = s.alarmsLater := rfl
@[simp] theorem State.withLive_engines (s : State) (v : Table) : (s.withLive v).engines = s.engines := rfl
@[simp] theorem State.withLive_view (s : State) (v : Table) : (s.withLive v).view = s.view := rfl
@[simp] theorem State.withLive_ring (s : State) (v : Table) : (s.withLive v).ring = s.ring := rfl
@[simp] theorem State.withLive_status (s : State) (v : Table) : (s.withLive v).status = s.status := rfl
@[simp] theorem State.withLive_pending (s : State) (v : Table) : (s.withLive v).pending = s.pending := rfl

@[simp] theorem State.withBuilder_control (s : State) (v : Builder) : (s.withBuilder v).control = s.control := rfl
@[simp] theorem State.withBuilder_link (s : State) (v : Builder) : (s.withBuilder v).link = s.link := rfl
@[simp] theorem State.withBuilder_mem (s : State) (v : Builder) : (s.withBuilder v).mem = s.mem := rfl
@[simp] theorem State.withBuilder_port (s : State) (v : Builder) : (s.withBuilder v).port = s.port := rfl
@[simp] theorem State.withBuilder_config (s : State) (v : Builder) : (s.withBuilder v).config = s.config := rfl
@[simp] theorem State.withBuilder_frameNo (s : State) (v : Builder) : (s.withBuilder v).frameNo = s.frameNo := rfl
@[simp] theorem State.withBuilder_live (s : State) (v : Builder) : (s.withBuilder v).live = s.live := rfl
@[simp] theorem State.withBuilder_builder (s : State) (v : Builder) : (s.withBuilder v).builder = v := rfl
@[simp] theorem State.withBuilder_sources (s : State) (v : Builder) : (s.withBuilder v).sources = s.sources := rfl
@[simp] theorem State.withBuilder_inputs (s : State) (v : Builder) : (s.withBuilder v).inputs = s.inputs := rfl
@[simp] theorem State.withBuilder_alarms (s : State) (v : Builder) : (s.withBuilder v).alarms = s.alarms := rfl
@[simp] theorem State.withBuilder_alarmsLater (s : State) (v : Builder) : (s.withBuilder v).alarmsLater = s.alarmsLater := rfl
@[simp] theorem State.withBuilder_engines (s : State) (v : Builder) : (s.withBuilder v).engines = s.engines := rfl
@[simp] theorem State.withBuilder_view (s : State) (v : Builder) : (s.withBuilder v).view = s.view := rfl
@[simp] theorem State.withBuilder_ring (s : State) (v : Builder) : (s.withBuilder v).ring = s.ring := rfl
@[simp] theorem State.withBuilder_status (s : State) (v : Builder) : (s.withBuilder v).status = s.status := rfl
@[simp] theorem State.withBuilder_pending (s : State) (v : Builder) : (s.withBuilder v).pending = s.pending := rfl

@[simp] theorem State.withSources_control (s : State) (v : SourceUnit) : (s.withSources v).control = s.control := rfl
@[simp] theorem State.withSources_link (s : State) (v : SourceUnit) : (s.withSources v).link = s.link := rfl
@[simp] theorem State.withSources_mem (s : State) (v : SourceUnit) : (s.withSources v).mem = s.mem := rfl
@[simp] theorem State.withSources_port (s : State) (v : SourceUnit) : (s.withSources v).port = s.port := rfl
@[simp] theorem State.withSources_config (s : State) (v : SourceUnit) : (s.withSources v).config = s.config := rfl
@[simp] theorem State.withSources_frameNo (s : State) (v : SourceUnit) : (s.withSources v).frameNo = s.frameNo := rfl
@[simp] theorem State.withSources_live (s : State) (v : SourceUnit) : (s.withSources v).live = s.live := rfl
@[simp] theorem State.withSources_builder (s : State) (v : SourceUnit) : (s.withSources v).builder = s.builder := rfl
@[simp] theorem State.withSources_sources (s : State) (v : SourceUnit) : (s.withSources v).sources = v := rfl
@[simp] theorem State.withSources_inputs (s : State) (v : SourceUnit) : (s.withSources v).inputs = s.inputs := rfl
@[simp] theorem State.withSources_alarms (s : State) (v : SourceUnit) : (s.withSources v).alarms = s.alarms := rfl
@[simp] theorem State.withSources_alarmsLater (s : State) (v : SourceUnit) : (s.withSources v).alarmsLater = s.alarmsLater := rfl
@[simp] theorem State.withSources_engines (s : State) (v : SourceUnit) : (s.withSources v).engines = s.engines := rfl
@[simp] theorem State.withSources_view (s : State) (v : SourceUnit) : (s.withSources v).view = s.view := rfl
@[simp] theorem State.withSources_ring (s : State) (v : SourceUnit) : (s.withSources v).ring = s.ring := rfl
@[simp] theorem State.withSources_status (s : State) (v : SourceUnit) : (s.withSources v).status = s.status := rfl
@[simp] theorem State.withSources_pending (s : State) (v : SourceUnit) : (s.withSources v).pending = s.pending := rfl

@[simp] theorem State.withInputs_control (s : State) (v : Vector CaptureInput 16) : (s.withInputs v).control = s.control := rfl
@[simp] theorem State.withInputs_link (s : State) (v : Vector CaptureInput 16) : (s.withInputs v).link = s.link := rfl
@[simp] theorem State.withInputs_mem (s : State) (v : Vector CaptureInput 16) : (s.withInputs v).mem = s.mem := rfl
@[simp] theorem State.withInputs_port (s : State) (v : Vector CaptureInput 16) : (s.withInputs v).port = s.port := rfl
@[simp] theorem State.withInputs_config (s : State) (v : Vector CaptureInput 16) : (s.withInputs v).config = s.config := rfl
@[simp] theorem State.withInputs_frameNo (s : State) (v : Vector CaptureInput 16) : (s.withInputs v).frameNo = s.frameNo := rfl
@[simp] theorem State.withInputs_live (s : State) (v : Vector CaptureInput 16) : (s.withInputs v).live = s.live := rfl
@[simp] theorem State.withInputs_builder (s : State) (v : Vector CaptureInput 16) : (s.withInputs v).builder = s.builder := rfl
@[simp] theorem State.withInputs_sources (s : State) (v : Vector CaptureInput 16) : (s.withInputs v).sources = s.sources := rfl
@[simp] theorem State.withInputs_inputs (s : State) (v : Vector CaptureInput 16) : (s.withInputs v).inputs = v := rfl
@[simp] theorem State.withInputs_alarms (s : State) (v : Vector CaptureInput 16) : (s.withInputs v).alarms = s.alarms := rfl
@[simp] theorem State.withInputs_alarmsLater (s : State) (v : Vector CaptureInput 16) : (s.withInputs v).alarmsLater = s.alarmsLater := rfl
@[simp] theorem State.withInputs_engines (s : State) (v : Vector CaptureInput 16) : (s.withInputs v).engines = s.engines := rfl
@[simp] theorem State.withInputs_view (s : State) (v : Vector CaptureInput 16) : (s.withInputs v).view = s.view := rfl
@[simp] theorem State.withInputs_ring (s : State) (v : Vector CaptureInput 16) : (s.withInputs v).ring = s.ring := rfl
@[simp] theorem State.withInputs_status (s : State) (v : Vector CaptureInput 16) : (s.withInputs v).status = s.status := rfl
@[simp] theorem State.withInputs_pending (s : State) (v : Vector CaptureInput 16) : (s.withInputs v).pending = s.pending := rfl

@[simp] theorem State.withAlarms_control (s : State) (v : Vector AlarmInput 8) : (s.withAlarms v).control = s.control := rfl
@[simp] theorem State.withAlarms_link (s : State) (v : Vector AlarmInput 8) : (s.withAlarms v).link = s.link := rfl
@[simp] theorem State.withAlarms_mem (s : State) (v : Vector AlarmInput 8) : (s.withAlarms v).mem = s.mem := rfl
@[simp] theorem State.withAlarms_port (s : State) (v : Vector AlarmInput 8) : (s.withAlarms v).port = s.port := rfl
@[simp] theorem State.withAlarms_config (s : State) (v : Vector AlarmInput 8) : (s.withAlarms v).config = s.config := rfl
@[simp] theorem State.withAlarms_frameNo (s : State) (v : Vector AlarmInput 8) : (s.withAlarms v).frameNo = s.frameNo := rfl
@[simp] theorem State.withAlarms_live (s : State) (v : Vector AlarmInput 8) : (s.withAlarms v).live = s.live := rfl
@[simp] theorem State.withAlarms_builder (s : State) (v : Vector AlarmInput 8) : (s.withAlarms v).builder = s.builder := rfl
@[simp] theorem State.withAlarms_sources (s : State) (v : Vector AlarmInput 8) : (s.withAlarms v).sources = s.sources := rfl
@[simp] theorem State.withAlarms_inputs (s : State) (v : Vector AlarmInput 8) : (s.withAlarms v).inputs = s.inputs := rfl
@[simp] theorem State.withAlarms_alarms (s : State) (v : Vector AlarmInput 8) : (s.withAlarms v).alarms = v := rfl
@[simp] theorem State.withAlarms_alarmsLater (s : State) (v : Vector AlarmInput 8) : (s.withAlarms v).alarmsLater = s.alarmsLater := rfl
@[simp] theorem State.withAlarms_engines (s : State) (v : Vector AlarmInput 8) : (s.withAlarms v).engines = s.engines := rfl
@[simp] theorem State.withAlarms_view (s : State) (v : Vector AlarmInput 8) : (s.withAlarms v).view = s.view := rfl
@[simp] theorem State.withAlarms_ring (s : State) (v : Vector AlarmInput 8) : (s.withAlarms v).ring = s.ring := rfl
@[simp] theorem State.withAlarms_status (s : State) (v : Vector AlarmInput 8) : (s.withAlarms v).status = s.status := rfl
@[simp] theorem State.withAlarms_pending (s : State) (v : Vector AlarmInput 8) : (s.withAlarms v).pending = s.pending := rfl

@[simp] theorem State.withAlarmsLater_control (s : State) (v : List (List AlarmStep)) : (s.withAlarmsLater v).control = s.control := rfl
@[simp] theorem State.withAlarmsLater_link (s : State) (v : List (List AlarmStep)) : (s.withAlarmsLater v).link = s.link := rfl
@[simp] theorem State.withAlarmsLater_mem (s : State) (v : List (List AlarmStep)) : (s.withAlarmsLater v).mem = s.mem := rfl
@[simp] theorem State.withAlarmsLater_port (s : State) (v : List (List AlarmStep)) : (s.withAlarmsLater v).port = s.port := rfl
@[simp] theorem State.withAlarmsLater_config (s : State) (v : List (List AlarmStep)) : (s.withAlarmsLater v).config = s.config := rfl
@[simp] theorem State.withAlarmsLater_frameNo (s : State) (v : List (List AlarmStep)) : (s.withAlarmsLater v).frameNo = s.frameNo := rfl
@[simp] theorem State.withAlarmsLater_live (s : State) (v : List (List AlarmStep)) : (s.withAlarmsLater v).live = s.live := rfl
@[simp] theorem State.withAlarmsLater_builder (s : State) (v : List (List AlarmStep)) : (s.withAlarmsLater v).builder = s.builder := rfl
@[simp] theorem State.withAlarmsLater_sources (s : State) (v : List (List AlarmStep)) : (s.withAlarmsLater v).sources = s.sources := rfl
@[simp] theorem State.withAlarmsLater_inputs (s : State) (v : List (List AlarmStep)) : (s.withAlarmsLater v).inputs = s.inputs := rfl
@[simp] theorem State.withAlarmsLater_alarms (s : State) (v : List (List AlarmStep)) : (s.withAlarmsLater v).alarms = s.alarms := rfl
@[simp] theorem State.withAlarmsLater_alarmsLater (s : State) (v : List (List AlarmStep)) : (s.withAlarmsLater v).alarmsLater = v := rfl
@[simp] theorem State.withAlarmsLater_engines (s : State) (v : List (List AlarmStep)) : (s.withAlarmsLater v).engines = s.engines := rfl
@[simp] theorem State.withAlarmsLater_view (s : State) (v : List (List AlarmStep)) : (s.withAlarmsLater v).view = s.view := rfl
@[simp] theorem State.withAlarmsLater_ring (s : State) (v : List (List AlarmStep)) : (s.withAlarmsLater v).ring = s.ring := rfl
@[simp] theorem State.withAlarmsLater_status (s : State) (v : List (List AlarmStep)) : (s.withAlarmsLater v).status = s.status := rfl
@[simp] theorem State.withAlarmsLater_pending (s : State) (v : List (List AlarmStep)) : (s.withAlarmsLater v).pending = s.pending := rfl

@[simp] theorem State.withEngines_control (s : State) (v : Vector TileEngine 16) : (s.withEngines v).control = s.control := rfl
@[simp] theorem State.withEngines_link (s : State) (v : Vector TileEngine 16) : (s.withEngines v).link = s.link := rfl
@[simp] theorem State.withEngines_mem (s : State) (v : Vector TileEngine 16) : (s.withEngines v).mem = s.mem := rfl
@[simp] theorem State.withEngines_port (s : State) (v : Vector TileEngine 16) : (s.withEngines v).port = s.port := rfl
@[simp] theorem State.withEngines_config (s : State) (v : Vector TileEngine 16) : (s.withEngines v).config = s.config := rfl
@[simp] theorem State.withEngines_frameNo (s : State) (v : Vector TileEngine 16) : (s.withEngines v).frameNo = s.frameNo := rfl
@[simp] theorem State.withEngines_live (s : State) (v : Vector TileEngine 16) : (s.withEngines v).live = s.live := rfl
@[simp] theorem State.withEngines_builder (s : State) (v : Vector TileEngine 16) : (s.withEngines v).builder = s.builder := rfl
@[simp] theorem State.withEngines_sources (s : State) (v : Vector TileEngine 16) : (s.withEngines v).sources = s.sources := rfl
@[simp] theorem State.withEngines_inputs (s : State) (v : Vector TileEngine 16) : (s.withEngines v).inputs = s.inputs := rfl
@[simp] theorem State.withEngines_alarms (s : State) (v : Vector TileEngine 16) : (s.withEngines v).alarms = s.alarms := rfl
@[simp] theorem State.withEngines_alarmsLater (s : State) (v : Vector TileEngine 16) : (s.withEngines v).alarmsLater = s.alarmsLater := rfl
@[simp] theorem State.withEngines_engines (s : State) (v : Vector TileEngine 16) : (s.withEngines v).engines = v := rfl
@[simp] theorem State.withEngines_view (s : State) (v : Vector TileEngine 16) : (s.withEngines v).view = s.view := rfl
@[simp] theorem State.withEngines_ring (s : State) (v : Vector TileEngine 16) : (s.withEngines v).ring = s.ring := rfl
@[simp] theorem State.withEngines_status (s : State) (v : Vector TileEngine 16) : (s.withEngines v).status = s.status := rfl
@[simp] theorem State.withEngines_pending (s : State) (v : Vector TileEngine 16) : (s.withEngines v).pending = s.pending := rfl

@[simp] theorem State.withView_control (s : State) (v : Option FrameView) : (s.withView v).control = s.control := rfl
@[simp] theorem State.withView_link (s : State) (v : Option FrameView) : (s.withView v).link = s.link := rfl
@[simp] theorem State.withView_mem (s : State) (v : Option FrameView) : (s.withView v).mem = s.mem := rfl
@[simp] theorem State.withView_port (s : State) (v : Option FrameView) : (s.withView v).port = s.port := rfl
@[simp] theorem State.withView_config (s : State) (v : Option FrameView) : (s.withView v).config = s.config := rfl
@[simp] theorem State.withView_frameNo (s : State) (v : Option FrameView) : (s.withView v).frameNo = s.frameNo := rfl
@[simp] theorem State.withView_live (s : State) (v : Option FrameView) : (s.withView v).live = s.live := rfl
@[simp] theorem State.withView_builder (s : State) (v : Option FrameView) : (s.withView v).builder = s.builder := rfl
@[simp] theorem State.withView_sources (s : State) (v : Option FrameView) : (s.withView v).sources = s.sources := rfl
@[simp] theorem State.withView_inputs (s : State) (v : Option FrameView) : (s.withView v).inputs = s.inputs := rfl
@[simp] theorem State.withView_alarms (s : State) (v : Option FrameView) : (s.withView v).alarms = s.alarms := rfl
@[simp] theorem State.withView_alarmsLater (s : State) (v : Option FrameView) : (s.withView v).alarmsLater = s.alarmsLater := rfl
@[simp] theorem State.withView_engines (s : State) (v : Option FrameView) : (s.withView v).engines = s.engines := rfl
@[simp] theorem State.withView_view (s : State) (v : Option FrameView) : (s.withView v).view = v := rfl
@[simp] theorem State.withView_ring (s : State) (v : Option FrameView) : (s.withView v).ring = s.ring := rfl
@[simp] theorem State.withView_status (s : State) (v : Option FrameView) : (s.withView v).status = s.status := rfl
@[simp] theorem State.withView_pending (s : State) (v : Option FrameView) : (s.withView v).pending = s.pending := rfl

@[simp] theorem State.withRing_control (s : State) (v : Ring) : (s.withRing v).control = s.control := rfl
@[simp] theorem State.withRing_link (s : State) (v : Ring) : (s.withRing v).link = s.link := rfl
@[simp] theorem State.withRing_mem (s : State) (v : Ring) : (s.withRing v).mem = s.mem := rfl
@[simp] theorem State.withRing_port (s : State) (v : Ring) : (s.withRing v).port = s.port := rfl
@[simp] theorem State.withRing_config (s : State) (v : Ring) : (s.withRing v).config = s.config := rfl
@[simp] theorem State.withRing_frameNo (s : State) (v : Ring) : (s.withRing v).frameNo = s.frameNo := rfl
@[simp] theorem State.withRing_live (s : State) (v : Ring) : (s.withRing v).live = s.live := rfl
@[simp] theorem State.withRing_builder (s : State) (v : Ring) : (s.withRing v).builder = s.builder := rfl
@[simp] theorem State.withRing_sources (s : State) (v : Ring) : (s.withRing v).sources = s.sources := rfl
@[simp] theorem State.withRing_inputs (s : State) (v : Ring) : (s.withRing v).inputs = s.inputs := rfl
@[simp] theorem State.withRing_alarms (s : State) (v : Ring) : (s.withRing v).alarms = s.alarms := rfl
@[simp] theorem State.withRing_alarmsLater (s : State) (v : Ring) : (s.withRing v).alarmsLater = s.alarmsLater := rfl
@[simp] theorem State.withRing_engines (s : State) (v : Ring) : (s.withRing v).engines = s.engines := rfl
@[simp] theorem State.withRing_view (s : State) (v : Ring) : (s.withRing v).view = s.view := rfl
@[simp] theorem State.withRing_ring (s : State) (v : Ring) : (s.withRing v).ring = v := rfl
@[simp] theorem State.withRing_status (s : State) (v : Ring) : (s.withRing v).status = s.status := rfl
@[simp] theorem State.withRing_pending (s : State) (v : Ring) : (s.withRing v).pending = s.pending := rfl

@[simp] theorem State.withStatus_control (s : State) (v : StatusCopy) : (s.withStatus v).control = s.control := rfl
@[simp] theorem State.withStatus_link (s : State) (v : StatusCopy) : (s.withStatus v).link = s.link := rfl
@[simp] theorem State.withStatus_mem (s : State) (v : StatusCopy) : (s.withStatus v).mem = s.mem := rfl
@[simp] theorem State.withStatus_port (s : State) (v : StatusCopy) : (s.withStatus v).port = s.port := rfl
@[simp] theorem State.withStatus_config (s : State) (v : StatusCopy) : (s.withStatus v).config = s.config := rfl
@[simp] theorem State.withStatus_frameNo (s : State) (v : StatusCopy) : (s.withStatus v).frameNo = s.frameNo := rfl
@[simp] theorem State.withStatus_live (s : State) (v : StatusCopy) : (s.withStatus v).live = s.live := rfl
@[simp] theorem State.withStatus_builder (s : State) (v : StatusCopy) : (s.withStatus v).builder = s.builder := rfl
@[simp] theorem State.withStatus_sources (s : State) (v : StatusCopy) : (s.withStatus v).sources = s.sources := rfl
@[simp] theorem State.withStatus_inputs (s : State) (v : StatusCopy) : (s.withStatus v).inputs = s.inputs := rfl
@[simp] theorem State.withStatus_alarms (s : State) (v : StatusCopy) : (s.withStatus v).alarms = s.alarms := rfl
@[simp] theorem State.withStatus_alarmsLater (s : State) (v : StatusCopy) : (s.withStatus v).alarmsLater = s.alarmsLater := rfl
@[simp] theorem State.withStatus_engines (s : State) (v : StatusCopy) : (s.withStatus v).engines = s.engines := rfl
@[simp] theorem State.withStatus_view (s : State) (v : StatusCopy) : (s.withStatus v).view = s.view := rfl
@[simp] theorem State.withStatus_ring (s : State) (v : StatusCopy) : (s.withStatus v).ring = s.ring := rfl
@[simp] theorem State.withStatus_status (s : State) (v : StatusCopy) : (s.withStatus v).status = v := rfl
@[simp] theorem State.withStatus_pending (s : State) (v : StatusCopy) : (s.withStatus v).pending = s.pending := rfl

@[simp] theorem State.withPending_control (s : State) (v : List Instr) : (s.withPending v).control = s.control := rfl
@[simp] theorem State.withPending_link (s : State) (v : List Instr) : (s.withPending v).link = s.link := rfl
@[simp] theorem State.withPending_mem (s : State) (v : List Instr) : (s.withPending v).mem = s.mem := rfl
@[simp] theorem State.withPending_port (s : State) (v : List Instr) : (s.withPending v).port = s.port := rfl
@[simp] theorem State.withPending_config (s : State) (v : List Instr) : (s.withPending v).config = s.config := rfl
@[simp] theorem State.withPending_frameNo (s : State) (v : List Instr) : (s.withPending v).frameNo = s.frameNo := rfl
@[simp] theorem State.withPending_live (s : State) (v : List Instr) : (s.withPending v).live = s.live := rfl
@[simp] theorem State.withPending_builder (s : State) (v : List Instr) : (s.withPending v).builder = s.builder := rfl
@[simp] theorem State.withPending_sources (s : State) (v : List Instr) : (s.withPending v).sources = s.sources := rfl
@[simp] theorem State.withPending_inputs (s : State) (v : List Instr) : (s.withPending v).inputs = s.inputs := rfl
@[simp] theorem State.withPending_alarms (s : State) (v : List Instr) : (s.withPending v).alarms = s.alarms := rfl
@[simp] theorem State.withPending_alarmsLater (s : State) (v : List Instr) : (s.withPending v).alarmsLater = s.alarmsLater := rfl
@[simp] theorem State.withPending_engines (s : State) (v : List Instr) : (s.withPending v).engines = s.engines := rfl
@[simp] theorem State.withPending_view (s : State) (v : List Instr) : (s.withPending v).view = s.view := rfl
@[simp] theorem State.withPending_ring (s : State) (v : List Instr) : (s.withPending v).ring = s.ring := rfl
@[simp] theorem State.withPending_status (s : State) (v : List Instr) : (s.withPending v).status = s.status := rfl
@[simp] theorem State.withPending_pending (s : State) (v : List Instr) : (s.withPending v).pending = v := rfl

end Sys2Proof.Machine
end

