-- ==== Sys2Proof/Laws/FrameBasic.lean ====
section
/-! SUPPORT. Frames: for the cause bits, the port's queues and the replacement of one entry of a bank, one lemma for each field of State that the operation leaves alone. -/

namespace Sys2Proof.Machine

@[simp] theorem State.raise_control (s : State) (bits : BitVec 8) : (s.raise bits).control = s.control := rfl
@[simp] theorem State.raise_mem (s : State) (bits : BitVec 8) : (s.raise bits).mem = s.mem := rfl
@[simp] theorem State.raise_port (s : State) (bits : BitVec 8) : (s.raise bits).port = s.port := rfl
@[simp] theorem State.raise_config (s : State) (bits : BitVec 8) : (s.raise bits).config = s.config := rfl
@[simp] theorem State.raise_frameNo (s : State) (bits : BitVec 8) : (s.raise bits).frameNo = s.frameNo := rfl
@[simp] theorem State.raise_live (s : State) (bits : BitVec 8) : (s.raise bits).live = s.live := rfl
@[simp] theorem State.raise_builder (s : State) (bits : BitVec 8) : (s.raise bits).builder = s.builder := rfl
@[simp] theorem State.raise_sources (s : State) (bits : BitVec 8) : (s.raise bits).sources = s.sources := rfl
@[simp] theorem State.raise_inputs (s : State) (bits : BitVec 8) : (s.raise bits).inputs = s.inputs := rfl
@[simp] theorem State.raise_alarms (s : State) (bits : BitVec 8) : (s.raise bits).alarms = s.alarms := rfl
@[simp] theorem State.raise_alarmsLater (s : State) (bits : BitVec 8) : (s.raise bits).alarmsLater = s.alarmsLater := rfl
@[simp] theorem State.raise_engines (s : State) (bits : BitVec 8) : (s.raise bits).engines = s.engines := rfl
@[simp] theorem State.raise_view (s : State) (bits : BitVec 8) : (s.raise bits).view = s.view := rfl
@[simp] theorem State.raise_ring (s : State) (bits : BitVec 8) : (s.raise bits).ring = s.ring := rfl
@[simp] theorem State.raise_status (s : State) (bits : BitVec 8) : (s.raise bits).status = s.status := rfl
@[simp] theorem State.raise_pending (s : State) (bits : BitVec 8) : (s.raise bits).pending = s.pending := rfl

@[simp] theorem State.raiseIf_control (s : State) (b : Bool) (bits : BitVec 8) : (s.raiseIf b bits).control = s.control := by
  unfold State.raiseIf; split <;> rfl
@[simp] theorem State.raiseIf_mem (s : State) (b : Bool) (bits : BitVec 8) : (s.raiseIf b bits).mem = s.mem := by
  unfold State.raiseIf; split <;> rfl
@[simp] theorem State.raiseIf_port (s : State) (b : Bool) (bits : BitVec 8) : (s.raiseIf b bits).port = s.port := by
  unfold State.raiseIf; split <;> rfl
@[simp] theorem State.raiseIf_config (s : State) (b : Bool) (bits : BitVec 8) : (s.raiseIf b bits).config = s.config := by
  unfold State.raiseIf; split <;> rfl
@[simp] theorem State.raiseIf_frameNo (s : State) (b : Bool) (bits : BitVec 8) : (s.raiseIf b bits).frameNo = s.frameNo := by
  unfold State.raiseIf; split <;> rfl
@[simp] theorem State.raiseIf_live (s : State) (b : Bool) (bits : BitVec 8) : (s.raiseIf b bits).live = s.live := by
  unfold State.raiseIf; split <;> rfl
@[simp] theorem State.raiseIf_builder (s : State) (b : Bool) (bits : BitVec 8) : (s.raiseIf b bits).builder = s.builder := by
  unfold State.raiseIf; split <;> rfl
@[simp] theorem State.raiseIf_sources (s : State) (b : Bool) (bits : BitVec 8) : (s.raiseIf b bits).sources = s.sources := by
  unfold State.raiseIf; split <;> rfl
@[simp] theorem State.raiseIf_inputs (s : State) (b : Bool) (bits : BitVec 8) : (s.raiseIf b bits).inputs = s.inputs := by
  unfold State.raiseIf; split <;> rfl
@[simp] theorem State.raiseIf_alarms (s : State) (b : Bool) (bits : BitVec 8) : (s.raiseIf b bits).alarms = s.alarms := by
  unfold State.raiseIf; split <;> rfl
@[simp] theorem State.raiseIf_alarmsLater (s : State) (b : Bool) (bits : BitVec 8) : (s.raiseIf b bits).alarmsLater = s.alarmsLater := by
  unfold State.raiseIf; split <;> rfl
@[simp] theorem State.raiseIf_engines (s : State) (b : Bool) (bits : BitVec 8) : (s.raiseIf b bits).engines = s.engines := by
  unfold State.raiseIf; split <;> rfl
@[simp] theorem State.raiseIf_view (s : State) (b : Bool) (bits : BitVec 8) : (s.raiseIf b bits).view = s.view := by
  unfold State.raiseIf; split <;> rfl
@[simp] theorem State.raiseIf_ring (s : State) (b : Bool) (bits : BitVec 8) : (s.raiseIf b bits).ring = s.ring := by
  unfold State.raiseIf; split <;> rfl
@[simp] theorem State.raiseIf_status (s : State) (b : Bool) (bits : BitVec 8) : (s.raiseIf b bits).status = s.status := by
  unfold State.raiseIf; split <;> rfl
@[simp] theorem State.raiseIf_pending (s : State) (b : Bool) (bits : BitVec 8) : (s.raiseIf b bits).pending = s.pending := by
  unfold State.raiseIf; split <;> rfl

@[simp] theorem State.issue_control (s : State) (r : Requester) (ts : List Transfer) : (s.issue r ts).control = s.control := rfl
@[simp] theorem State.issue_link (s : State) (r : Requester) (ts : List Transfer) : (s.issue r ts).link = s.link := rfl
@[simp] theorem State.issue_mem (s : State) (r : Requester) (ts : List Transfer) : (s.issue r ts).mem = s.mem := rfl
@[simp] theorem State.issue_config (s : State) (r : Requester) (ts : List Transfer) : (s.issue r ts).config = s.config := rfl
@[simp] theorem State.issue_frameNo (s : State) (r : Requester) (ts : List Transfer) : (s.issue r ts).frameNo = s.frameNo := rfl
@[simp] theorem State.issue_live (s : State) (r : Requester) (ts : List Transfer) : (s.issue r ts).live = s.live := rfl
@[simp] theorem State.issue_builder (s : State) (r : Requester) (ts : List Transfer) : (s.issue r ts).builder = s.builder := rfl
@[simp] theorem State.issue_sources (s : State) (r : Requester) (ts : List Transfer) : (s.issue r ts).sources = s.sources := rfl
@[simp] theorem State.issue_inputs (s : State) (r : Requester) (ts : List Transfer) : (s.issue r ts).inputs = s.inputs := rfl
@[simp] theorem State.issue_alarms (s : State) (r : Requester) (ts : List Transfer) : (s.issue r ts).alarms = s.alarms := rfl
@[simp] theorem State.issue_alarmsLater (s : State) (r : Requester) (ts : List Transfer) : (s.issue r ts).alarmsLater = s.alarmsLater := rfl
@[simp] theorem State.issue_engines (s : State) (r : Requester) (ts : List Transfer) : (s.issue r ts).engines = s.engines := rfl
@[simp] theorem State.issue_view (s : State) (r : Requester) (ts : List Transfer) : (s.issue r ts).view = s.view := rfl
@[simp] theorem State.issue_ring (s : State) (r : Requester) (ts : List Transfer) : (s.issue r ts).ring = s.ring := rfl
@[simp] theorem State.issue_status (s : State) (r : Requester) (ts : List Transfer) : (s.issue r ts).status = s.status := rfl
@[simp] theorem State.issue_pending (s : State) (r : Requester) (ts : List Transfer) : (s.issue r ts).pending = s.pending := rfl

@[simp] theorem State.setQueue_control (s : State) (r : Requester) (ts : List Transfer) : (s.setQueue r ts).control = s.control := rfl
@[simp] theorem State.setQueue_link (s : State) (r : Requester) (ts : List Transfer) : (s.setQueue r ts).link = s.link := rfl
@[simp] theorem State.setQueue_mem (s : State) (r : Requester) (ts : List Transfer) : (s.setQueue r ts).mem = s.mem := rfl
@[simp] theorem State.setQueue_config (s : State) (r : Requester) (ts : List Transfer) : (s.setQueue r ts).config = s.config := rfl
@[simp] theorem State.setQueue_frameNo (s : State) (r : Requester) (ts : List Transfer) : (s.setQueue r ts).frameNo = s.frameNo := rfl
@[simp] theorem State.setQueue_live (s : State) (r : Requester) (ts : List Transfer) : (s.setQueue r ts).live = s.live := rfl
@[simp] theorem State.setQueue_builder (s : State) (r : Requester) (ts : List Transfer) : (s.setQueue r ts).builder = s.builder := rfl
@[simp] theorem State.setQueue_sources (s : State) (r : Requester) (ts : List Transfer) : (s.setQueue r ts).sources = s.sources := rfl
@[simp] theorem State.setQueue_inputs (s : State) (r : Requester) (ts : List Transfer) : (s.setQueue r ts).inputs = s.inputs := rfl
@[simp] theorem State.setQueue_alarms (s : State) (r : Requester) (ts : List Transfer) : (s.setQueue r ts).alarms = s.alarms := rfl
@[simp] theorem State.setQueue_alarmsLater (s : State) (r : Requester) (ts : List Transfer) : (s.setQueue r ts).alarmsLater = s.alarmsLater := rfl
@[simp] theorem State.setQueue_engines (s : State) (r : Requester) (ts : List Transfer) : (s.setQueue r ts).engines = s.engines := rfl
@[simp] theorem State.setQueue_view (s : State) (r : Requester) (ts : List Transfer) : (s.setQueue r ts).view = s.view := rfl
@[simp] theorem State.setQueue_ring (s : State) (r : Requester) (ts : List Transfer) : (s.setQueue r ts).ring = s.ring := rfl
@[simp] theorem State.setQueue_status (s : State) (r : Requester) (ts : List Transfer) : (s.setQueue r ts).status = s.status := rfl
@[simp] theorem State.setQueue_pending (s : State) (r : Requester) (ts : List Transfer) : (s.setQueue r ts).pending = s.pending := rfl

@[simp] theorem State.setChannel_control (s : State) (src : Fin 32) (c : Source) : (s.setChannel src c).control = s.control := rfl
@[simp] theorem State.setChannel_link (s : State) (src : Fin 32) (c : Source) : (s.setChannel src c).link = s.link := rfl
@[simp] theorem State.setChannel_mem (s : State) (src : Fin 32) (c : Source) : (s.setChannel src c).mem = s.mem := rfl
@[simp] theorem State.setChannel_port (s : State) (src : Fin 32) (c : Source) : (s.setChannel src c).port = s.port := rfl
@[simp] theorem State.setChannel_config (s : State) (src : Fin 32) (c : Source) : (s.setChannel src c).config = s.config := rfl
@[simp] theorem State.setChannel_frameNo (s : State) (src : Fin 32) (c : Source) : (s.setChannel src c).frameNo = s.frameNo := rfl
@[simp] theorem State.setChannel_live (s : State) (src : Fin 32) (c : Source) : (s.setChannel src c).live = s.live := rfl
@[simp] theorem State.setChannel_builder (s : State) (src : Fin 32) (c : Source) : (s.setChannel src c).builder = s.builder := rfl
@[simp] theorem State.setChannel_inputs (s : State) (src : Fin 32) (c : Source) : (s.setChannel src c).inputs = s.inputs := rfl
@[simp] theorem State.setChannel_alarms (s : State) (src : Fin 32) (c : Source) : (s.setChannel src c).alarms = s.alarms := rfl
@[simp] theorem State.setChannel_alarmsLater (s : State) (src : Fin 32) (c : Source) : (s.setChannel src c).alarmsLater = s.alarmsLater := rfl
@[simp] theorem State.setChannel_engines (s : State) (src : Fin 32) (c : Source) : (s.setChannel src c).engines = s.engines := rfl
@[simp] theorem State.setChannel_view (s : State) (src : Fin 32) (c : Source) : (s.setChannel src c).view = s.view := rfl
@[simp] theorem State.setChannel_ring (s : State) (src : Fin 32) (c : Source) : (s.setChannel src c).ring = s.ring := rfl
@[simp] theorem State.setChannel_status (s : State) (src : Fin 32) (c : Source) : (s.setChannel src c).status = s.status := rfl
@[simp] theorem State.setChannel_pending (s : State) (src : Fin 32) (c : Source) : (s.setChannel src c).pending = s.pending := rfl

@[simp] theorem State.setInput_control (s : State) (c : Fin 16) (i : CaptureInput) : (s.setInput c i).control = s.control := rfl
@[simp] theorem State.setInput_link (s : State) (c : Fin 16) (i : CaptureInput) : (s.setInput c i).link = s.link := rfl
@[simp] theorem State.setInput_mem (s : State) (c : Fin 16) (i : CaptureInput) : (s.setInput c i).mem = s.mem := rfl
@[simp] theorem State.setInput_port (s : State) (c : Fin 16) (i : CaptureInput) : (s.setInput c i).port = s.port := rfl
@[simp] theorem State.setInput_config (s : State) (c : Fin 16) (i : CaptureInput) : (s.setInput c i).config = s.config := rfl
@[simp] theorem State.setInput_frameNo (s : State) (c : Fin 16) (i : CaptureInput) : (s.setInput c i).frameNo = s.frameNo := rfl
@[simp] theorem State.setInput_live (s : State) (c : Fin 16) (i : CaptureInput) : (s.setInput c i).live = s.live := rfl
@[simp] theorem State.setInput_builder (s : State) (c : Fin 16) (i : CaptureInput) : (s.setInput c i).builder = s.builder := rfl
@[simp] theorem State.setInput_sources (s : State) (c : Fin 16) (i : CaptureInput) : (s.setInput c i).sources = s.sources := rfl
@[simp] theorem State.setInput_alarms (s : State) (c : Fin 16) (i : CaptureInput) : (s.setInput c i).alarms = s.alarms := rfl
@[simp] theorem State.setInput_alarmsLater (s : State) (c : Fin 16) (i : CaptureInput) : (s.setInput c i).alarmsLater = s.alarmsLater := rfl
@[simp] theorem State.setInput_engines (s : State) (c : Fin 16) (i : CaptureInput) : (s.setInput c i).engines = s.engines := rfl
@[simp] theorem State.setInput_view (s : State) (c : Fin 16) (i : CaptureInput) : (s.setInput c i).view = s.view := rfl
@[simp] theorem State.setInput_ring (s : State) (c : Fin 16) (i : CaptureInput) : (s.setInput c i).ring = s.ring := rfl
@[simp] theorem State.setInput_status (s : State) (c : Fin 16) (i : CaptureInput) : (s.setInput c i).status = s.status := rfl
@[simp] theorem State.setInput_pending (s : State) (c : Fin 16) (i : CaptureInput) : (s.setInput c i).pending = s.pending := rfl

@[simp] theorem State.setEngine_control (s : State) (t : Fin 16) (e : TileEngine) : (s.setEngine t e).control = s.control := rfl
@[simp] theorem State.setEngine_link (s : State) (t : Fin 16) (e : TileEngine) : (s.setEngine t e).link = s.link := rfl
@[simp] theorem State.setEngine_mem (s : State) (t : Fin 16) (e : TileEngine) : (s.setEngine t e).mem = s.mem := rfl
@[simp] theorem State.setEngine_port (s : State) (t : Fin 16) (e : TileEngine) : (s.setEngine t e).port = s.port := rfl
@[simp] theorem State.setEngine_config (s : State) (t : Fin 16) (e : TileEngine) : (s.setEngine t e).config = s.config := rfl
@[simp] theorem State.setEngine_frameNo (s : State) (t : Fin 16) (e : TileEngine) : (s.setEngine t e).frameNo = s.frameNo := rfl
@[simp] theorem State.setEngine_live (s : State) (t : Fin 16) (e : TileEngine) : (s.setEngine t e).live = s.live := rfl
@[simp] theorem State.setEngine_builder (s : State) (t : Fin 16) (e : TileEngine) : (s.setEngine t e).builder = s.builder := rfl
@[simp] theorem State.setEngine_sources (s : State) (t : Fin 16) (e : TileEngine) : (s.setEngine t e).sources = s.sources := rfl
@[simp] theorem State.setEngine_inputs (s : State) (t : Fin 16) (e : TileEngine) : (s.setEngine t e).inputs = s.inputs := rfl
@[simp] theorem State.setEngine_alarms (s : State) (t : Fin 16) (e : TileEngine) : (s.setEngine t e).alarms = s.alarms := rfl
@[simp] theorem State.setEngine_alarmsLater (s : State) (t : Fin 16) (e : TileEngine) : (s.setEngine t e).alarmsLater = s.alarmsLater := rfl
@[simp] theorem State.setEngine_view (s : State) (t : Fin 16) (e : TileEngine) : (s.setEngine t e).view = s.view := rfl
@[simp] theorem State.setEngine_ring (s : State) (t : Fin 16) (e : TileEngine) : (s.setEngine t e).ring = s.ring := rfl
@[simp] theorem State.setEngine_status (s : State) (t : Fin 16) (e : TileEngine) : (s.setEngine t e).status = s.status := rfl
@[simp] theorem State.setEngine_pending (s : State) (t : Fin 16) (e : TileEngine) : (s.setEngine t e).pending = s.pending := rfl

end Sys2Proof.Machine
end

