-- ==== Sys2Proof/Laws/FrameBuild.lean ====
section
/-! SUPPORT. Frames: for the builder's and the alarm contact unit's operations, one lemma for each field of State that the operation leaves alone. -/

namespace Sys2Proof.Machine

@[simp] theorem State.startBuild_control (s : State) (kind : BuildKind) : (s.startBuild kind).control = s.control := rfl
@[simp] theorem State.startBuild_link (s : State) (kind : BuildKind) : (s.startBuild kind).link = s.link := rfl
@[simp] theorem State.startBuild_mem (s : State) (kind : BuildKind) : (s.startBuild kind).mem = s.mem := rfl
@[simp] theorem State.startBuild_port (s : State) (kind : BuildKind) : (s.startBuild kind).port = s.port := rfl
@[simp] theorem State.startBuild_config (s : State) (kind : BuildKind) : (s.startBuild kind).config = s.config := rfl
@[simp] theorem State.startBuild_frameNo (s : State) (kind : BuildKind) : (s.startBuild kind).frameNo = s.frameNo := rfl
@[simp] theorem State.startBuild_live (s : State) (kind : BuildKind) : (s.startBuild kind).live = s.live := rfl
@[simp] theorem State.startBuild_sources (s : State) (kind : BuildKind) : (s.startBuild kind).sources = s.sources := rfl
@[simp] theorem State.startBuild_inputs (s : State) (kind : BuildKind) : (s.startBuild kind).inputs = s.inputs := rfl
@[simp] theorem State.startBuild_alarms (s : State) (kind : BuildKind) : (s.startBuild kind).alarms = s.alarms := rfl
@[simp] theorem State.startBuild_alarmsLater (s : State) (kind : BuildKind) : (s.startBuild kind).alarmsLater = s.alarmsLater := rfl
@[simp] theorem State.startBuild_engines (s : State) (kind : BuildKind) : (s.startBuild kind).engines = s.engines := rfl
@[simp] theorem State.startBuild_view (s : State) (kind : BuildKind) : (s.startBuild kind).view = s.view := rfl
@[simp] theorem State.startBuild_ring (s : State) (kind : BuildKind) : (s.startBuild kind).ring = s.ring := rfl
@[simp] theorem State.startBuild_status (s : State) (kind : BuildKind) : (s.startBuild kind).status = s.status := rfl
@[simp] theorem State.startBuild_pending (s : State) (kind : BuildKind) : (s.startBuild kind).pending = s.pending := rfl

@[simp] theorem State.raisedChanged_control (s : State) : (s.raisedChanged).control = s.control := by
  unfold State.raisedChanged; split <;> rfl
@[simp] theorem State.raisedChanged_link (s : State) : (s.raisedChanged).link = s.link := by
  unfold State.raisedChanged; split <;> rfl
@[simp] theorem State.raisedChanged_mem (s : State) : (s.raisedChanged).mem = s.mem := by
  unfold State.raisedChanged; split <;> rfl
@[simp] theorem State.raisedChanged_port (s : State) : (s.raisedChanged).port = s.port := by
  unfold State.raisedChanged; split <;> rfl
@[simp] theorem State.raisedChanged_config (s : State) : (s.raisedChanged).config = s.config := by
  unfold State.raisedChanged; split <;> rfl
@[simp] theorem State.raisedChanged_frameNo (s : State) : (s.raisedChanged).frameNo = s.frameNo := by
  unfold State.raisedChanged; split <;> rfl
@[simp] theorem State.raisedChanged_live (s : State) : (s.raisedChanged).live = s.live := by
  unfold State.raisedChanged; split <;> rfl
@[simp] theorem State.raisedChanged_sources (s : State) : (s.raisedChanged).sources = s.sources := by
  unfold State.raisedChanged; split <;> rfl
@[simp] theorem State.raisedChanged_inputs (s : State) : (s.raisedChanged).inputs = s.inputs := by
  unfold State.raisedChanged; split <;> rfl
@[simp] theorem State.raisedChanged_alarms (s : State) : (s.raisedChanged).alarms = s.alarms := by
  unfold State.raisedChanged; split <;> rfl
@[simp] theorem State.raisedChanged_alarmsLater (s : State) : (s.raisedChanged).alarmsLater = s.alarmsLater := by
  unfold State.raisedChanged; split <;> rfl
@[simp] theorem State.raisedChanged_engines (s : State) : (s.raisedChanged).engines = s.engines := by
  unfold State.raisedChanged; split <;> rfl
@[simp] theorem State.raisedChanged_view (s : State) : (s.raisedChanged).view = s.view := by
  unfold State.raisedChanged; split <;> rfl
@[simp] theorem State.raisedChanged_ring (s : State) : (s.raisedChanged).ring = s.ring := by
  unfold State.raisedChanged; split <;> rfl
@[simp] theorem State.raisedChanged_status (s : State) : (s.raisedChanged).status = s.status := by
  unfold State.raisedChanged; split <;> rfl
@[simp] theorem State.raisedChanged_pending (s : State) : (s.raisedChanged).pending = s.pending := by
  unfold State.raisedChanged; split <;> rfl

@[simp] theorem State.makeMoves_control (s : State) (a : Vector AlarmInput 8) : (s.makeMoves a).control = s.control := by
  unfold State.makeMoves; dsimp only; split <;> simp
@[simp] theorem State.makeMoves_mem (s : State) (a : Vector AlarmInput 8) : (s.makeMoves a).mem = s.mem := by
  unfold State.makeMoves; dsimp only; split <;> simp
@[simp] theorem State.makeMoves_port (s : State) (a : Vector AlarmInput 8) : (s.makeMoves a).port = s.port := by
  unfold State.makeMoves; dsimp only; split <;> simp
@[simp] theorem State.makeMoves_config (s : State) (a : Vector AlarmInput 8) : (s.makeMoves a).config = s.config := by
  unfold State.makeMoves; dsimp only; split <;> simp
@[simp] theorem State.makeMoves_frameNo (s : State) (a : Vector AlarmInput 8) : (s.makeMoves a).frameNo = s.frameNo := by
  unfold State.makeMoves; dsimp only; split <;> simp
@[simp] theorem State.makeMoves_live (s : State) (a : Vector AlarmInput 8) : (s.makeMoves a).live = s.live := by
  unfold State.makeMoves; dsimp only; split <;> simp
@[simp] theorem State.makeMoves_sources (s : State) (a : Vector AlarmInput 8) : (s.makeMoves a).sources = s.sources := by
  unfold State.makeMoves; dsimp only; split <;> simp
@[simp] theorem State.makeMoves_inputs (s : State) (a : Vector AlarmInput 8) : (s.makeMoves a).inputs = s.inputs := by
  unfold State.makeMoves; dsimp only; split <;> simp
@[simp] theorem State.makeMoves_alarmsLater (s : State) (a : Vector AlarmInput 8) : (s.makeMoves a).alarmsLater = s.alarmsLater := by
  unfold State.makeMoves; dsimp only; split <;> simp
@[simp] theorem State.makeMoves_engines (s : State) (a : Vector AlarmInput 8) : (s.makeMoves a).engines = s.engines := by
  unfold State.makeMoves; dsimp only; split <;> simp
@[simp] theorem State.makeMoves_view (s : State) (a : Vector AlarmInput 8) : (s.makeMoves a).view = s.view := by
  unfold State.makeMoves; dsimp only; split <;> simp
@[simp] theorem State.makeMoves_ring (s : State) (a : Vector AlarmInput 8) : (s.makeMoves a).ring = s.ring := by
  unfold State.makeMoves; dsimp only; split <;> simp
@[simp] theorem State.makeMoves_status (s : State) (a : Vector AlarmInput 8) : (s.makeMoves a).status = s.status := by
  unfold State.makeMoves; dsimp only; split <;> simp
@[simp] theorem State.makeMoves_pending (s : State) (a : Vector AlarmInput 8) : (s.makeMoves a).pending = s.pending := by
  unfold State.makeMoves; dsimp only; split <;> simp
@[simp] theorem State.makeMoves_link (s : State) (a : Vector AlarmInput 8) : (s.makeMoves a).link = s.link := by
  unfold State.makeMoves; dsimp only; split <;> simp
@[simp] theorem State.makeMoves_alarms (s : State) (a : Vector AlarmInput 8) : (s.makeMoves a).alarms = a := by
  unfold State.makeMoves; dsimp only; split <;> simp

@[simp] theorem State.alarmWork_control (s : State) (a : Vector AlarmInput 8) (moved : Bool) : (s.alarmWork a moved).control = s.control := by
  simp [State.alarmWork]
@[simp] theorem State.alarmWork_mem (s : State) (a : Vector AlarmInput 8) (moved : Bool) : (s.alarmWork a moved).mem = s.mem := by
  simp [State.alarmWork]
@[simp] theorem State.alarmWork_port (s : State) (a : Vector AlarmInput 8) (moved : Bool) : (s.alarmWork a moved).port = s.port := by
  simp [State.alarmWork]
@[simp] theorem State.alarmWork_config (s : State) (a : Vector AlarmInput 8) (moved : Bool) : (s.alarmWork a moved).config = s.config := by
  simp [State.alarmWork]
@[simp] theorem State.alarmWork_frameNo (s : State) (a : Vector AlarmInput 8) (moved : Bool) : (s.alarmWork a moved).frameNo = s.frameNo := by
  simp [State.alarmWork]
@[simp] theorem State.alarmWork_live (s : State) (a : Vector AlarmInput 8) (moved : Bool) : (s.alarmWork a moved).live = s.live := by
  simp [State.alarmWork]
@[simp] theorem State.alarmWork_sources (s : State) (a : Vector AlarmInput 8) (moved : Bool) : (s.alarmWork a moved).sources = s.sources := by
  simp [State.alarmWork]
@[simp] theorem State.alarmWork_inputs (s : State) (a : Vector AlarmInput 8) (moved : Bool) : (s.alarmWork a moved).inputs = s.inputs := by
  simp [State.alarmWork]
@[simp] theorem State.alarmWork_alarmsLater (s : State) (a : Vector AlarmInput 8) (moved : Bool) : (s.alarmWork a moved).alarmsLater = s.alarmsLater := by
  simp [State.alarmWork]
@[simp] theorem State.alarmWork_engines (s : State) (a : Vector AlarmInput 8) (moved : Bool) : (s.alarmWork a moved).engines = s.engines := by
  simp [State.alarmWork]
@[simp] theorem State.alarmWork_view (s : State) (a : Vector AlarmInput 8) (moved : Bool) : (s.alarmWork a moved).view = s.view := by
  simp [State.alarmWork]
@[simp] theorem State.alarmWork_ring (s : State) (a : Vector AlarmInput 8) (moved : Bool) : (s.alarmWork a moved).ring = s.ring := by
  simp [State.alarmWork]
@[simp] theorem State.alarmWork_status (s : State) (a : Vector AlarmInput 8) (moved : Bool) : (s.alarmWork a moved).status = s.status := by
  simp [State.alarmWork]
@[simp] theorem State.alarmWork_pending (s : State) (a : Vector AlarmInput 8) (moved : Bool) : (s.alarmWork a moved).pending = s.pending := by
  simp [State.alarmWork]

@[simp] theorem State.alarmStep_control (s : State) (x : AlarmStep) : (s.alarmStep x).control = s.control := by
  simp [State.alarmStep]
@[simp] theorem State.alarmStep_mem (s : State) (x : AlarmStep) : (s.alarmStep x).mem = s.mem := by
  simp [State.alarmStep]
@[simp] theorem State.alarmStep_port (s : State) (x : AlarmStep) : (s.alarmStep x).port = s.port := by
  simp [State.alarmStep]
@[simp] theorem State.alarmStep_config (s : State) (x : AlarmStep) : (s.alarmStep x).config = s.config := by
  simp [State.alarmStep]
@[simp] theorem State.alarmStep_frameNo (s : State) (x : AlarmStep) : (s.alarmStep x).frameNo = s.frameNo := by
  simp [State.alarmStep]
@[simp] theorem State.alarmStep_live (s : State) (x : AlarmStep) : (s.alarmStep x).live = s.live := by
  simp [State.alarmStep]
@[simp] theorem State.alarmStep_sources (s : State) (x : AlarmStep) : (s.alarmStep x).sources = s.sources := by
  simp [State.alarmStep]
@[simp] theorem State.alarmStep_inputs (s : State) (x : AlarmStep) : (s.alarmStep x).inputs = s.inputs := by
  simp [State.alarmStep]
@[simp] theorem State.alarmStep_alarmsLater (s : State) (x : AlarmStep) : (s.alarmStep x).alarmsLater = s.alarmsLater := by
  simp [State.alarmStep]
@[simp] theorem State.alarmStep_engines (s : State) (x : AlarmStep) : (s.alarmStep x).engines = s.engines := by
  simp [State.alarmStep]
@[simp] theorem State.alarmStep_view (s : State) (x : AlarmStep) : (s.alarmStep x).view = s.view := by
  simp [State.alarmStep]
@[simp] theorem State.alarmStep_ring (s : State) (x : AlarmStep) : (s.alarmStep x).ring = s.ring := by
  simp [State.alarmStep]
@[simp] theorem State.alarmStep_status (s : State) (x : AlarmStep) : (s.alarmStep x).status = s.status := by
  simp [State.alarmStep]
@[simp] theorem State.alarmStep_pending (s : State) (x : AlarmStep) : (s.alarmStep x).pending = s.pending := by
  simp [State.alarmStep]

@[simp] theorem State.sampleContacts_control (s : State) (high : Groups) : (s.sampleContacts high).control = s.control := by
  simp [State.sampleContacts]
@[simp] theorem State.sampleContacts_mem (s : State) (high : Groups) : (s.sampleContacts high).mem = s.mem := by
  simp [State.sampleContacts]
@[simp] theorem State.sampleContacts_port (s : State) (high : Groups) : (s.sampleContacts high).port = s.port := by
  simp [State.sampleContacts]
@[simp] theorem State.sampleContacts_config (s : State) (high : Groups) : (s.sampleContacts high).config = s.config := by
  simp [State.sampleContacts]
@[simp] theorem State.sampleContacts_frameNo (s : State) (high : Groups) : (s.sampleContacts high).frameNo = s.frameNo := by
  simp [State.sampleContacts]
@[simp] theorem State.sampleContacts_live (s : State) (high : Groups) : (s.sampleContacts high).live = s.live := by
  simp [State.sampleContacts]
@[simp] theorem State.sampleContacts_sources (s : State) (high : Groups) : (s.sampleContacts high).sources = s.sources := by
  simp [State.sampleContacts]
@[simp] theorem State.sampleContacts_inputs (s : State) (high : Groups) : (s.sampleContacts high).inputs = s.inputs := by
  simp [State.sampleContacts]
@[simp] theorem State.sampleContacts_alarmsLater (s : State) (high : Groups) : (s.sampleContacts high).alarmsLater = s.alarmsLater := by
  simp [State.sampleContacts]
@[simp] theorem State.sampleContacts_engines (s : State) (high : Groups) : (s.sampleContacts high).engines = s.engines := by
  simp [State.sampleContacts]
@[simp] theorem State.sampleContacts_view (s : State) (high : Groups) : (s.sampleContacts high).view = s.view := by
  simp [State.sampleContacts]
@[simp] theorem State.sampleContacts_ring (s : State) (high : Groups) : (s.sampleContacts high).ring = s.ring := by
  simp [State.sampleContacts]
@[simp] theorem State.sampleContacts_status (s : State) (high : Groups) : (s.sampleContacts high).status = s.status := by
  simp [State.sampleContacts]
@[simp] theorem State.sampleContacts_pending (s : State) (high : Groups) : (s.sampleContacts high).pending = s.pending := by
  simp [State.sampleContacts]

@[simp] theorem State.alarmTakes_control (s : State) (x : AlarmStep) : (s.alarmTakes x).control = s.control := by
  unfold State.alarmTakes; split <;> simp
@[simp] theorem State.alarmTakes_mem (s : State) (x : AlarmStep) : (s.alarmTakes x).mem = s.mem := by
  unfold State.alarmTakes; split <;> simp
@[simp] theorem State.alarmTakes_port (s : State) (x : AlarmStep) : (s.alarmTakes x).port = s.port := by
  unfold State.alarmTakes; split <;> simp
@[simp] theorem State.alarmTakes_config (s : State) (x : AlarmStep) : (s.alarmTakes x).config = s.config := by
  unfold State.alarmTakes; split <;> simp
@[simp] theorem State.alarmTakes_frameNo (s : State) (x : AlarmStep) : (s.alarmTakes x).frameNo = s.frameNo := by
  unfold State.alarmTakes; split <;> simp
@[simp] theorem State.alarmTakes_live (s : State) (x : AlarmStep) : (s.alarmTakes x).live = s.live := by
  unfold State.alarmTakes; split <;> simp
@[simp] theorem State.alarmTakes_sources (s : State) (x : AlarmStep) : (s.alarmTakes x).sources = s.sources := by
  unfold State.alarmTakes; split <;> simp
@[simp] theorem State.alarmTakes_inputs (s : State) (x : AlarmStep) : (s.alarmTakes x).inputs = s.inputs := by
  unfold State.alarmTakes; split <;> simp
@[simp] theorem State.alarmTakes_engines (s : State) (x : AlarmStep) : (s.alarmTakes x).engines = s.engines := by
  unfold State.alarmTakes; split <;> simp
@[simp] theorem State.alarmTakes_view (s : State) (x : AlarmStep) : (s.alarmTakes x).view = s.view := by
  unfold State.alarmTakes; split <;> simp
@[simp] theorem State.alarmTakes_ring (s : State) (x : AlarmStep) : (s.alarmTakes x).ring = s.ring := by
  unfold State.alarmTakes; split <;> simp
@[simp] theorem State.alarmTakes_status (s : State) (x : AlarmStep) : (s.alarmTakes x).status = s.status := by
  unfold State.alarmTakes; split <;> simp
@[simp] theorem State.alarmTakes_pending (s : State) (x : AlarmStep) : (s.alarmTakes x).pending = s.pending := by
  unfold State.alarmTakes; split <;> simp

@[simp] theorem State.copyFollows_control (s t : State) : (s.copyFollows t).control = t.control := by
  unfold State.copyFollows; split <;> rfl
@[simp] theorem State.copyFollows_link (s t : State) : (s.copyFollows t).link = t.link := by
  unfold State.copyFollows; split <;> rfl
@[simp] theorem State.copyFollows_mem (s t : State) : (s.copyFollows t).mem = t.mem := by
  unfold State.copyFollows; split <;> rfl
@[simp] theorem State.copyFollows_port (s t : State) : (s.copyFollows t).port = t.port := by
  unfold State.copyFollows; split <;> rfl
@[simp] theorem State.copyFollows_config (s t : State) : (s.copyFollows t).config = t.config := by
  unfold State.copyFollows; split <;> rfl
@[simp] theorem State.copyFollows_frameNo (s t : State) : (s.copyFollows t).frameNo = t.frameNo := by
  unfold State.copyFollows; split <;> rfl
@[simp] theorem State.copyFollows_live (s t : State) : (s.copyFollows t).live = t.live := by
  unfold State.copyFollows; split <;> rfl
@[simp] theorem State.copyFollows_builder (s t : State) : (s.copyFollows t).builder = t.builder := by
  unfold State.copyFollows; split <;> rfl
@[simp] theorem State.copyFollows_sources (s t : State) : (s.copyFollows t).sources = t.sources := by
  unfold State.copyFollows; split <;> rfl
@[simp] theorem State.copyFollows_inputs (s t : State) : (s.copyFollows t).inputs = t.inputs := by
  unfold State.copyFollows; split <;> rfl
@[simp] theorem State.copyFollows_alarms (s t : State) : (s.copyFollows t).alarms = t.alarms := by
  unfold State.copyFollows; split <;> rfl
@[simp] theorem State.copyFollows_alarmsLater (s t : State) : (s.copyFollows t).alarmsLater = t.alarmsLater := by
  unfold State.copyFollows; split <;> rfl
@[simp] theorem State.copyFollows_engines (s t : State) : (s.copyFollows t).engines = t.engines := by
  unfold State.copyFollows; split <;> rfl
@[simp] theorem State.copyFollows_view (s t : State) : (s.copyFollows t).view = t.view := by
  unfold State.copyFollows; split <;> rfl
@[simp] theorem State.copyFollows_ring (s t : State) : (s.copyFollows t).ring = t.ring := by
  unfold State.copyFollows; split <;> rfl
@[simp] theorem State.copyFollows_pending (s t : State) : (s.copyFollows t).pending = t.pending := by
  unfold State.copyFollows; split <;> rfl

@[simp] theorem State.alarmStepLate_control (more : Bool) (s : State) (x : AlarmStep) : (State.alarmStepLate more s x).control = s.control := by
  unfold State.alarmStepLate; dsimp only; split <;> simp
@[simp] theorem State.alarmStepLate_mem (more : Bool) (s : State) (x : AlarmStep) : (State.alarmStepLate more s x).mem = s.mem := by
  unfold State.alarmStepLate; dsimp only; split <;> simp
@[simp] theorem State.alarmStepLate_port (more : Bool) (s : State) (x : AlarmStep) : (State.alarmStepLate more s x).port = s.port := by
  unfold State.alarmStepLate; dsimp only; split <;> simp
@[simp] theorem State.alarmStepLate_config (more : Bool) (s : State) (x : AlarmStep) : (State.alarmStepLate more s x).config = s.config := by
  unfold State.alarmStepLate; dsimp only; split <;> simp
@[simp] theorem State.alarmStepLate_frameNo (more : Bool) (s : State) (x : AlarmStep) : (State.alarmStepLate more s x).frameNo = s.frameNo := by
  unfold State.alarmStepLate; dsimp only; split <;> simp
@[simp] theorem State.alarmStepLate_live (more : Bool) (s : State) (x : AlarmStep) : (State.alarmStepLate more s x).live = s.live := by
  unfold State.alarmStepLate; dsimp only; split <;> simp
@[simp] theorem State.alarmStepLate_sources (more : Bool) (s : State) (x : AlarmStep) : (State.alarmStepLate more s x).sources = s.sources := by
  unfold State.alarmStepLate; dsimp only; split <;> simp
@[simp] theorem State.alarmStepLate_inputs (more : Bool) (s : State) (x : AlarmStep) : (State.alarmStepLate more s x).inputs = s.inputs := by
  unfold State.alarmStepLate; dsimp only; split <;> simp
@[simp] theorem State.alarmStepLate_alarmsLater (more : Bool) (s : State) (x : AlarmStep) : (State.alarmStepLate more s x).alarmsLater = s.alarmsLater := by
  unfold State.alarmStepLate; dsimp only; split <;> simp
@[simp] theorem State.alarmStepLate_engines (more : Bool) (s : State) (x : AlarmStep) : (State.alarmStepLate more s x).engines = s.engines := by
  unfold State.alarmStepLate; dsimp only; split <;> simp
@[simp] theorem State.alarmStepLate_view (more : Bool) (s : State) (x : AlarmStep) : (State.alarmStepLate more s x).view = s.view := by
  unfold State.alarmStepLate; dsimp only; split <;> simp
@[simp] theorem State.alarmStepLate_ring (more : Bool) (s : State) (x : AlarmStep) : (State.alarmStepLate more s x).ring = s.ring := by
  unfold State.alarmStepLate; dsimp only; split <;> simp
@[simp] theorem State.alarmStepLate_pending (more : Bool) (s : State) (x : AlarmStep) : (State.alarmStepLate more s x).pending = s.pending := by
  unfold State.alarmStepLate; dsimp only; split <;> simp

@[simp] theorem State.alarmStepsLate_control (more : Bool) (xs : List AlarmStep) (s : State) :
    (xs.foldl (State.alarmStepLate more) s).control = s.control := by
  induction xs generalizing s with
  | nil => rfl
  | cons a as ih => simp [ih]
@[simp] theorem State.alarmStepsLate_mem (more : Bool) (xs : List AlarmStep) (s : State) :
    (xs.foldl (State.alarmStepLate more) s).mem = s.mem := by
  induction xs generalizing s with
  | nil => rfl
  | cons a as ih => simp [ih]
@[simp] theorem State.alarmStepsLate_port (more : Bool) (xs : List AlarmStep) (s : State) :
    (xs.foldl (State.alarmStepLate more) s).port = s.port := by
  induction xs generalizing s with
  | nil => rfl
  | cons a as ih => simp [ih]
@[simp] theorem State.alarmStepsLate_config (more : Bool) (xs : List AlarmStep) (s : State) :
    (xs.foldl (State.alarmStepLate more) s).config = s.config := by
  induction xs generalizing s with
  | nil => rfl
  | cons a as ih => simp [ih]
@[simp] theorem State.alarmStepsLate_frameNo (more : Bool) (xs : List AlarmStep) (s : State) :
    (xs.foldl (State.alarmStepLate more) s).frameNo = s.frameNo := by
  induction xs generalizing s with
  | nil => rfl
  | cons a as ih => simp [ih]
@[simp] theorem State.alarmStepsLate_live (more : Bool) (xs : List AlarmStep) (s : State) :
    (xs.foldl (State.alarmStepLate more) s).live = s.live := by
  induction xs generalizing s with
  | nil => rfl
  | cons a as ih => simp [ih]
@[simp] theorem State.alarmStepsLate_sources (more : Bool) (xs : List AlarmStep) (s : State) :
    (xs.foldl (State.alarmStepLate more) s).sources = s.sources := by
  induction xs generalizing s with
  | nil => rfl
  | cons a as ih => simp [ih]
@[simp] theorem State.alarmStepsLate_inputs (more : Bool) (xs : List AlarmStep) (s : State) :
    (xs.foldl (State.alarmStepLate more) s).inputs = s.inputs := by
  induction xs generalizing s with
  | nil => rfl
  | cons a as ih => simp [ih]
@[simp] theorem State.alarmStepsLate_alarmsLater (more : Bool) (xs : List AlarmStep) (s : State) :
    (xs.foldl (State.alarmStepLate more) s).alarmsLater = s.alarmsLater := by
  induction xs generalizing s with
  | nil => rfl
  | cons a as ih => simp [ih]
@[simp] theorem State.alarmStepsLate_engines (more : Bool) (xs : List AlarmStep) (s : State) :
    (xs.foldl (State.alarmStepLate more) s).engines = s.engines := by
  induction xs generalizing s with
  | nil => rfl
  | cons a as ih => simp [ih]
@[simp] theorem State.alarmStepsLate_view (more : Bool) (xs : List AlarmStep) (s : State) :
    (xs.foldl (State.alarmStepLate more) s).view = s.view := by
  induction xs generalizing s with
  | nil => rfl
  | cons a as ih => simp [ih]
@[simp] theorem State.alarmStepsLate_ring (more : Bool) (xs : List AlarmStep) (s : State) :
    (xs.foldl (State.alarmStepLate more) s).ring = s.ring := by
  induction xs generalizing s with
  | nil => rfl
  | cons a as ih => simp [ih]
@[simp] theorem State.alarmStepsLate_pending (more : Bool) (xs : List AlarmStep) (s : State) :
    (xs.foldl (State.alarmStepLate more) s).pending = s.pending := by
  induction xs generalizing s with
  | nil => rfl
  | cons a as ih => simp [ih]

@[simp] theorem State.alarmsGoOn_control (s : State) (more : Bool) : (s.alarmsGoOn more).control = s.control := by
  unfold State.alarmsGoOn; split <;> simp
@[simp] theorem State.alarmsGoOn_mem (s : State) (more : Bool) : (s.alarmsGoOn more).mem = s.mem := by
  unfold State.alarmsGoOn; split <;> simp
@[simp] theorem State.alarmsGoOn_port (s : State) (more : Bool) : (s.alarmsGoOn more).port = s.port := by
  unfold State.alarmsGoOn; split <;> simp
@[simp] theorem State.alarmsGoOn_config (s : State) (more : Bool) : (s.alarmsGoOn more).config = s.config := by
  unfold State.alarmsGoOn; split <;> simp
@[simp] theorem State.alarmsGoOn_frameNo (s : State) (more : Bool) : (s.alarmsGoOn more).frameNo = s.frameNo := by
  unfold State.alarmsGoOn; split <;> simp
@[simp] theorem State.alarmsGoOn_live (s : State) (more : Bool) : (s.alarmsGoOn more).live = s.live := by
  unfold State.alarmsGoOn; split <;> simp
@[simp] theorem State.alarmsGoOn_sources (s : State) (more : Bool) : (s.alarmsGoOn more).sources = s.sources := by
  unfold State.alarmsGoOn; split <;> simp
@[simp] theorem State.alarmsGoOn_inputs (s : State) (more : Bool) : (s.alarmsGoOn more).inputs = s.inputs := by
  unfold State.alarmsGoOn; split <;> simp
@[simp] theorem State.alarmsGoOn_engines (s : State) (more : Bool) : (s.alarmsGoOn more).engines = s.engines := by
  unfold State.alarmsGoOn; split <;> simp
@[simp] theorem State.alarmsGoOn_view (s : State) (more : Bool) : (s.alarmsGoOn more).view = s.view := by
  unfold State.alarmsGoOn; split <;> simp
@[simp] theorem State.alarmsGoOn_ring (s : State) (more : Bool) : (s.alarmsGoOn more).ring = s.ring := by
  unfold State.alarmsGoOn; split <;> simp
@[simp] theorem State.alarmsGoOn_pending (s : State) (more : Bool) : (s.alarmsGoOn more).pending = s.pending := by
  unfold State.alarmsGoOn; split <;> simp

@[simp] theorem State.swap_control (s : State) : (s.swap).control = s.control := by
  unfold State.swap; (repeat' split) <;> simp
@[simp] theorem State.swap_mem (s : State) : (s.swap).mem = s.mem := by
  unfold State.swap; (repeat' split) <;> simp
@[simp] theorem State.swap_port (s : State) : (s.swap).port = s.port := by
  unfold State.swap; (repeat' split) <;> simp
@[simp] theorem State.swap_config (s : State) : (s.swap).config = s.config := by
  unfold State.swap; (repeat' split) <;> simp
@[simp] theorem State.swap_frameNo (s : State) : (s.swap).frameNo = s.frameNo := by
  unfold State.swap; (repeat' split) <;> simp
@[simp] theorem State.swap_sources (s : State) : (s.swap).sources = s.sources := by
  unfold State.swap; (repeat' split) <;> simp
@[simp] theorem State.swap_inputs (s : State) : (s.swap).inputs = s.inputs := by
  unfold State.swap; (repeat' split) <;> simp
@[simp] theorem State.swap_alarms (s : State) : (s.swap).alarms = s.alarms := by
  unfold State.swap; (repeat' split) <;> simp
@[simp] theorem State.swap_alarmsLater (s : State) : (s.swap).alarmsLater = s.alarmsLater := by
  unfold State.swap; (repeat' split) <;> simp
@[simp] theorem State.swap_engines (s : State) : (s.swap).engines = s.engines := by
  unfold State.swap; (repeat' split) <;> simp
@[simp] theorem State.swap_view (s : State) : (s.swap).view = s.view := by
  unfold State.swap; (repeat' split) <;> simp
@[simp] theorem State.swap_ring (s : State) : (s.swap).ring = s.ring := by
  unfold State.swap; (repeat' split) <;> simp
@[simp] theorem State.swap_status (s : State) : (s.swap).status = s.status := by
  unfold State.swap; (repeat' split) <;> simp
@[simp] theorem State.swap_pending (s : State) : (s.swap).pending = s.pending := by
  unfold State.swap; (repeat' split) <;> simp

end Sys2Proof.Machine
end

