-- ==== Sys2Proof/Laws/FrameUnits.lean ====
section
/-! SUPPORT. Frames: for the tile engines' and the capture inputs' operations, one lemma for each field of State that the operation leaves alone. -/

namespace Sys2Proof.Machine

@[simp] theorem State.beginRow_control (s : State) (t : Fin 16) (e : TileEngine) (row : Nat) (into : Bool) : (s.beginRow t e row into).control = s.control := by
  unfold State.beginRow; split <;> rfl
@[simp] theorem State.beginRow_link (s : State) (t : Fin 16) (e : TileEngine) (row : Nat) (into : Bool) : (s.beginRow t e row into).link = s.link := by
  unfold State.beginRow; split <;> rfl
@[simp] theorem State.beginRow_mem (s : State) (t : Fin 16) (e : TileEngine) (row : Nat) (into : Bool) : (s.beginRow t e row into).mem = s.mem := by
  unfold State.beginRow; split <;> rfl
@[simp] theorem State.beginRow_config (s : State) (t : Fin 16) (e : TileEngine) (row : Nat) (into : Bool) : (s.beginRow t e row into).config = s.config := by
  unfold State.beginRow; split <;> rfl
@[simp] theorem State.beginRow_frameNo (s : State) (t : Fin 16) (e : TileEngine) (row : Nat) (into : Bool) : (s.beginRow t e row into).frameNo = s.frameNo := by
  unfold State.beginRow; split <;> rfl
@[simp] theorem State.beginRow_alarmsLater (s : State) (t : Fin 16) (e : TileEngine) (row : Nat) (into : Bool) : (s.beginRow t e row into).alarmsLater = s.alarmsLater := by
  unfold State.beginRow; split <;> rfl
@[simp] theorem State.beginRow_live (s : State) (t : Fin 16) (e : TileEngine) (row : Nat) (into : Bool) : (s.beginRow t e row into).live = s.live := by
  unfold State.beginRow; split <;> rfl
@[simp] theorem State.beginRow_builder (s : State) (t : Fin 16) (e : TileEngine) (row : Nat) (into : Bool) : (s.beginRow t e row into).builder = s.builder := by
  unfold State.beginRow; split <;> rfl
@[simp] theorem State.beginRow_sources (s : State) (t : Fin 16) (e : TileEngine) (row : Nat) (into : Bool) : (s.beginRow t e row into).sources = s.sources := by
  unfold State.beginRow; split <;> rfl
@[simp] theorem State.beginRow_inputs (s : State) (t : Fin 16) (e : TileEngine) (row : Nat) (into : Bool) : (s.beginRow t e row into).inputs = s.inputs := by
  unfold State.beginRow; split <;> rfl
@[simp] theorem State.beginRow_alarms (s : State) (t : Fin 16) (e : TileEngine) (row : Nat) (into : Bool) : (s.beginRow t e row into).alarms = s.alarms := by
  unfold State.beginRow; split <;> rfl
@[simp] theorem State.beginRow_view (s : State) (t : Fin 16) (e : TileEngine) (row : Nat) (into : Bool) : (s.beginRow t e row into).view = s.view := by
  unfold State.beginRow; split <;> rfl
@[simp] theorem State.beginRow_ring (s : State) (t : Fin 16) (e : TileEngine) (row : Nat) (into : Bool) : (s.beginRow t e row into).ring = s.ring := by
  unfold State.beginRow; split <;> rfl
@[simp] theorem State.beginRow_status (s : State) (t : Fin 16) (e : TileEngine) (row : Nat) (into : Bool) : (s.beginRow t e row into).status = s.status := by
  unfold State.beginRow; split <;> rfl
@[simp] theorem State.beginRow_pending (s : State) (t : Fin 16) (e : TileEngine) (row : Nat) (into : Bool) : (s.beginRow t e row into).pending = s.pending := by
  unfold State.beginRow; split <;> rfl

@[simp] theorem State.tilesNewFrame_control (s : State) : (s.tilesNewFrame).control = s.control := by
  simp [State.tilesNewFrame]
@[simp] theorem State.tilesNewFrame_link (s : State) : (s.tilesNewFrame).link = s.link := by
  simp [State.tilesNewFrame]
@[simp] theorem State.tilesNewFrame_mem (s : State) : (s.tilesNewFrame).mem = s.mem := by
  simp [State.tilesNewFrame]
@[simp] theorem State.tilesNewFrame_config (s : State) : (s.tilesNewFrame).config = s.config := by
  simp [State.tilesNewFrame]
@[simp] theorem State.tilesNewFrame_frameNo (s : State) : (s.tilesNewFrame).frameNo = s.frameNo := by
  simp [State.tilesNewFrame]
@[simp] theorem State.tilesNewFrame_alarmsLater (s : State) : (s.tilesNewFrame).alarmsLater = s.alarmsLater := by
  simp [State.tilesNewFrame]
@[simp] theorem State.tilesNewFrame_live (s : State) : (s.tilesNewFrame).live = s.live := by
  simp [State.tilesNewFrame]
@[simp] theorem State.tilesNewFrame_builder (s : State) : (s.tilesNewFrame).builder = s.builder := by
  simp [State.tilesNewFrame]
@[simp] theorem State.tilesNewFrame_sources (s : State) : (s.tilesNewFrame).sources = s.sources := by
  simp [State.tilesNewFrame]
@[simp] theorem State.tilesNewFrame_inputs (s : State) : (s.tilesNewFrame).inputs = s.inputs := by
  simp [State.tilesNewFrame]
@[simp] theorem State.tilesNewFrame_alarms (s : State) : (s.tilesNewFrame).alarms = s.alarms := by
  simp [State.tilesNewFrame]
@[simp] theorem State.tilesNewFrame_ring (s : State) : (s.tilesNewFrame).ring = s.ring := by
  simp [State.tilesNewFrame]
@[simp] theorem State.tilesNewFrame_status (s : State) : (s.tilesNewFrame).status = s.status := by
  simp [State.tilesNewFrame]
@[simp] theorem State.tilesNewFrame_pending (s : State) : (s.tilesNewFrame).pending = s.pending := by
  simp [State.tilesNewFrame]

@[simp] theorem State.tilesTakeView_control (s : State) : (s.tilesTakeView).control = s.control := by
  simp [State.tilesTakeView]
@[simp] theorem State.tilesTakeView_link (s : State) : (s.tilesTakeView).link = s.link := by
  simp [State.tilesTakeView]
@[simp] theorem State.tilesTakeView_mem (s : State) : (s.tilesTakeView).mem = s.mem := by
  simp [State.tilesTakeView]
@[simp] theorem State.tilesTakeView_config (s : State) : (s.tilesTakeView).config = s.config := by
  simp [State.tilesTakeView]
@[simp] theorem State.tilesTakeView_frameNo (s : State) : (s.tilesTakeView).frameNo = s.frameNo := by
  simp [State.tilesTakeView]
@[simp] theorem State.tilesTakeView_alarmsLater (s : State) : (s.tilesTakeView).alarmsLater = s.alarmsLater := by
  simp [State.tilesTakeView]
@[simp] theorem State.tilesTakeView_live (s : State) : (s.tilesTakeView).live = s.live := by
  simp [State.tilesTakeView]
@[simp] theorem State.tilesTakeView_builder (s : State) : (s.tilesTakeView).builder = s.builder := by
  simp [State.tilesTakeView]
@[simp] theorem State.tilesTakeView_sources (s : State) : (s.tilesTakeView).sources = s.sources := by
  simp [State.tilesTakeView]
@[simp] theorem State.tilesTakeView_inputs (s : State) : (s.tilesTakeView).inputs = s.inputs := by
  simp [State.tilesTakeView]
@[simp] theorem State.tilesTakeView_alarms (s : State) : (s.tilesTakeView).alarms = s.alarms := by
  simp [State.tilesTakeView]
@[simp] theorem State.tilesTakeView_ring (s : State) : (s.tilesTakeView).ring = s.ring := by
  simp [State.tilesTakeView]
@[simp] theorem State.tilesTakeView_status (s : State) : (s.tilesTakeView).status = s.status := by
  simp [State.tilesTakeView]
@[simp] theorem State.tilesTakeView_pending (s : State) : (s.tilesTakeView).pending = s.pending := by
  simp [State.tilesTakeView]

@[simp] theorem State.rowComposed_control (s : State) (t : Fin 16) : (s.rowComposed t).control = s.control := by
  unfold State.rowComposed; dsimp only; (repeat' split) <;> simp
@[simp] theorem State.rowComposed_link (s : State) (t : Fin 16) : (s.rowComposed t).link = s.link := by
  unfold State.rowComposed; dsimp only; (repeat' split) <;> simp
@[simp] theorem State.rowComposed_mem (s : State) (t : Fin 16) : (s.rowComposed t).mem = s.mem := by
  unfold State.rowComposed; dsimp only; (repeat' split) <;> simp
@[simp] theorem State.rowComposed_port (s : State) (t : Fin 16) : (s.rowComposed t).port = s.port := by
  unfold State.rowComposed; dsimp only; (repeat' split) <;> simp
@[simp] theorem State.rowComposed_config (s : State) (t : Fin 16) : (s.rowComposed t).config = s.config := by
  unfold State.rowComposed; dsimp only; (repeat' split) <;> simp
@[simp] theorem State.rowComposed_frameNo (s : State) (t : Fin 16) : (s.rowComposed t).frameNo = s.frameNo := by
  unfold State.rowComposed; dsimp only; (repeat' split) <;> simp
@[simp] theorem State.rowComposed_alarmsLater (s : State) (t : Fin 16) : (s.rowComposed t).alarmsLater = s.alarmsLater := by
  unfold State.rowComposed; dsimp only; (repeat' split) <;> simp
@[simp] theorem State.rowComposed_live (s : State) (t : Fin 16) : (s.rowComposed t).live = s.live := by
  unfold State.rowComposed; dsimp only; (repeat' split) <;> simp
@[simp] theorem State.rowComposed_builder (s : State) (t : Fin 16) : (s.rowComposed t).builder = s.builder := by
  unfold State.rowComposed; dsimp only; (repeat' split) <;> simp
@[simp] theorem State.rowComposed_sources (s : State) (t : Fin 16) : (s.rowComposed t).sources = s.sources := by
  unfold State.rowComposed; dsimp only; (repeat' split) <;> simp
@[simp] theorem State.rowComposed_inputs (s : State) (t : Fin 16) : (s.rowComposed t).inputs = s.inputs := by
  unfold State.rowComposed; dsimp only; (repeat' split) <;> simp
@[simp] theorem State.rowComposed_alarms (s : State) (t : Fin 16) : (s.rowComposed t).alarms = s.alarms := by
  unfold State.rowComposed; dsimp only; (repeat' split) <;> simp
@[simp] theorem State.rowComposed_view (s : State) (t : Fin 16) : (s.rowComposed t).view = s.view := by
  unfold State.rowComposed; dsimp only; (repeat' split) <;> simp
@[simp] theorem State.rowComposed_ring (s : State) (t : Fin 16) : (s.rowComposed t).ring = s.ring := by
  unfold State.rowComposed; dsimp only; (repeat' split) <;> simp
@[simp] theorem State.rowComposed_status (s : State) (t : Fin 16) : (s.rowComposed t).status = s.status := by
  unfold State.rowComposed; dsimp only; (repeat' split) <;> simp
@[simp] theorem State.rowComposed_pending (s : State) (t : Fin 16) : (s.rowComposed t).pending = s.pending := by
  unfold State.rowComposed; dsimp only; (repeat' split) <;> simp

@[simp] theorem State.lineStart_control (s : State) (t : Fin 16) : (s.lineStart t).control = s.control := by
  unfold State.lineStart; dsimp only; (repeat' split) <;> simp
@[simp] theorem State.lineStart_mem (s : State) (t : Fin 16) : (s.lineStart t).mem = s.mem := by
  unfold State.lineStart; dsimp only; (repeat' split) <;> simp
@[simp] theorem State.lineStart_config (s : State) (t : Fin 16) : (s.lineStart t).config = s.config := by
  unfold State.lineStart; dsimp only; (repeat' split) <;> simp
@[simp] theorem State.lineStart_frameNo (s : State) (t : Fin 16) : (s.lineStart t).frameNo = s.frameNo := by
  unfold State.lineStart; dsimp only; (repeat' split) <;> simp
@[simp] theorem State.lineStart_alarmsLater (s : State) (t : Fin 16) : (s.lineStart t).alarmsLater = s.alarmsLater := by
  unfold State.lineStart; dsimp only; (repeat' split) <;> simp
@[simp] theorem State.lineStart_live (s : State) (t : Fin 16) : (s.lineStart t).live = s.live := by
  unfold State.lineStart; dsimp only; (repeat' split) <;> simp
@[simp] theorem State.lineStart_builder (s : State) (t : Fin 16) : (s.lineStart t).builder = s.builder := by
  unfold State.lineStart; dsimp only; (repeat' split) <;> simp
@[simp] theorem State.lineStart_sources (s : State) (t : Fin 16) : (s.lineStart t).sources = s.sources := by
  unfold State.lineStart; dsimp only; (repeat' split) <;> simp
@[simp] theorem State.lineStart_inputs (s : State) (t : Fin 16) : (s.lineStart t).inputs = s.inputs := by
  unfold State.lineStart; dsimp only; (repeat' split) <;> simp
@[simp] theorem State.lineStart_alarms (s : State) (t : Fin 16) : (s.lineStart t).alarms = s.alarms := by
  unfold State.lineStart; dsimp only; (repeat' split) <;> simp
@[simp] theorem State.lineStart_view (s : State) (t : Fin 16) : (s.lineStart t).view = s.view := by
  unfold State.lineStart; dsimp only; (repeat' split) <;> simp
@[simp] theorem State.lineStart_ring (s : State) (t : Fin 16) : (s.lineStart t).ring = s.ring := by
  unfold State.lineStart; dsimp only; (repeat' split) <;> simp
@[simp] theorem State.lineStart_status (s : State) (t : Fin 16) : (s.lineStart t).status = s.status := by
  unfold State.lineStart; dsimp only; (repeat' split) <;> simp
@[simp] theorem State.lineStart_pending (s : State) (t : Fin 16) : (s.lineStart t).pending = s.pending := by
  unfold State.lineStart; dsimp only; (repeat' split) <;> simp

@[simp] theorem State.dropCurrentLines_control (s : State) (c : Fin 16) : (s.dropCurrentLines c).control = s.control := by
  unfold State.dropCurrentLines; dsimp only; (repeat' split) <;> simp
@[simp] theorem State.dropCurrentLines_link (s : State) (c : Fin 16) : (s.dropCurrentLines c).link = s.link := by
  unfold State.dropCurrentLines; dsimp only; (repeat' split) <;> simp
@[simp] theorem State.dropCurrentLines_mem (s : State) (c : Fin 16) : (s.dropCurrentLines c).mem = s.mem := by
  unfold State.dropCurrentLines; dsimp only; (repeat' split) <;> simp
@[simp] theorem State.dropCurrentLines_config (s : State) (c : Fin 16) : (s.dropCurrentLines c).config = s.config := by
  unfold State.dropCurrentLines; dsimp only; (repeat' split) <;> simp
@[simp] theorem State.dropCurrentLines_frameNo (s : State) (c : Fin 16) : (s.dropCurrentLines c).frameNo = s.frameNo := by
  unfold State.dropCurrentLines; dsimp only; (repeat' split) <;> simp
@[simp] theorem State.dropCurrentLines_alarmsLater (s : State) (c : Fin 16) : (s.dropCurrentLines c).alarmsLater = s.alarmsLater := by
  unfold State.dropCurrentLines; dsimp only; (repeat' split) <;> simp
@[simp] theorem State.dropCurrentLines_live (s : State) (c : Fin 16) : (s.dropCurrentLines c).live = s.live := by
  unfold State.dropCurrentLines; dsimp only; (repeat' split) <;> simp
@[simp] theorem State.dropCurrentLines_builder (s : State) (c : Fin 16) : (s.dropCurrentLines c).builder = s.builder := by
  unfold State.dropCurrentLines; dsimp only; (repeat' split) <;> simp
@[simp] theorem State.dropCurrentLines_sources (s : State) (c : Fin 16) : (s.dropCurrentLines c).sources = s.sources := by
  unfold State.dropCurrentLines; dsimp only; (repeat' split) <;> simp
@[simp] theorem State.dropCurrentLines_alarms (s : State) (c : Fin 16) : (s.dropCurrentLines c).alarms = s.alarms := by
  unfold State.dropCurrentLines; dsimp only; (repeat' split) <;> simp
@[simp] theorem State.dropCurrentLines_engines (s : State) (c : Fin 16) : (s.dropCurrentLines c).engines = s.engines := by
  unfold State.dropCurrentLines; dsimp only; (repeat' split) <;> simp
@[simp] theorem State.dropCurrentLines_view (s : State) (c : Fin 16) : (s.dropCurrentLines c).view = s.view := by
  unfold State.dropCurrentLines; dsimp only; (repeat' split) <;> simp
@[simp] theorem State.dropCurrentLines_ring (s : State) (c : Fin 16) : (s.dropCurrentLines c).ring = s.ring := by
  unfold State.dropCurrentLines; dsimp only; (repeat' split) <;> simp
@[simp] theorem State.dropCurrentLines_status (s : State) (c : Fin 16) : (s.dropCurrentLines c).status = s.status := by
  unfold State.dropCurrentLines; dsimp only; (repeat' split) <;> simp
@[simp] theorem State.dropCurrentLines_pending (s : State) (c : Fin 16) : (s.dropCurrentLines c).pending = s.pending := by
  unfold State.dropCurrentLines; dsimp only; (repeat' split) <;> simp

@[simp] theorem State.captureIssue_control (s : State) (c : Fin 16) : (s.captureIssue c).control = s.control := by
  unfold State.captureIssue; (repeat' split) <;> rfl
@[simp] theorem State.captureIssue_link (s : State) (c : Fin 16) : (s.captureIssue c).link = s.link := by
  unfold State.captureIssue; (repeat' split) <;> rfl
@[simp] theorem State.captureIssue_mem (s : State) (c : Fin 16) : (s.captureIssue c).mem = s.mem := by
  unfold State.captureIssue; (repeat' split) <;> rfl
@[simp] theorem State.captureIssue_config (s : State) (c : Fin 16) : (s.captureIssue c).config = s.config := by
  unfold State.captureIssue; (repeat' split) <;> rfl
@[simp] theorem State.captureIssue_frameNo (s : State) (c : Fin 16) : (s.captureIssue c).frameNo = s.frameNo := by
  unfold State.captureIssue; (repeat' split) <;> rfl
@[simp] theorem State.captureIssue_alarmsLater (s : State) (c : Fin 16) : (s.captureIssue c).alarmsLater = s.alarmsLater := by
  unfold State.captureIssue; (repeat' split) <;> rfl
@[simp] theorem State.captureIssue_live (s : State) (c : Fin 16) : (s.captureIssue c).live = s.live := by
  unfold State.captureIssue; (repeat' split) <;> rfl
@[simp] theorem State.captureIssue_builder (s : State) (c : Fin 16) : (s.captureIssue c).builder = s.builder := by
  unfold State.captureIssue; (repeat' split) <;> rfl
@[simp] theorem State.captureIssue_sources (s : State) (c : Fin 16) : (s.captureIssue c).sources = s.sources := by
  unfold State.captureIssue; (repeat' split) <;> rfl
@[simp] theorem State.captureIssue_inputs (s : State) (c : Fin 16) : (s.captureIssue c).inputs = s.inputs := by
  unfold State.captureIssue; (repeat' split) <;> rfl
@[simp] theorem State.captureIssue_alarms (s : State) (c : Fin 16) : (s.captureIssue c).alarms = s.alarms := by
  unfold State.captureIssue; (repeat' split) <;> rfl
@[simp] theorem State.captureIssue_engines (s : State) (c : Fin 16) : (s.captureIssue c).engines = s.engines := by
  unfold State.captureIssue; (repeat' split) <;> rfl
@[simp] theorem State.captureIssue_view (s : State) (c : Fin 16) : (s.captureIssue c).view = s.view := by
  unfold State.captureIssue; (repeat' split) <;> rfl
@[simp] theorem State.captureIssue_ring (s : State) (c : Fin 16) : (s.captureIssue c).ring = s.ring := by
  unfold State.captureIssue; (repeat' split) <;> rfl
@[simp] theorem State.captureIssue_status (s : State) (c : Fin 16) : (s.captureIssue c).status = s.status := by
  unfold State.captureIssue; (repeat' split) <;> rfl
@[simp] theorem State.captureIssue_pending (s : State) (c : Fin 16) : (s.captureIssue c).pending = s.pending := by
  unfold State.captureIssue; (repeat' split) <;> rfl

@[simp] theorem State.captureGranted_control (s : State) (c : Fin 16) (tag : Nat) : (s.captureGranted c tag).control = s.control := by
  unfold State.captureGranted; dsimp only; (repeat' split) <;> simp
@[simp] theorem State.captureGranted_link (s : State) (c : Fin 16) (tag : Nat) : (s.captureGranted c tag).link = s.link := by
  unfold State.captureGranted; dsimp only; (repeat' split) <;> simp
@[simp] theorem State.captureGranted_mem (s : State) (c : Fin 16) (tag : Nat) : (s.captureGranted c tag).mem = s.mem := by
  unfold State.captureGranted; dsimp only; (repeat' split) <;> simp
@[simp] theorem State.captureGranted_config (s : State) (c : Fin 16) (tag : Nat) : (s.captureGranted c tag).config = s.config := by
  unfold State.captureGranted; dsimp only; (repeat' split) <;> simp
@[simp] theorem State.captureGranted_frameNo (s : State) (c : Fin 16) (tag : Nat) : (s.captureGranted c tag).frameNo = s.frameNo := by
  unfold State.captureGranted; dsimp only; (repeat' split) <;> simp
@[simp] theorem State.captureGranted_alarmsLater (s : State) (c : Fin 16) (tag : Nat) : (s.captureGranted c tag).alarmsLater = s.alarmsLater := by
  unfold State.captureGranted; dsimp only; (repeat' split) <;> simp
@[simp] theorem State.captureGranted_live (s : State) (c : Fin 16) (tag : Nat) : (s.captureGranted c tag).live = s.live := by
  unfold State.captureGranted; dsimp only; (repeat' split) <;> simp
@[simp] theorem State.captureGranted_builder (s : State) (c : Fin 16) (tag : Nat) : (s.captureGranted c tag).builder = s.builder := by
  unfold State.captureGranted; dsimp only; (repeat' split) <;> simp
@[simp] theorem State.captureGranted_sources (s : State) (c : Fin 16) (tag : Nat) : (s.captureGranted c tag).sources = s.sources := by
  unfold State.captureGranted; dsimp only; (repeat' split) <;> simp
@[simp] theorem State.captureGranted_alarms (s : State) (c : Fin 16) (tag : Nat) : (s.captureGranted c tag).alarms = s.alarms := by
  unfold State.captureGranted; dsimp only; (repeat' split) <;> simp
@[simp] theorem State.captureGranted_engines (s : State) (c : Fin 16) (tag : Nat) : (s.captureGranted c tag).engines = s.engines := by
  unfold State.captureGranted; dsimp only; (repeat' split) <;> simp
@[simp] theorem State.captureGranted_view (s : State) (c : Fin 16) (tag : Nat) : (s.captureGranted c tag).view = s.view := by
  unfold State.captureGranted; dsimp only; (repeat' split) <;> simp
@[simp] theorem State.captureGranted_ring (s : State) (c : Fin 16) (tag : Nat) : (s.captureGranted c tag).ring = s.ring := by
  unfold State.captureGranted; dsimp only; (repeat' split) <;> simp
@[simp] theorem State.captureGranted_status (s : State) (c : Fin 16) (tag : Nat) : (s.captureGranted c tag).status = s.status := by
  unfold State.captureGranted; dsimp only; (repeat' split) <;> simp
@[simp] theorem State.captureGranted_pending (s : State) (c : Fin 16) (tag : Nat) : (s.captureGranted c tag).pending = s.pending := by
  unfold State.captureGranted; dsimp only; (repeat' split) <;> simp

@[simp] theorem State.endLine_control (s : State) (c : Fin 16) : (s.endLine c).control = s.control := by
  unfold State.endLine; dsimp only; (repeat' split) <;> simp
@[simp] theorem State.endLine_link (s : State) (c : Fin 16) : (s.endLine c).link = s.link := by
  unfold State.endLine; dsimp only; (repeat' split) <;> simp
@[simp] theorem State.endLine_mem (s : State) (c : Fin 16) : (s.endLine c).mem = s.mem := by
  unfold State.endLine; dsimp only; (repeat' split) <;> simp
@[simp] theorem State.endLine_config (s : State) (c : Fin 16) : (s.endLine c).config = s.config := by
  unfold State.endLine; dsimp only; (repeat' split) <;> simp
@[simp] theorem State.endLine_frameNo (s : State) (c : Fin 16) : (s.endLine c).frameNo = s.frameNo := by
  unfold State.endLine; dsimp only; (repeat' split) <;> simp
@[simp] theorem State.endLine_alarmsLater (s : State) (c : Fin 16) : (s.endLine c).alarmsLater = s.alarmsLater := by
  unfold State.endLine; dsimp only; (repeat' split) <;> simp
@[simp] theorem State.endLine_live (s : State) (c : Fin 16) : (s.endLine c).live = s.live := by
  unfold State.endLine; dsimp only; (repeat' split) <;> simp
@[simp] theorem State.endLine_builder (s : State) (c : Fin 16) : (s.endLine c).builder = s.builder := by
  unfold State.endLine; dsimp only; (repeat' split) <;> simp
@[simp] theorem State.endLine_sources (s : State) (c : Fin 16) : (s.endLine c).sources = s.sources := by
  unfold State.endLine; dsimp only; (repeat' split) <;> simp
@[simp] theorem State.endLine_alarms (s : State) (c : Fin 16) : (s.endLine c).alarms = s.alarms := by
  unfold State.endLine; dsimp only; (repeat' split) <;> simp
@[simp] theorem State.endLine_engines (s : State) (c : Fin 16) : (s.endLine c).engines = s.engines := by
  unfold State.endLine; dsimp only; (repeat' split) <;> simp
@[simp] theorem State.endLine_view (s : State) (c : Fin 16) : (s.endLine c).view = s.view := by
  unfold State.endLine; dsimp only; (repeat' split) <;> simp
@[simp] theorem State.endLine_ring (s : State) (c : Fin 16) : (s.endLine c).ring = s.ring := by
  unfold State.endLine; dsimp only; (repeat' split) <;> simp
@[simp] theorem State.endLine_status (s : State) (c : Fin 16) : (s.endLine c).status = s.status := by
  unfold State.endLine; dsimp only; (repeat' split) <;> simp
@[simp] theorem State.endLine_pending (s : State) (c : Fin 16) : (s.endLine c).pending = s.pending := by
  unfold State.endLine; dsimp only; (repeat' split) <;> simp

@[simp] theorem State.enterLine_control (s : State) (c : Fin 16) (row : Nat) : (s.enterLine c row).control = s.control := by
  unfold State.enterLine; dsimp only; (repeat' split) <;> simp
@[simp] theorem State.enterLine_link (s : State) (c : Fin 16) (row : Nat) : (s.enterLine c row).link = s.link := by
  unfold State.enterLine; dsimp only; (repeat' split) <;> simp
@[simp] theorem State.enterLine_mem (s : State) (c : Fin 16) (row : Nat) : (s.enterLine c row).mem = s.mem := by
  unfold State.enterLine; dsimp only; (repeat' split) <;> simp
@[simp] theorem State.enterLine_config (s : State) (c : Fin 16) (row : Nat) : (s.enterLine c row).config = s.config := by
  unfold State.enterLine; dsimp only; (repeat' split) <;> simp
@[simp] theorem State.enterLine_frameNo (s : State) (c : Fin 16) (row : Nat) : (s.enterLine c row).frameNo = s.frameNo := by
  unfold State.enterLine; dsimp only; (repeat' split) <;> simp
@[simp] theorem State.enterLine_alarmsLater (s : State) (c : Fin 16) (row : Nat) : (s.enterLine c row).alarmsLater = s.alarmsLater := by
  unfold State.enterLine; dsimp only; (repeat' split) <;> simp
@[simp] theorem State.enterLine_live (s : State) (c : Fin 16) (row : Nat) : (s.enterLine c row).live = s.live := by
  unfold State.enterLine; dsimp only; (repeat' split) <;> simp
@[simp] theorem State.enterLine_builder (s : State) (c : Fin 16) (row : Nat) : (s.enterLine c row).builder = s.builder := by
  unfold State.enterLine; dsimp only; (repeat' split) <;> simp
@[simp] theorem State.enterLine_sources (s : State) (c : Fin 16) (row : Nat) : (s.enterLine c row).sources = s.sources := by
  unfold State.enterLine; dsimp only; (repeat' split) <;> simp
@[simp] theorem State.enterLine_alarms (s : State) (c : Fin 16) (row : Nat) : (s.enterLine c row).alarms = s.alarms := by
  unfold State.enterLine; dsimp only; (repeat' split) <;> simp
@[simp] theorem State.enterLine_engines (s : State) (c : Fin 16) (row : Nat) : (s.enterLine c row).engines = s.engines := by
  unfold State.enterLine; dsimp only; (repeat' split) <;> simp
@[simp] theorem State.enterLine_view (s : State) (c : Fin 16) (row : Nat) : (s.enterLine c row).view = s.view := by
  unfold State.enterLine; dsimp only; (repeat' split) <;> simp
@[simp] theorem State.enterLine_ring (s : State) (c : Fin 16) (row : Nat) : (s.enterLine c row).ring = s.ring := by
  unfold State.enterLine; dsimp only; (repeat' split) <;> simp
@[simp] theorem State.enterLine_status (s : State) (c : Fin 16) (row : Nat) : (s.enterLine c row).status = s.status := by
  unfold State.enterLine; dsimp only; (repeat' split) <;> simp
@[simp] theorem State.enterLine_pending (s : State) (c : Fin 16) (row : Nat) : (s.enterLine c row).pending = s.pending := by
  unfold State.enterLine; dsimp only; (repeat' split) <;> simp

@[simp] theorem State.lineStartMark_control (s : State) (c : Fin 16) : (s.lineStartMark c).control = s.control := by
  unfold State.lineStartMark; dsimp only; (repeat' split) <;> simp
@[simp] theorem State.lineStartMark_link (s : State) (c : Fin 16) : (s.lineStartMark c).link = s.link := by
  unfold State.lineStartMark; dsimp only; (repeat' split) <;> simp
@[simp] theorem State.lineStartMark_mem (s : State) (c : Fin 16) : (s.lineStartMark c).mem = s.mem := by
  unfold State.lineStartMark; dsimp only; (repeat' split) <;> simp
@[simp] theorem State.lineStartMark_config (s : State) (c : Fin 16) : (s.lineStartMark c).config = s.config := by
  unfold State.lineStartMark; dsimp only; (repeat' split) <;> simp
@[simp] theorem State.lineStartMark_frameNo (s : State) (c : Fin 16) : (s.lineStartMark c).frameNo = s.frameNo := by
  unfold State.lineStartMark; dsimp only; (repeat' split) <;> simp
@[simp] theorem State.lineStartMark_alarmsLater (s : State) (c : Fin 16) : (s.lineStartMark c).alarmsLater = s.alarmsLater := by
  unfold State.lineStartMark; dsimp only; (repeat' split) <;> simp
@[simp] theorem State.lineStartMark_live (s : State) (c : Fin 16) : (s.lineStartMark c).live = s.live := by
  unfold State.lineStartMark; dsimp only; (repeat' split) <;> simp
@[simp] theorem State.lineStartMark_builder (s : State) (c : Fin 16) : (s.lineStartMark c).builder = s.builder := by
  unfold State.lineStartMark; dsimp only; (repeat' split) <;> simp
@[simp] theorem State.lineStartMark_sources (s : State) (c : Fin 16) : (s.lineStartMark c).sources = s.sources := by
  unfold State.lineStartMark; dsimp only; (repeat' split) <;> simp
@[simp] theorem State.lineStartMark_alarms (s : State) (c : Fin 16) : (s.lineStartMark c).alarms = s.alarms := by
  unfold State.lineStartMark; dsimp only; (repeat' split) <;> simp
@[simp] theorem State.lineStartMark_engines (s : State) (c : Fin 16) : (s.lineStartMark c).engines = s.engines := by
  unfold State.lineStartMark; dsimp only; (repeat' split) <;> simp
@[simp] theorem State.lineStartMark_view (s : State) (c : Fin 16) : (s.lineStartMark c).view = s.view := by
  unfold State.lineStartMark; dsimp only; (repeat' split) <;> simp
@[simp] theorem State.lineStartMark_ring (s : State) (c : Fin 16) : (s.lineStartMark c).ring = s.ring := by
  unfold State.lineStartMark; dsimp only; (repeat' split) <;> simp
@[simp] theorem State.lineStartMark_status (s : State) (c : Fin 16) : (s.lineStartMark c).status = s.status := by
  unfold State.lineStartMark; dsimp only; (repeat' split) <;> simp
@[simp] theorem State.lineStartMark_pending (s : State) (c : Fin 16) : (s.lineStartMark c).pending = s.pending := by
  unfold State.lineStartMark; dsimp only; (repeat' split) <;> simp

@[simp] theorem State.pixel_control (s : State) (c : Fin 16) (p : Colour) : (s.pixel c p).control = s.control := by
  unfold State.pixel; dsimp only; (repeat' split) <;> simp
@[simp] theorem State.pixel_link (s : State) (c : Fin 16) (p : Colour) : (s.pixel c p).link = s.link := by
  unfold State.pixel; dsimp only; (repeat' split) <;> simp
@[simp] theorem State.pixel_mem (s : State) (c : Fin 16) (p : Colour) : (s.pixel c p).mem = s.mem := by
  unfold State.pixel; dsimp only; (repeat' split) <;> simp
@[simp] theorem State.pixel_config (s : State) (c : Fin 16) (p : Colour) : (s.pixel c p).config = s.config := by
  unfold State.pixel; dsimp only; (repeat' split) <;> simp
@[simp] theorem State.pixel_frameNo (s : State) (c : Fin 16) (p : Colour) : (s.pixel c p).frameNo = s.frameNo := by
  unfold State.pixel; dsimp only; (repeat' split) <;> simp
@[simp] theorem State.pixel_alarmsLater (s : State) (c : Fin 16) (p : Colour) : (s.pixel c p).alarmsLater = s.alarmsLater := by
  unfold State.pixel; dsimp only; (repeat' split) <;> simp
@[simp] theorem State.pixel_live (s : State) (c : Fin 16) (p : Colour) : (s.pixel c p).live = s.live := by
  unfold State.pixel; dsimp only; (repeat' split) <;> simp
@[simp] theorem State.pixel_builder (s : State) (c : Fin 16) (p : Colour) : (s.pixel c p).builder = s.builder := by
  unfold State.pixel; dsimp only; (repeat' split) <;> simp
@[simp] theorem State.pixel_sources (s : State) (c : Fin 16) (p : Colour) : (s.pixel c p).sources = s.sources := by
  unfold State.pixel; dsimp only; (repeat' split) <;> simp
@[simp] theorem State.pixel_alarms (s : State) (c : Fin 16) (p : Colour) : (s.pixel c p).alarms = s.alarms := by
  unfold State.pixel; dsimp only; (repeat' split) <;> simp
@[simp] theorem State.pixel_engines (s : State) (c : Fin 16) (p : Colour) : (s.pixel c p).engines = s.engines := by
  unfold State.pixel; dsimp only; (repeat' split) <;> simp
@[simp] theorem State.pixel_view (s : State) (c : Fin 16) (p : Colour) : (s.pixel c p).view = s.view := by
  unfold State.pixel; dsimp only; (repeat' split) <;> simp
@[simp] theorem State.pixel_ring (s : State) (c : Fin 16) (p : Colour) : (s.pixel c p).ring = s.ring := by
  unfold State.pixel; dsimp only; (repeat' split) <;> simp
@[simp] theorem State.pixel_status (s : State) (c : Fin 16) (p : Colour) : (s.pixel c p).status = s.status := by
  unfold State.pixel; dsimp only; (repeat' split) <;> simp
@[simp] theorem State.pixel_pending (s : State) (c : Fin 16) (p : Colour) : (s.pixel c p).pending = s.pending := by
  unfold State.pixel; dsimp only; (repeat' split) <;> simp

@[simp] theorem State.frameStartMark_control (s : State) (c : Fin 16) : (s.frameStartMark c).control = s.control := by
  unfold State.frameStartMark; dsimp only; (repeat' split) <;> simp
@[simp] theorem State.frameStartMark_mem (s : State) (c : Fin 16) : (s.frameStartMark c).mem = s.mem := by
  unfold State.frameStartMark; dsimp only; (repeat' split) <;> simp
@[simp] theorem State.frameStartMark_config (s : State) (c : Fin 16) : (s.frameStartMark c).config = s.config := by
  unfold State.frameStartMark; dsimp only; (repeat' split) <;> simp
@[simp] theorem State.frameStartMark_frameNo (s : State) (c : Fin 16) : (s.frameStartMark c).frameNo = s.frameNo := by
  unfold State.frameStartMark; dsimp only; (repeat' split) <;> simp
@[simp] theorem State.frameStartMark_alarmsLater (s : State) (c : Fin 16) : (s.frameStartMark c).alarmsLater = s.alarmsLater := by
  unfold State.frameStartMark; dsimp only; (repeat' split) <;> simp
@[simp] theorem State.frameStartMark_live (s : State) (c : Fin 16) : (s.frameStartMark c).live = s.live := by
  unfold State.frameStartMark; dsimp only; (repeat' split) <;> simp
@[simp] theorem State.frameStartMark_builder (s : State) (c : Fin 16) : (s.frameStartMark c).builder = s.builder := by
  unfold State.frameStartMark; dsimp only; (repeat' split) <;> simp
@[simp] theorem State.frameStartMark_alarms (s : State) (c : Fin 16) : (s.frameStartMark c).alarms = s.alarms := by
  unfold State.frameStartMark; dsimp only; (repeat' split) <;> simp
@[simp] theorem State.frameStartMark_engines (s : State) (c : Fin 16) : (s.frameStartMark c).engines = s.engines := by
  unfold State.frameStartMark; dsimp only; (repeat' split) <;> simp
@[simp] theorem State.frameStartMark_view (s : State) (c : Fin 16) : (s.frameStartMark c).view = s.view := by
  unfold State.frameStartMark; dsimp only; (repeat' split) <;> simp
@[simp] theorem State.frameStartMark_ring (s : State) (c : Fin 16) : (s.frameStartMark c).ring = s.ring := by
  unfold State.frameStartMark; dsimp only; (repeat' split) <;> simp
@[simp] theorem State.frameStartMark_status (s : State) (c : Fin 16) : (s.frameStartMark c).status = s.status := by
  unfold State.frameStartMark; dsimp only; (repeat' split) <;> simp
@[simp] theorem State.frameStartMark_pending (s : State) (c : Fin 16) : (s.frameStartMark c).pending = s.pending := by
  unfold State.frameStartMark; dsimp only; (repeat' split) <;> simp

@[simp] theorem State.publishCapture_control (s : State) (c : Fin 16) (w h : Nat) : (s.publishCapture c w h).control = s.control := by
  simp [State.publishCapture]
@[simp] theorem State.publishCapture_link (s : State) (c : Fin 16) (w h : Nat) : (s.publishCapture c w h).link = s.link := by
  simp [State.publishCapture]
@[simp] theorem State.publishCapture_mem (s : State) (c : Fin 16) (w h : Nat) : (s.publishCapture c w h).mem = s.mem := by
  simp [State.publishCapture]
@[simp] theorem State.publishCapture_config (s : State) (c : Fin 16) (w h : Nat) : (s.publishCapture c w h).config = s.config := by
  simp [State.publishCapture]
@[simp] theorem State.publishCapture_frameNo (s : State) (c : Fin 16) (w h : Nat) : (s.publishCapture c w h).frameNo = s.frameNo := by
  simp [State.publishCapture]
@[simp] theorem State.publishCapture_alarmsLater (s : State) (c : Fin 16) (w h : Nat) : (s.publishCapture c w h).alarmsLater = s.alarmsLater := by
  simp [State.publishCapture]
@[simp] theorem State.publishCapture_live (s : State) (c : Fin 16) (w h : Nat) : (s.publishCapture c w h).live = s.live := by
  simp [State.publishCapture]
@[simp] theorem State.publishCapture_builder (s : State) (c : Fin 16) (w h : Nat) : (s.publishCapture c w h).builder = s.builder := by
  simp [State.publishCapture]
@[simp] theorem State.publishCapture_alarms (s : State) (c : Fin 16) (w h : Nat) : (s.publishCapture c w h).alarms = s.alarms := by
  simp [State.publishCapture]
@[simp] theorem State.publishCapture_engines (s : State) (c : Fin 16) (w h : Nat) : (s.publishCapture c w h).engines = s.engines := by
  simp [State.publishCapture]
@[simp] theorem State.publishCapture_view (s : State) (c : Fin 16) (w h : Nat) : (s.publishCapture c w h).view = s.view := by
  simp [State.publishCapture]
@[simp] theorem State.publishCapture_ring (s : State) (c : Fin 16) (w h : Nat) : (s.publishCapture c w h).ring = s.ring := by
  simp [State.publishCapture]
@[simp] theorem State.publishCapture_status (s : State) (c : Fin 16) (w h : Nat) : (s.publishCapture c w h).status = s.status := by
  simp [State.publishCapture]
@[simp] theorem State.publishCapture_pending (s : State) (c : Fin 16) (w h : Nat) : (s.publishCapture c w h).pending = s.pending := by
  simp [State.publishCapture]

end Sys2Proof.Machine
end

