-- ==== Sys2Proof/Laws/FrameFrames.lean ====
section
/-! SUPPORT. Frames: for the source unit's and the status writer's operations, one lemma for each field of State that the operation leaves alone. -/

namespace Sys2Proof.Machine

@[simp] theorem State.statusNewFrame_control (s : State) : (s.statusNewFrame).control = s.control := rfl
@[simp] theorem State.statusNewFrame_link (s : State) : (s.statusNewFrame).link = s.link := rfl
@[simp] theorem State.statusNewFrame_mem (s : State) : (s.statusNewFrame).mem = s.mem := rfl
@[simp] theorem State.statusNewFrame_config (s : State) : (s.statusNewFrame).config = s.config := rfl
@[simp] theorem State.statusNewFrame_frameNo (s : State) : (s.statusNewFrame).frameNo = s.frameNo := rfl
@[simp] theorem State.statusNewFrame_alarmsLater (s : State) : (s.statusNewFrame).alarmsLater = s.alarmsLater := rfl
@[simp] theorem State.statusNewFrame_live (s : State) : (s.statusNewFrame).live = s.live := rfl
@[simp] theorem State.statusNewFrame_builder (s : State) : (s.statusNewFrame).builder = s.builder := rfl
@[simp] theorem State.statusNewFrame_sources (s : State) : (s.statusNewFrame).sources = s.sources := rfl
@[simp] theorem State.statusNewFrame_inputs (s : State) : (s.statusNewFrame).inputs = s.inputs := rfl
@[simp] theorem State.statusNewFrame_alarms (s : State) : (s.statusNewFrame).alarms = s.alarms := rfl
@[simp] theorem State.statusNewFrame_engines (s : State) : (s.statusNewFrame).engines = s.engines := rfl
@[simp] theorem State.statusNewFrame_view (s : State) : (s.statusNewFrame).view = s.view := rfl
@[simp] theorem State.statusNewFrame_ring (s : State) : (s.statusNewFrame).ring = s.ring := rfl
@[simp] theorem State.statusNewFrame_pending (s : State) : (s.statusNewFrame).pending = s.pending := rfl

@[simp] theorem State.statusTakeRing_control (s : State) : (s.statusTakeRing).control = s.control := rfl
@[simp] theorem State.statusTakeRing_link (s : State) : (s.statusTakeRing).link = s.link := rfl
@[simp] theorem State.statusTakeRing_mem (s : State) : (s.statusTakeRing).mem = s.mem := rfl
@[simp] theorem State.statusTakeRing_port (s : State) : (s.statusTakeRing).port = s.port := rfl
@[simp] theorem State.statusTakeRing_config (s : State) : (s.statusTakeRing).config = s.config := rfl
@[simp] theorem State.statusTakeRing_frameNo (s : State) : (s.statusTakeRing).frameNo = s.frameNo := rfl
@[simp] theorem State.statusTakeRing_alarmsLater (s : State) : (s.statusTakeRing).alarmsLater = s.alarmsLater := rfl
@[simp] theorem State.statusTakeRing_live (s : State) : (s.statusTakeRing).live = s.live := rfl
@[simp] theorem State.statusTakeRing_builder (s : State) : (s.statusTakeRing).builder = s.builder := rfl
@[simp] theorem State.statusTakeRing_sources (s : State) : (s.statusTakeRing).sources = s.sources := rfl
@[simp] theorem State.statusTakeRing_inputs (s : State) : (s.statusTakeRing).inputs = s.inputs := rfl
@[simp] theorem State.statusTakeRing_alarms (s : State) : (s.statusTakeRing).alarms = s.alarms := rfl
@[simp] theorem State.statusTakeRing_engines (s : State) : (s.statusTakeRing).engines = s.engines := rfl
@[simp] theorem State.statusTakeRing_view (s : State) : (s.statusTakeRing).view = s.view := rfl
@[simp] theorem State.statusTakeRing_ring (s : State) : (s.statusTakeRing).ring = s.ring := rfl
@[simp] theorem State.statusTakeRing_pending (s : State) : (s.statusTakeRing).pending = s.pending := rfl

@[simp] theorem State.statusResetInputs_control (s : State) (items : List SourceItem) : (s.statusResetInputs items).control = s.control := rfl
@[simp] theorem State.statusResetInputs_link (s : State) (items : List SourceItem) : (s.statusResetInputs items).link = s.link := rfl
@[simp] theorem State.statusResetInputs_mem (s : State) (items : List SourceItem) : (s.statusResetInputs items).mem = s.mem := rfl
@[simp] theorem State.statusResetInputs_port (s : State) (items : List SourceItem) : (s.statusResetInputs items).port = s.port := rfl
@[simp] theorem State.statusResetInputs_config (s : State) (items : List SourceItem) : (s.statusResetInputs items).config = s.config := rfl
@[simp] theorem State.statusResetInputs_frameNo (s : State) (items : List SourceItem) : (s.statusResetInputs items).frameNo = s.frameNo := rfl
@[simp] theorem State.statusResetInputs_live (s : State) (items : List SourceItem) : (s.statusResetInputs items).live = s.live := rfl
@[simp] theorem State.statusResetInputs_builder (s : State) (items : List SourceItem) : (s.statusResetInputs items).builder = s.builder := rfl
@[simp] theorem State.statusResetInputs_sources (s : State) (items : List SourceItem) : (s.statusResetInputs items).sources = s.sources := rfl
@[simp] theorem State.statusResetInputs_inputs (s : State) (items : List SourceItem) : (s.statusResetInputs items).inputs = s.inputs := rfl
@[simp] theorem State.statusResetInputs_alarms (s : State) (items : List SourceItem) : (s.statusResetInputs items).alarms = s.alarms := rfl
@[simp] theorem State.statusResetInputs_alarmsLater (s : State) (items : List SourceItem) : (s.statusResetInputs items).alarmsLater = s.alarmsLater := rfl
@[simp] theorem State.statusResetInputs_engines (s : State) (items : List SourceItem) : (s.statusResetInputs items).engines = s.engines := rfl
@[simp] theorem State.statusResetInputs_view (s : State) (items : List SourceItem) : (s.statusResetInputs items).view = s.view := rfl
@[simp] theorem State.statusResetInputs_ring (s : State) (items : List SourceItem) : (s.statusResetInputs items).ring = s.ring := rfl
@[simp] theorem State.statusResetInputs_pending (s : State) (items : List SourceItem) : (s.statusResetInputs items).pending = s.pending := rfl

@[simp] theorem State.statusTakeSources_control (s : State) (done : Fin 32 → Bool) : (s.statusTakeSources done).control = s.control := by
  unfold State.statusTakeSources; simp
@[simp] theorem State.statusTakeSources_link (s : State) (done : Fin 32 → Bool) : (s.statusTakeSources done).link = s.link := by
  unfold State.statusTakeSources; simp
@[simp] theorem State.statusTakeSources_mem (s : State) (done : Fin 32 → Bool) : (s.statusTakeSources done).mem = s.mem := by
  unfold State.statusTakeSources; simp
@[simp] theorem State.statusTakeSources_port (s : State) (done : Fin 32 → Bool) : (s.statusTakeSources done).port = s.port := by
  unfold State.statusTakeSources; simp
@[simp] theorem State.statusTakeSources_config (s : State) (done : Fin 32 → Bool) : (s.statusTakeSources done).config = s.config := by
  unfold State.statusTakeSources; simp
@[simp] theorem State.statusTakeSources_frameNo (s : State) (done : Fin 32 → Bool) : (s.statusTakeSources done).frameNo = s.frameNo := by
  unfold State.statusTakeSources; simp
@[simp] theorem State.statusTakeSources_alarmsLater (s : State) (done : Fin 32 → Bool) : (s.statusTakeSources done).alarmsLater = s.alarmsLater := by
  unfold State.statusTakeSources; simp
@[simp] theorem State.statusTakeSources_live (s : State) (done : Fin 32 → Bool) : (s.statusTakeSources done).live = s.live := by
  unfold State.statusTakeSources; simp
@[simp] theorem State.statusTakeSources_builder (s : State) (done : Fin 32 → Bool) : (s.statusTakeSources done).builder = s.builder := by
  unfold State.statusTakeSources; simp
@[simp] theorem State.statusTakeSources_sources (s : State) (done : Fin 32 → Bool) : (s.statusTakeSources done).sources = s.sources := by
  unfold State.statusTakeSources; simp
@[simp] theorem State.statusTakeSources_inputs (s : State) (done : Fin 32 → Bool) : (s.statusTakeSources done).inputs = s.inputs := by
  unfold State.statusTakeSources; simp
@[simp] theorem State.statusTakeSources_alarms (s : State) (done : Fin 32 → Bool) : (s.statusTakeSources done).alarms = s.alarms := by
  unfold State.statusTakeSources; simp
@[simp] theorem State.statusTakeSources_engines (s : State) (done : Fin 32 → Bool) : (s.statusTakeSources done).engines = s.engines := by
  unfold State.statusTakeSources; simp
@[simp] theorem State.statusTakeSources_view (s : State) (done : Fin 32 → Bool) : (s.statusTakeSources done).view = s.view := by
  unfold State.statusTakeSources; simp
@[simp] theorem State.statusTakeSources_ring (s : State) (done : Fin 32 → Bool) : (s.statusTakeSources done).ring = s.ring := by
  unfold State.statusTakeSources; simp
@[simp] theorem State.statusTakeSources_pending (s : State) (done : Fin 32 → Bool) : (s.statusTakeSources done).pending = s.pending := by
  unfold State.statusTakeSources; simp

@[simp] theorem State.statusWrite_control (s : State) : (s.statusWrite).control = s.control := rfl
@[simp] theorem State.statusWrite_link (s : State) : (s.statusWrite).link = s.link := rfl
@[simp] theorem State.statusWrite_mem (s : State) : (s.statusWrite).mem = s.mem := rfl
@[simp] theorem State.statusWrite_config (s : State) : (s.statusWrite).config = s.config := rfl
@[simp] theorem State.statusWrite_frameNo (s : State) : (s.statusWrite).frameNo = s.frameNo := rfl
@[simp] theorem State.statusWrite_alarmsLater (s : State) : (s.statusWrite).alarmsLater = s.alarmsLater := rfl
@[simp] theorem State.statusWrite_live (s : State) : (s.statusWrite).live = s.live := rfl
@[simp] theorem State.statusWrite_builder (s : State) : (s.statusWrite).builder = s.builder := rfl
@[simp] theorem State.statusWrite_sources (s : State) : (s.statusWrite).sources = s.sources := rfl
@[simp] theorem State.statusWrite_inputs (s : State) : (s.statusWrite).inputs = s.inputs := rfl
@[simp] theorem State.statusWrite_alarms (s : State) : (s.statusWrite).alarms = s.alarms := rfl
@[simp] theorem State.statusWrite_engines (s : State) : (s.statusWrite).engines = s.engines := rfl
@[simp] theorem State.statusWrite_view (s : State) : (s.statusWrite).view = s.view := rfl
@[simp] theorem State.statusWrite_ring (s : State) : (s.statusWrite).ring = s.ring := rfl
@[simp] theorem State.statusWrite_status (s : State) : (s.statusWrite).status = s.status := rfl
@[simp] theorem State.statusWrite_pending (s : State) : (s.statusWrite).pending = s.pending := rfl

@[simp] theorem State.frameReady_control (s : State) : (s.frameReady).control = s.control := by
  unfold State.frameReady; simp
@[simp] theorem State.frameReady_link (s : State) : (s.frameReady).link = s.link := by
  unfold State.frameReady; simp
@[simp] theorem State.frameReady_mem (s : State) : (s.frameReady).mem = s.mem := by
  unfold State.frameReady; simp
@[simp] theorem State.frameReady_config (s : State) : (s.frameReady).config = s.config := by
  unfold State.frameReady; simp
@[simp] theorem State.frameReady_frameNo (s : State) : (s.frameReady).frameNo = s.frameNo := by
  unfold State.frameReady; simp
@[simp] theorem State.frameReady_alarmsLater (s : State) : (s.frameReady).alarmsLater = s.alarmsLater := by
  unfold State.frameReady; simp
@[simp] theorem State.frameReady_live (s : State) : (s.frameReady).live = s.live := by
  unfold State.frameReady; simp
@[simp] theorem State.frameReady_builder (s : State) : (s.frameReady).builder = s.builder := by
  unfold State.frameReady; simp
@[simp] theorem State.frameReady_sources (s : State) : (s.frameReady).sources = s.sources := by
  unfold State.frameReady; simp
@[simp] theorem State.frameReady_inputs (s : State) : (s.frameReady).inputs = s.inputs := by
  unfold State.frameReady; simp
@[simp] theorem State.frameReady_alarms (s : State) : (s.frameReady).alarms = s.alarms := by
  unfold State.frameReady; simp
@[simp] theorem State.frameReady_ring (s : State) : (s.frameReady).ring = s.ring := by
  unfold State.frameReady; simp
@[simp] theorem State.frameReady_status (s : State) : (s.frameReady).status = s.status := by
  unfold State.frameReady; simp
@[simp] theorem State.frameReady_pending (s : State) : (s.frameReady).pending = s.pending := by
  unfold State.frameReady; simp

@[simp] theorem State.commitSources_control (s : State) (items : List SourceItem) : (s.commitSources items).control = s.control := by
  unfold State.commitSources; simp
@[simp] theorem State.commitSources_link (s : State) (items : List SourceItem) : (s.commitSources items).link = s.link := by
  unfold State.commitSources; simp
@[simp] theorem State.commitSources_mem (s : State) (items : List SourceItem) : (s.commitSources items).mem = s.mem := by
  unfold State.commitSources; simp
@[simp] theorem State.commitSources_config (s : State) (items : List SourceItem) : (s.commitSources items).config = s.config := by
  unfold State.commitSources; simp
@[simp] theorem State.commitSources_frameNo (s : State) (items : List SourceItem) : (s.commitSources items).frameNo = s.frameNo := by
  unfold State.commitSources; simp
@[simp] theorem State.commitSources_alarmsLater (s : State) (items : List SourceItem) : (s.commitSources items).alarmsLater = s.alarmsLater := by
  unfold State.commitSources; simp
@[simp] theorem State.commitSources_live (s : State) (items : List SourceItem) : (s.commitSources items).live = s.live := by
  unfold State.commitSources; simp
@[simp] theorem State.commitSources_builder (s : State) (items : List SourceItem) : (s.commitSources items).builder = s.builder := by
  unfold State.commitSources; simp
@[simp] theorem State.commitSources_alarms (s : State) (items : List SourceItem) : (s.commitSources items).alarms = s.alarms := by
  unfold State.commitSources; simp
@[simp] theorem State.commitSources_engines (s : State) (items : List SourceItem) : (s.commitSources items).engines = s.engines := by
  unfold State.commitSources; simp
@[simp] theorem State.commitSources_view (s : State) (items : List SourceItem) : (s.commitSources items).view = s.view := by
  unfold State.commitSources; simp
@[simp] theorem State.commitSources_ring (s : State) (items : List SourceItem) : (s.commitSources items).ring = s.ring := by
  unfold State.commitSources; simp
@[simp] theorem State.commitSources_status (s : State) (items : List SourceItem) : (s.commitSources items).status = s.status := by
  unfold State.commitSources; simp
@[simp] theorem State.commitSources_pending (s : State) (items : List SourceItem) : (s.commitSources items).pending = s.pending := by
  unfold State.commitSources; simp

@[simp] theorem State.frameSources_control (s : State) : (s.frameSources).control = s.control := by
  unfold State.frameSources; simp
@[simp] theorem State.frameSources_link (s : State) : (s.frameSources).link = s.link := by
  unfold State.frameSources; simp
@[simp] theorem State.frameSources_mem (s : State) : (s.frameSources).mem = s.mem := by
  unfold State.frameSources; simp
@[simp] theorem State.frameSources_config (s : State) : (s.frameSources).config = s.config := by
  unfold State.frameSources; simp
@[simp] theorem State.frameSources_frameNo (s : State) : (s.frameSources).frameNo = s.frameNo := by
  unfold State.frameSources; simp
@[simp] theorem State.frameSources_alarmsLater (s : State) : (s.frameSources).alarmsLater = s.alarmsLater := by
  unfold State.frameSources; simp
@[simp] theorem State.frameSources_live (s : State) : (s.frameSources).live = s.live := by
  unfold State.frameSources; simp
@[simp] theorem State.frameSources_builder (s : State) : (s.frameSources).builder = s.builder := by
  unfold State.frameSources; simp
@[simp] theorem State.frameSources_inputs (s : State) : (s.frameSources).inputs = s.inputs := by
  unfold State.frameSources; simp
@[simp] theorem State.frameSources_alarms (s : State) : (s.frameSources).alarms = s.alarms := by
  unfold State.frameSources; simp
@[simp] theorem State.frameSources_engines (s : State) : (s.frameSources).engines = s.engines := by
  unfold State.frameSources; simp
@[simp] theorem State.frameSources_view (s : State) : (s.frameSources).view = s.view := by
  unfold State.frameSources; simp
@[simp] theorem State.frameSources_ring (s : State) : (s.frameSources).ring = s.ring := by
  unfold State.frameSources; simp
@[simp] theorem State.frameSources_status (s : State) : (s.frameSources).status = s.status := by
  unfold State.frameSources; simp
@[simp] theorem State.frameSources_pending (s : State) : (s.frameSources).pending = s.pending := by
  unfold State.frameSources; simp

@[simp] theorem State.sourceStart_control (s : State) (f : SourceFrame) : (s.sourceStart f).control = s.control := by
  unfold State.sourceStart; simp
@[simp] theorem State.sourceStart_mem (s : State) (f : SourceFrame) : (s.sourceStart f).mem = s.mem := by
  unfold State.sourceStart; simp
@[simp] theorem State.sourceStart_config (s : State) (f : SourceFrame) : (s.sourceStart f).config = s.config := by
  unfold State.sourceStart; simp
@[simp] theorem State.sourceStart_frameNo (s : State) (f : SourceFrame) : (s.sourceStart f).frameNo = s.frameNo := by
  unfold State.sourceStart; simp
@[simp] theorem State.sourceStart_alarmsLater (s : State) (f : SourceFrame) : (s.sourceStart f).alarmsLater = s.alarmsLater := by
  unfold State.sourceStart; simp
@[simp] theorem State.sourceStart_live (s : State) (f : SourceFrame) : (s.sourceStart f).live = s.live := by
  unfold State.sourceStart; simp
@[simp] theorem State.sourceStart_builder (s : State) (f : SourceFrame) : (s.sourceStart f).builder = s.builder := by
  unfold State.sourceStart; simp
@[simp] theorem State.sourceStart_alarms (s : State) (f : SourceFrame) : (s.sourceStart f).alarms = s.alarms := by
  unfold State.sourceStart; simp
@[simp] theorem State.sourceStart_engines (s : State) (f : SourceFrame) : (s.sourceStart f).engines = s.engines := by
  unfold State.sourceStart; simp
@[simp] theorem State.sourceStart_view (s : State) (f : SourceFrame) : (s.sourceStart f).view = s.view := by
  unfold State.sourceStart; simp
@[simp] theorem State.sourceStart_ring (s : State) (f : SourceFrame) : (s.sourceStart f).ring = s.ring := by
  unfold State.sourceStart; simp
@[simp] theorem State.sourceStart_pending (s : State) (f : SourceFrame) : (s.sourceStart f).pending = s.pending := by
  unfold State.sourceStart; simp

@[simp] theorem State.sourceRun_control (fs : List SourceFrame) (s : State) : (State.sourceRun fs s).control = s.control := by
  induction fs generalizing s with
  | nil => simp [State.sourceRun]
  | cons a as ih => simp only [State.sourceRun]; (repeat' split) <;> simp_all
@[simp] theorem State.sourceRun_mem (fs : List SourceFrame) (s : State) : (State.sourceRun fs s).mem = s.mem := by
  induction fs generalizing s with
  | nil => simp [State.sourceRun]
  | cons a as ih => simp only [State.sourceRun]; (repeat' split) <;> simp_all
@[simp] theorem State.sourceRun_config (fs : List SourceFrame) (s : State) : (State.sourceRun fs s).config = s.config := by
  induction fs generalizing s with
  | nil => simp [State.sourceRun]
  | cons a as ih => simp only [State.sourceRun]; (repeat' split) <;> simp_all
@[simp] theorem State.sourceRun_frameNo (fs : List SourceFrame) (s : State) : (State.sourceRun fs s).frameNo = s.frameNo := by
  induction fs generalizing s with
  | nil => simp [State.sourceRun]
  | cons a as ih => simp only [State.sourceRun]; (repeat' split) <;> simp_all
@[simp] theorem State.sourceRun_alarmsLater (fs : List SourceFrame) (s : State) : (State.sourceRun fs s).alarmsLater = s.alarmsLater := by
  induction fs generalizing s with
  | nil => simp [State.sourceRun]
  | cons a as ih => simp only [State.sourceRun]; (repeat' split) <;> simp_all
@[simp] theorem State.sourceRun_live (fs : List SourceFrame) (s : State) : (State.sourceRun fs s).live = s.live := by
  induction fs generalizing s with
  | nil => simp [State.sourceRun]
  | cons a as ih => simp only [State.sourceRun]; (repeat' split) <;> simp_all
@[simp] theorem State.sourceRun_builder (fs : List SourceFrame) (s : State) : (State.sourceRun fs s).builder = s.builder := by
  induction fs generalizing s with
  | nil => simp [State.sourceRun]
  | cons a as ih => simp only [State.sourceRun]; (repeat' split) <;> simp_all
@[simp] theorem State.sourceRun_alarms (fs : List SourceFrame) (s : State) : (State.sourceRun fs s).alarms = s.alarms := by
  induction fs generalizing s with
  | nil => simp [State.sourceRun]
  | cons a as ih => simp only [State.sourceRun]; (repeat' split) <;> simp_all
@[simp] theorem State.sourceRun_ring (fs : List SourceFrame) (s : State) : (State.sourceRun fs s).ring = s.ring := by
  induction fs generalizing s with
  | nil => simp [State.sourceRun]
  | cons a as ih => simp only [State.sourceRun]; (repeat' split) <;> simp_all
@[simp] theorem State.sourceRun_pending (fs : List SourceFrame) (s : State) : (State.sourceRun fs s).pending = s.pending := by
  induction fs generalizing s with
  | nil => simp [State.sourceRun]
  | cons a as ih => simp only [State.sourceRun]; (repeat' split) <;> simp_all

@[simp] theorem State.sourceAdvance_control (s : State) : (s.sourceAdvance).control = s.control := by
  unfold State.sourceAdvance; split <;> simp
@[simp] theorem State.sourceAdvance_mem (s : State) : (s.sourceAdvance).mem = s.mem := by
  unfold State.sourceAdvance; split <;> simp
@[simp] theorem State.sourceAdvance_config (s : State) : (s.sourceAdvance).config = s.config := by
  unfold State.sourceAdvance; split <;> simp
@[simp] theorem State.sourceAdvance_frameNo (s : State) : (s.sourceAdvance).frameNo = s.frameNo := by
  unfold State.sourceAdvance; split <;> simp
@[simp] theorem State.sourceAdvance_alarmsLater (s : State) : (s.sourceAdvance).alarmsLater = s.alarmsLater := by
  unfold State.sourceAdvance; split <;> simp
@[simp] theorem State.sourceAdvance_live (s : State) : (s.sourceAdvance).live = s.live := by
  unfold State.sourceAdvance; split <;> simp
@[simp] theorem State.sourceAdvance_builder (s : State) : (s.sourceAdvance).builder = s.builder := by
  unfold State.sourceAdvance; split <;> simp
@[simp] theorem State.sourceAdvance_alarms (s : State) : (s.sourceAdvance).alarms = s.alarms := by
  unfold State.sourceAdvance; split <;> simp
@[simp] theorem State.sourceAdvance_ring (s : State) : (s.sourceAdvance).ring = s.ring := by
  unfold State.sourceAdvance; split <;> simp
@[simp] theorem State.sourceAdvance_pending (s : State) : (s.sourceAdvance).pending = s.pending := by
  unfold State.sourceAdvance; split <;> simp

@[simp] theorem State.handItems_control (s : State) (items : List SourceItem) : (s.handItems items).control = s.control := by
  unfold State.handItems; simp
@[simp] theorem State.handItems_mem (s : State) (items : List SourceItem) : (s.handItems items).mem = s.mem := by
  unfold State.handItems; simp
@[simp] theorem State.handItems_config (s : State) (items : List SourceItem) : (s.handItems items).config = s.config := by
  unfold State.handItems; simp
@[simp] theorem State.handItems_frameNo (s : State) (items : List SourceItem) : (s.handItems items).frameNo = s.frameNo := by
  unfold State.handItems; simp
@[simp] theorem State.handItems_alarmsLater (s : State) (items : List SourceItem) : (s.handItems items).alarmsLater = s.alarmsLater := by
  unfold State.handItems; simp
@[simp] theorem State.handItems_live (s : State) (items : List SourceItem) : (s.handItems items).live = s.live := by
  unfold State.handItems; simp
@[simp] theorem State.handItems_builder (s : State) (items : List SourceItem) : (s.handItems items).builder = s.builder := by
  unfold State.handItems; simp
@[simp] theorem State.handItems_alarms (s : State) (items : List SourceItem) : (s.handItems items).alarms = s.alarms := by
  unfold State.handItems; simp
@[simp] theorem State.handItems_ring (s : State) (items : List SourceItem) : (s.handItems items).ring = s.ring := by
  unfold State.handItems; simp
@[simp] theorem State.handItems_pending (s : State) (items : List SourceItem) : (s.handItems items).pending = s.pending := by
  unfold State.handItems; simp

@[simp] theorem State.pushFrame_control (s : State) : (s.pushFrame).control = s.control := rfl
@[simp] theorem State.pushFrame_link (s : State) : (s.pushFrame).link = s.link := rfl
@[simp] theorem State.pushFrame_mem (s : State) : (s.pushFrame).mem = s.mem := rfl
@[simp] theorem State.pushFrame_port (s : State) : (s.pushFrame).port = s.port := rfl
@[simp] theorem State.pushFrame_config (s : State) : (s.pushFrame).config = s.config := rfl
@[simp] theorem State.pushFrame_frameNo (s : State) : (s.pushFrame).frameNo = s.frameNo := rfl
@[simp] theorem State.pushFrame_alarmsLater (s : State) : (s.pushFrame).alarmsLater = s.alarmsLater := rfl
@[simp] theorem State.pushFrame_live (s : State) : (s.pushFrame).live = s.live := rfl
@[simp] theorem State.pushFrame_builder (s : State) : (s.pushFrame).builder = s.builder := rfl
@[simp] theorem State.pushFrame_inputs (s : State) : (s.pushFrame).inputs = s.inputs := rfl
@[simp] theorem State.pushFrame_alarms (s : State) : (s.pushFrame).alarms = s.alarms := rfl
@[simp] theorem State.pushFrame_engines (s : State) : (s.pushFrame).engines = s.engines := rfl
@[simp] theorem State.pushFrame_view (s : State) : (s.pushFrame).view = s.view := rfl
@[simp] theorem State.pushFrame_ring (s : State) : (s.pushFrame).ring = s.ring := rfl
@[simp] theorem State.pushFrame_status (s : State) : (s.pushFrame).status = s.status := rfl
@[simp] theorem State.pushFrame_pending (s : State) : (s.pushFrame).pending = s.pending := rfl

@[simp] theorem State.headerJudged_control (s : State) (src : Fin 32) (header : List Byte) : (s.headerJudged src header).control = s.control := by
  simp only [State.headerJudged]; (repeat' split) <;> simp
@[simp] theorem State.headerJudged_mem (s : State) (src : Fin 32) (header : List Byte) : (s.headerJudged src header).mem = s.mem := by
  simp only [State.headerJudged]; (repeat' split) <;> simp
@[simp] theorem State.headerJudged_config (s : State) (src : Fin 32) (header : List Byte) : (s.headerJudged src header).config = s.config := by
  simp only [State.headerJudged]; (repeat' split) <;> simp
@[simp] theorem State.headerJudged_frameNo (s : State) (src : Fin 32) (header : List Byte) : (s.headerJudged src header).frameNo = s.frameNo := by
  simp only [State.headerJudged]; (repeat' split) <;> simp
@[simp] theorem State.headerJudged_alarmsLater (s : State) (src : Fin 32) (header : List Byte) : (s.headerJudged src header).alarmsLater = s.alarmsLater := by
  simp only [State.headerJudged]; (repeat' split) <;> simp
@[simp] theorem State.headerJudged_live (s : State) (src : Fin 32) (header : List Byte) : (s.headerJudged src header).live = s.live := by
  simp only [State.headerJudged]; (repeat' split) <;> simp
@[simp] theorem State.headerJudged_builder (s : State) (src : Fin 32) (header : List Byte) : (s.headerJudged src header).builder = s.builder := by
  simp only [State.headerJudged]; (repeat' split) <;> simp
@[simp] theorem State.headerJudged_alarms (s : State) (src : Fin 32) (header : List Byte) : (s.headerJudged src header).alarms = s.alarms := by
  simp only [State.headerJudged]; (repeat' split) <;> simp
@[simp] theorem State.headerJudged_ring (s : State) (src : Fin 32) (header : List Byte) : (s.headerJudged src header).ring = s.ring := by
  simp only [State.headerJudged]; (repeat' split) <;> simp
@[simp] theorem State.headerJudged_pending (s : State) (src : Fin 32) (header : List Byte) : (s.headerJudged src header).pending = s.pending := by
  simp only [State.headerJudged]; (repeat' split) <;> simp

@[simp] theorem State.keepTile_control (s : State) (kind : BuildKind) (shadow : Bank) (t : Fin 16) (table : TileTable) : (s.keepTile kind shadow t table).control = s.control := rfl
@[simp] theorem State.keepTile_link (s : State) (kind : BuildKind) (shadow : Bank) (t : Fin 16) (table : TileTable) : (s.keepTile kind shadow t table).link = s.link := rfl
@[simp] theorem State.keepTile_mem (s : State) (kind : BuildKind) (shadow : Bank) (t : Fin 16) (table : TileTable) : (s.keepTile kind shadow t table).mem = s.mem := rfl
@[simp] theorem State.keepTile_port (s : State) (kind : BuildKind) (shadow : Bank) (t : Fin 16) (table : TileTable) : (s.keepTile kind shadow t table).port = s.port := rfl
@[simp] theorem State.keepTile_config (s : State) (kind : BuildKind) (shadow : Bank) (t : Fin 16) (table : TileTable) : (s.keepTile kind shadow t table).config = s.config := rfl
@[simp] theorem State.keepTile_frameNo (s : State) (kind : BuildKind) (shadow : Bank) (t : Fin 16) (table : TileTable) : (s.keepTile kind shadow t table).frameNo = s.frameNo := rfl
@[simp] theorem State.keepTile_alarmsLater (s : State) (kind : BuildKind) (shadow : Bank) (t : Fin 16) (table : TileTable) : (s.keepTile kind shadow t table).alarmsLater = s.alarmsLater := rfl
@[simp] theorem State.keepTile_live (s : State) (kind : BuildKind) (shadow : Bank) (t : Fin 16) (table : TileTable) : (s.keepTile kind shadow t table).live = s.live := rfl
@[simp] theorem State.keepTile_sources (s : State) (kind : BuildKind) (shadow : Bank) (t : Fin 16) (table : TileTable) : (s.keepTile kind shadow t table).sources = s.sources := rfl
@[simp] theorem State.keepTile_inputs (s : State) (kind : BuildKind) (shadow : Bank) (t : Fin 16) (table : TileTable) : (s.keepTile kind shadow t table).inputs = s.inputs := rfl
@[simp] theorem State.keepTile_alarms (s : State) (kind : BuildKind) (shadow : Bank) (t : Fin 16) (table : TileTable) : (s.keepTile kind shadow t table).alarms = s.alarms := rfl
@[simp] theorem State.keepTile_engines (s : State) (kind : BuildKind) (shadow : Bank) (t : Fin 16) (table : TileTable) : (s.keepTile kind shadow t table).engines = s.engines := rfl
@[simp] theorem State.keepTile_view (s : State) (kind : BuildKind) (shadow : Bank) (t : Fin 16) (table : TileTable) : (s.keepTile kind shadow t table).view = s.view := rfl
@[simp] theorem State.keepTile_ring (s : State) (kind : BuildKind) (shadow : Bank) (t : Fin 16) (table : TileTable) : (s.keepTile kind shadow t table).ring = s.ring := rfl
@[simp] theorem State.keepTile_status (s : State) (kind : BuildKind) (shadow : Bank) (t : Fin 16) (table : TileTable) : (s.keepTile kind shadow t table).status = s.status := rfl
@[simp] theorem State.keepTile_pending (s : State) (kind : BuildKind) (shadow : Bank) (t : Fin 16) (table : TileTable) : (s.keepTile kind shadow t table).pending = s.pending := rfl

@[simp] theorem State.completeLate_control (s : State) : (s.completeLate).control = s.control := by
  unfold State.completeLate; (repeat' split) <;> rfl
@[simp] theorem State.completeLate_link (s : State) : (s.completeLate).link = s.link := by
  unfold State.completeLate; (repeat' split) <;> rfl
@[simp] theorem State.completeLate_mem (s : State) : (s.completeLate).mem = s.mem := by
  unfold State.completeLate; (repeat' split) <;> rfl
@[simp] theorem State.completeLate_port (s : State) : (s.completeLate).port = s.port := by
  unfold State.completeLate; (repeat' split) <;> rfl
@[simp] theorem State.completeLate_config (s : State) : (s.completeLate).config = s.config := by
  unfold State.completeLate; (repeat' split) <;> rfl
@[simp] theorem State.completeLate_frameNo (s : State) : (s.completeLate).frameNo = s.frameNo := by
  unfold State.completeLate; (repeat' split) <;> rfl
@[simp] theorem State.completeLate_alarmsLater (s : State) : (s.completeLate).alarmsLater = s.alarmsLater := by
  unfold State.completeLate; (repeat' split) <;> rfl
@[simp] theorem State.completeLate_live (s : State) : (s.completeLate).live = s.live := by
  unfold State.completeLate; (repeat' split) <;> rfl
@[simp] theorem State.completeLate_sources (s : State) : (s.completeLate).sources = s.sources := by
  unfold State.completeLate; (repeat' split) <;> rfl
@[simp] theorem State.completeLate_inputs (s : State) : (s.completeLate).inputs = s.inputs := by
  unfold State.completeLate; (repeat' split) <;> rfl
@[simp] theorem State.completeLate_alarms (s : State) : (s.completeLate).alarms = s.alarms := by
  unfold State.completeLate; (repeat' split) <;> rfl
@[simp] theorem State.completeLate_engines (s : State) : (s.completeLate).engines = s.engines := by
  unfold State.completeLate; (repeat' split) <;> rfl
@[simp] theorem State.completeLate_view (s : State) : (s.completeLate).view = s.view := by
  unfold State.completeLate; (repeat' split) <;> rfl
@[simp] theorem State.completeLate_ring (s : State) : (s.completeLate).ring = s.ring := by
  unfold State.completeLate; (repeat' split) <;> rfl
@[simp] theorem State.completeLate_status (s : State) : (s.completeLate).status = s.status := by
  unfold State.completeLate; (repeat' split) <;> rfl
@[simp] theorem State.completeLate_pending (s : State) : (s.completeLate).pending = s.pending := by
  unfold State.completeLate; (repeat' split) <;> rfl

@[simp] theorem State.blocksTakeFrame_control (s : State) (lastTile : Bool) : (s.blocksTakeFrame lastTile).control = s.control := by
  unfold State.blocksTakeFrame; split <;> simp
@[simp] theorem State.blocksTakeFrame_mem (s : State) (lastTile : Bool) : (s.blocksTakeFrame lastTile).mem = s.mem := by
  unfold State.blocksTakeFrame; split <;> simp
@[simp] theorem State.blocksTakeFrame_config (s : State) (lastTile : Bool) : (s.blocksTakeFrame lastTile).config = s.config := by
  unfold State.blocksTakeFrame; split <;> simp
@[simp] theorem State.blocksTakeFrame_frameNo (s : State) (lastTile : Bool) : (s.blocksTakeFrame lastTile).frameNo = s.frameNo := by
  unfold State.blocksTakeFrame; split <;> simp
@[simp] theorem State.blocksTakeFrame_alarmsLater (s : State) (lastTile : Bool) : (s.blocksTakeFrame lastTile).alarmsLater = s.alarmsLater := by
  unfold State.blocksTakeFrame; split <;> simp
@[simp] theorem State.blocksTakeFrame_sources (s : State) (lastTile : Bool) : (s.blocksTakeFrame lastTile).sources = s.sources := by
  unfold State.blocksTakeFrame; split <;> simp
@[simp] theorem State.blocksTakeFrame_inputs (s : State) (lastTile : Bool) : (s.blocksTakeFrame lastTile).inputs = s.inputs := by
  unfold State.blocksTakeFrame; split <;> simp
@[simp] theorem State.blocksTakeFrame_alarms (s : State) (lastTile : Bool) : (s.blocksTakeFrame lastTile).alarms = s.alarms := by
  unfold State.blocksTakeFrame; split <;> simp
@[simp] theorem State.blocksTakeFrame_ring (s : State) (lastTile : Bool) : (s.blocksTakeFrame lastTile).ring = s.ring := by
  unfold State.blocksTakeFrame; split <;> simp
@[simp] theorem State.blocksTakeFrame_pending (s : State) (lastTile : Bool) : (s.blocksTakeFrame lastTile).pending = s.pending := by
  unfold State.blocksTakeFrame; split <;> simp

end Sys2Proof.Machine
end

