-- ==== Sys2Proof/Laws/FrameRing.lean ====
section
/-! SUPPORT. Frames: for the ring processor's, the builder's and the time base's operations, one lemma for each field of State that the operation leaves alone, and what a wall frame start does to the wall frame number. -/

namespace Sys2Proof.Machine

@[simp] theorem State.startLook_control (s : State) (cause : LookCause) : (s.startLook cause).control = s.control := rfl
@[simp] theorem State.startLook_link (s : State) (cause : LookCause) : (s.startLook cause).link = s.link := rfl
@[simp] theorem State.startLook_mem (s : State) (cause : LookCause) : (s.startLook cause).mem = s.mem := rfl
@[simp] theorem State.startLook_config (s : State) (cause : LookCause) : (s.startLook cause).config = s.config := rfl
@[simp] theorem State.startLook_frameNo (s : State) (cause : LookCause) : (s.startLook cause).frameNo = s.frameNo := rfl
@[simp] theorem State.startLook_alarmsLater (s : State) (cause : LookCause) : (s.startLook cause).alarmsLater = s.alarmsLater := rfl
@[simp] theorem State.startLook_live (s : State) (cause : LookCause) : (s.startLook cause).live = s.live := rfl
@[simp] theorem State.startLook_builder (s : State) (cause : LookCause) : (s.startLook cause).builder = s.builder := rfl
@[simp] theorem State.startLook_sources (s : State) (cause : LookCause) : (s.startLook cause).sources = s.sources := rfl
@[simp] theorem State.startLook_inputs (s : State) (cause : LookCause) : (s.startLook cause).inputs = s.inputs := rfl
@[simp] theorem State.startLook_alarms (s : State) (cause : LookCause) : (s.startLook cause).alarms = s.alarms := rfl
@[simp] theorem State.startLook_engines (s : State) (cause : LookCause) : (s.startLook cause).engines = s.engines := rfl
@[simp] theorem State.startLook_view (s : State) (cause : LookCause) : (s.startLook cause).view = s.view := rfl
@[simp] theorem State.startLook_status (s : State) (cause : LookCause) : (s.startLook cause).status = s.status := rfl
@[simp] theorem State.startLook_pending (s : State) (cause : LookCause) : (s.startLook cause).pending = s.pending := rfl

@[simp] theorem State.lookIn_control (s : State) (cause : LookCause) : (s.lookIn cause).control = s.control := by
  unfold State.lookIn; split <;> rfl
@[simp] theorem State.lookIn_link (s : State) (cause : LookCause) : (s.lookIn cause).link = s.link := by
  unfold State.lookIn; split <;> rfl
@[simp] theorem State.lookIn_mem (s : State) (cause : LookCause) : (s.lookIn cause).mem = s.mem := by
  unfold State.lookIn; split <;> rfl
@[simp] theorem State.lookIn_config (s : State) (cause : LookCause) : (s.lookIn cause).config = s.config := by
  unfold State.lookIn; split <;> rfl
@[simp] theorem State.lookIn_frameNo (s : State) (cause : LookCause) : (s.lookIn cause).frameNo = s.frameNo := by
  unfold State.lookIn; split <;> rfl
@[simp] theorem State.lookIn_alarmsLater (s : State) (cause : LookCause) : (s.lookIn cause).alarmsLater = s.alarmsLater := by
  unfold State.lookIn; split <;> rfl
@[simp] theorem State.lookIn_live (s : State) (cause : LookCause) : (s.lookIn cause).live = s.live := by
  unfold State.lookIn; split <;> rfl
@[simp] theorem State.lookIn_builder (s : State) (cause : LookCause) : (s.lookIn cause).builder = s.builder := by
  unfold State.lookIn; split <;> rfl
@[simp] theorem State.lookIn_sources (s : State) (cause : LookCause) : (s.lookIn cause).sources = s.sources := by
  unfold State.lookIn; split <;> rfl
@[simp] theorem State.lookIn_inputs (s : State) (cause : LookCause) : (s.lookIn cause).inputs = s.inputs := by
  unfold State.lookIn; split <;> rfl
@[simp] theorem State.lookIn_alarms (s : State) (cause : LookCause) : (s.lookIn cause).alarms = s.alarms := by
  unfold State.lookIn; split <;> rfl
@[simp] theorem State.lookIn_engines (s : State) (cause : LookCause) : (s.lookIn cause).engines = s.engines := by
  unfold State.lookIn; split <;> rfl
@[simp] theorem State.lookIn_view (s : State) (cause : LookCause) : (s.lookIn cause).view = s.view := by
  unfold State.lookIn; split <;> rfl
@[simp] theorem State.lookIn_status (s : State) (cause : LookCause) : (s.lookIn cause).status = s.status := by
  unfold State.lookIn; split <;> rfl
@[simp] theorem State.lookIn_pending (s : State) (cause : LookCause) : (s.lookIn cause).pending = s.pending := by
  unfold State.lookIn; split <;> rfl

@[simp] theorem State.lookAtOnce_control (s : State) : (s.lookAtOnce).control = s.control := by
  simp [State.lookAtOnce]
@[simp] theorem State.lookAtOnce_link (s : State) : (s.lookAtOnce).link = s.link := by
  simp [State.lookAtOnce]
@[simp] theorem State.lookAtOnce_mem (s : State) : (s.lookAtOnce).mem = s.mem := by
  simp [State.lookAtOnce]
@[simp] theorem State.lookAtOnce_config (s : State) : (s.lookAtOnce).config = s.config := by
  simp [State.lookAtOnce]
@[simp] theorem State.lookAtOnce_frameNo (s : State) : (s.lookAtOnce).frameNo = s.frameNo := by
  simp [State.lookAtOnce]
@[simp] theorem State.lookAtOnce_alarmsLater (s : State) : (s.lookAtOnce).alarmsLater = s.alarmsLater := by
  simp [State.lookAtOnce]
@[simp] theorem State.lookAtOnce_live (s : State) : (s.lookAtOnce).live = s.live := by
  simp [State.lookAtOnce]
@[simp] theorem State.lookAtOnce_builder (s : State) : (s.lookAtOnce).builder = s.builder := by
  simp [State.lookAtOnce]
@[simp] theorem State.lookAtOnce_sources (s : State) : (s.lookAtOnce).sources = s.sources := by
  simp [State.lookAtOnce]
@[simp] theorem State.lookAtOnce_inputs (s : State) : (s.lookAtOnce).inputs = s.inputs := by
  simp [State.lookAtOnce]
@[simp] theorem State.lookAtOnce_alarms (s : State) : (s.lookAtOnce).alarms = s.alarms := by
  simp [State.lookAtOnce]
@[simp] theorem State.lookAtOnce_engines (s : State) : (s.lookAtOnce).engines = s.engines := by
  simp [State.lookAtOnce]
@[simp] theorem State.lookAtOnce_view (s : State) : (s.lookAtOnce).view = s.view := by
  simp [State.lookAtOnce]
@[simp] theorem State.lookAtOnce_status (s : State) : (s.lookAtOnce).status = s.status := by
  simp [State.lookAtOnce]
@[simp] theorem State.lookAtOnce_pending (s : State) : (s.lookAtOnce).pending = s.pending := by
  simp [State.lookAtOnce]

@[simp] theorem State.clearWork_control (s : State) : (s.clearWork.1).control = s.control := by
  simp [State.clearWork]
@[simp] theorem State.clearWork_mem (s : State) : (s.clearWork.1).mem = s.mem := by
  simp [State.clearWork]
@[simp] theorem State.clearWork_port (s : State) : (s.clearWork.1).port = s.port := by
  simp [State.clearWork]
@[simp] theorem State.clearWork_config (s : State) : (s.clearWork.1).config = s.config := by
  simp [State.clearWork]
@[simp] theorem State.clearWork_frameNo (s : State) : (s.clearWork.1).frameNo = s.frameNo := by
  simp [State.clearWork]
@[simp] theorem State.clearWork_alarmsLater (s : State) : (s.clearWork.1).alarmsLater = s.alarmsLater := by
  simp [State.clearWork]
@[simp] theorem State.clearWork_live (s : State) : (s.clearWork.1).live = s.live := by
  simp [State.clearWork]
@[simp] theorem State.clearWork_sources (s : State) : (s.clearWork.1).sources = s.sources := by
  simp [State.clearWork]
@[simp] theorem State.clearWork_inputs (s : State) : (s.clearWork.1).inputs = s.inputs := by
  simp [State.clearWork]
@[simp] theorem State.clearWork_engines (s : State) : (s.clearWork.1).engines = s.engines := by
  simp [State.clearWork]
@[simp] theorem State.clearWork_view (s : State) : (s.clearWork.1).view = s.view := by
  simp [State.clearWork]
@[simp] theorem State.clearWork_ring (s : State) : (s.clearWork.1).ring = s.ring := by
  simp [State.clearWork]
@[simp] theorem State.clearWork_status (s : State) : (s.clearWork.1).status = s.status := by
  simp [State.clearWork]
@[simp] theorem State.clearWork_pending (s : State) : (s.clearWork.1).pending = s.pending := by
  simp [State.clearWork]

@[simp] theorem State.commitWith_control (s : State) (n : Word) (found : List (Nat × Nat)) : (s.commitWith n found).control = s.control := by
  simp [State.commitWith]
@[simp] theorem State.commitWith_mem (s : State) (n : Word) (found : List (Nat × Nat)) : (s.commitWith n found).mem = s.mem := by
  simp [State.commitWith]
@[simp] theorem State.commitWith_config (s : State) (n : Word) (found : List (Nat × Nat)) : (s.commitWith n found).config = s.config := by
  simp [State.commitWith]
@[simp] theorem State.commitWith_frameNo (s : State) (n : Word) (found : List (Nat × Nat)) : (s.commitWith n found).frameNo = s.frameNo := by
  simp [State.commitWith]
@[simp] theorem State.commitWith_alarmsLater (s : State) (n : Word) (found : List (Nat × Nat)) : (s.commitWith n found).alarmsLater = s.alarmsLater := by
  simp [State.commitWith]
@[simp] theorem State.commitWith_live (s : State) (n : Word) (found : List (Nat × Nat)) : (s.commitWith n found).live = s.live := by
  simp [State.commitWith]
@[simp] theorem State.commitWith_builder (s : State) (n : Word) (found : List (Nat × Nat)) : (s.commitWith n found).builder = s.builder := by
  simp [State.commitWith]
@[simp] theorem State.commitWith_alarms (s : State) (n : Word) (found : List (Nat × Nat)) : (s.commitWith n found).alarms = s.alarms := by
  simp [State.commitWith]
@[simp] theorem State.commitWith_pending (s : State) (n : Word) (found : List (Nat × Nat)) : (s.commitWith n found).pending = s.pending := by
  simp [State.commitWith]

@[simp] theorem State.commitGroup_control (s : State) (n : Word) : (s.commitGroup n).control = s.control := by
  simp [State.commitGroup]
@[simp] theorem State.commitGroup_mem (s : State) (n : Word) : (s.commitGroup n).mem = s.mem := by
  simp [State.commitGroup]
@[simp] theorem State.commitGroup_config (s : State) (n : Word) : (s.commitGroup n).config = s.config := by
  simp [State.commitGroup]
@[simp] theorem State.commitGroup_frameNo (s : State) (n : Word) : (s.commitGroup n).frameNo = s.frameNo := by
  simp [State.commitGroup]
@[simp] theorem State.commitGroup_alarmsLater (s : State) (n : Word) : (s.commitGroup n).alarmsLater = s.alarmsLater := by
  simp [State.commitGroup]
@[simp] theorem State.commitGroup_live (s : State) (n : Word) : (s.commitGroup n).live = s.live := by
  simp [State.commitGroup]
@[simp] theorem State.commitGroup_pending (s : State) (n : Word) : (s.commitGroup n).pending = s.pending := by
  simp [State.commitGroup]

@[simp] theorem State.ringTakesFrame_control (s : State) (n : Word) : (s.ringTakesFrame n).control = s.control := by
  unfold State.ringTakesFrame; split <;> simp
@[simp] theorem State.ringTakesFrame_mem (s : State) (n : Word) : (s.ringTakesFrame n).mem = s.mem := by
  unfold State.ringTakesFrame; split <;> simp
@[simp] theorem State.ringTakesFrame_config (s : State) (n : Word) : (s.ringTakesFrame n).config = s.config := by
  unfold State.ringTakesFrame; split <;> simp
@[simp] theorem State.ringTakesFrame_frameNo (s : State) (n : Word) : (s.ringTakesFrame n).frameNo = s.frameNo := by
  unfold State.ringTakesFrame; split <;> simp
@[simp] theorem State.ringTakesFrame_alarmsLater (s : State) (n : Word) : (s.ringTakesFrame n).alarmsLater = s.alarmsLater := by
  unfold State.ringTakesFrame; split <;> simp
@[simp] theorem State.ringTakesFrame_live (s : State) (n : Word) : (s.ringTakesFrame n).live = s.live := by
  unfold State.ringTakesFrame; split <;> simp
@[simp] theorem State.ringTakesFrame_pending (s : State) (n : Word) : (s.ringTakesFrame n).pending = s.pending := by
  unfold State.ringTakesFrame; split <;> simp

@[simp] theorem State.takeLookEvent_control (s : State) (ev : LookCause) : (s.takeLookEvent ev).control = s.control := by
  unfold State.takeLookEvent; split <;> simp
@[simp] theorem State.takeLookEvent_mem (s : State) (ev : LookCause) : (s.takeLookEvent ev).mem = s.mem := by
  unfold State.takeLookEvent; split <;> simp
@[simp] theorem State.takeLookEvent_config (s : State) (ev : LookCause) : (s.takeLookEvent ev).config = s.config := by
  unfold State.takeLookEvent; split <;> simp
@[simp] theorem State.takeLookEvent_frameNo (s : State) (ev : LookCause) : (s.takeLookEvent ev).frameNo = s.frameNo := by
  unfold State.takeLookEvent; split <;> simp
@[simp] theorem State.takeLookEvent_alarmsLater (s : State) (ev : LookCause) : (s.takeLookEvent ev).alarmsLater = s.alarmsLater := by
  unfold State.takeLookEvent; split <;> simp
@[simp] theorem State.takeLookEvent_live (s : State) (ev : LookCause) : (s.takeLookEvent ev).live = s.live := by
  unfold State.takeLookEvent; split <;> simp
@[simp] theorem State.takeLookEvent_pending (s : State) (ev : LookCause) : (s.takeLookEvent ev).pending = s.pending := by
  unfold State.takeLookEvent; split <;> simp

@[simp] theorem State.takeKept_control (s : State) (ev : LookCause) (more : Bool) :
    (s.takeKept ev more).control = s.control := by
  unfold State.takeKept; split
  · cases more <;> simp
  · simp
  · simp
@[simp] theorem State.takeKept_mem (s : State) (ev : LookCause) (more : Bool) :
    (s.takeKept ev more).mem = s.mem := by
  unfold State.takeKept; split
  · cases more <;> simp
  · simp
  · simp
@[simp] theorem State.takeKept_config (s : State) (ev : LookCause) (more : Bool) :
    (s.takeKept ev more).config = s.config := by
  unfold State.takeKept; split
  · cases more <;> simp
  · simp
  · simp
@[simp] theorem State.takeKept_frameNo (s : State) (ev : LookCause) (more : Bool) :
    (s.takeKept ev more).frameNo = s.frameNo := by
  unfold State.takeKept; split
  · cases more <;> simp
  · simp
  · simp
@[simp] theorem State.takeKept_live (s : State) (ev : LookCause) (more : Bool) :
    (s.takeKept ev more).live = s.live := by
  unfold State.takeKept; split
  · cases more <;> simp
  · simp
  · simp
@[simp] theorem State.takeKept_pending (s : State) (ev : LookCause) (more : Bool) :
    (s.takeKept ev more).pending = s.pending := by
  unfold State.takeKept; split
  · cases more <;> simp
  · simp
  · simp

@[simp] theorem State.serveKept_control (ks : List LookCause) (s : State) : (State.serveKept ks s).control = s.control := by
  induction ks generalizing s with
  | nil => simp [State.serveKept]
  | cons a as ih => simp only [State.serveKept]; split <;> simp [ih]
@[simp] theorem State.serveKept_mem (ks : List LookCause) (s : State) : (State.serveKept ks s).mem = s.mem := by
  induction ks generalizing s with
  | nil => simp [State.serveKept]
  | cons a as ih => simp only [State.serveKept]; split <;> simp [ih]
@[simp] theorem State.serveKept_config (ks : List LookCause) (s : State) : (State.serveKept ks s).config = s.config := by
  induction ks generalizing s with
  | nil => simp [State.serveKept]
  | cons a as ih => simp only [State.serveKept]; split <;> simp [ih]
@[simp] theorem State.serveKept_frameNo (ks : List LookCause) (s : State) : (State.serveKept ks s).frameNo = s.frameNo := by
  induction ks generalizing s with
  | nil => simp [State.serveKept]
  | cons a as ih => simp only [State.serveKept]; split <;> simp [ih]
@[simp] theorem State.serveKept_live (ks : List LookCause) (s : State) : (State.serveKept ks s).live = s.live := by
  induction ks generalizing s with
  | nil => simp [State.serveKept]
  | cons a as ih => simp only [State.serveKept]; split <;> simp [ih]
@[simp] theorem State.serveKept_pending (ks : List LookCause) (s : State) : (State.serveKept ks s).pending = s.pending := by
  induction ks generalizing s with
  | nil => simp [State.serveKept]
  | cons a as ih => simp only [State.serveKept]; split <;> simp [ih]

@[simp] theorem State.settleLooks_control (s : State) : (s.settleLooks).control = s.control := by
  simp [State.settleLooks]
@[simp] theorem State.settleLooks_mem (s : State) : (s.settleLooks).mem = s.mem := by
  simp [State.settleLooks]
@[simp] theorem State.settleLooks_config (s : State) : (s.settleLooks).config = s.config := by
  simp [State.settleLooks]
@[simp] theorem State.settleLooks_frameNo (s : State) : (s.settleLooks).frameNo = s.frameNo := by
  simp [State.settleLooks]
@[simp] theorem State.settleLooks_live (s : State) : (s.settleLooks).live = s.live := by
  simp [State.settleLooks]
@[simp] theorem State.settleLooks_pending (s : State) : (s.settleLooks).pending = s.pending := by
  simp [State.settleLooks]

@[simp] theorem State.alarmsWait_control (s : State) (ev : LookCause) : (s.alarmsWait ev).control = s.control := by
  unfold State.alarmsWait; split <;> rfl
@[simp] theorem State.alarmsWait_link (s : State) (ev : LookCause) : (s.alarmsWait ev).link = s.link := by
  unfold State.alarmsWait; split <;> rfl
@[simp] theorem State.alarmsWait_mem (s : State) (ev : LookCause) : (s.alarmsWait ev).mem = s.mem := by
  unfold State.alarmsWait; split <;> rfl
@[simp] theorem State.alarmsWait_port (s : State) (ev : LookCause) : (s.alarmsWait ev).port = s.port := by
  unfold State.alarmsWait; split <;> rfl
@[simp] theorem State.alarmsWait_config (s : State) (ev : LookCause) : (s.alarmsWait ev).config = s.config := by
  unfold State.alarmsWait; split <;> rfl
@[simp] theorem State.alarmsWait_frameNo (s : State) (ev : LookCause) : (s.alarmsWait ev).frameNo = s.frameNo := by
  unfold State.alarmsWait; split <;> rfl
@[simp] theorem State.alarmsWait_live (s : State) (ev : LookCause) : (s.alarmsWait ev).live = s.live := by
  unfold State.alarmsWait; split <;> rfl
@[simp] theorem State.alarmsWait_builder (s : State) (ev : LookCause) : (s.alarmsWait ev).builder = s.builder := by
  unfold State.alarmsWait; split <;> rfl
@[simp] theorem State.alarmsWait_sources (s : State) (ev : LookCause) : (s.alarmsWait ev).sources = s.sources := by
  unfold State.alarmsWait; split <;> rfl
@[simp] theorem State.alarmsWait_inputs (s : State) (ev : LookCause) : (s.alarmsWait ev).inputs = s.inputs := by
  unfold State.alarmsWait; split <;> rfl
@[simp] theorem State.alarmsWait_alarms (s : State) (ev : LookCause) : (s.alarmsWait ev).alarms = s.alarms := by
  unfold State.alarmsWait; split <;> rfl
@[simp] theorem State.alarmsWait_engines (s : State) (ev : LookCause) : (s.alarmsWait ev).engines = s.engines := by
  unfold State.alarmsWait; split <;> rfl
@[simp] theorem State.alarmsWait_view (s : State) (ev : LookCause) : (s.alarmsWait ev).view = s.view := by
  unfold State.alarmsWait; split <;> rfl
@[simp] theorem State.alarmsWait_ring (s : State) (ev : LookCause) : (s.alarmsWait ev).ring = s.ring := by
  unfold State.alarmsWait; split <;> rfl
@[simp] theorem State.alarmsWait_status (s : State) (ev : LookCause) : (s.alarmsWait ev).status = s.status := by
  unfold State.alarmsWait; split <;> rfl
@[simp] theorem State.alarmsWait_pending (s : State) (ev : LookCause) : (s.alarmsWait ev).pending = s.pending := by
  unfold State.alarmsWait; split <;> rfl

@[simp] theorem State.lookEvent_control (s : State) (ev : LookCause) : (s.lookEvent ev).control = s.control := by
  unfold State.lookEvent; dsimp only; (repeat' split) <;> simp
@[simp] theorem State.lookEvent_mem (s : State) (ev : LookCause) : (s.lookEvent ev).mem = s.mem := by
  unfold State.lookEvent; dsimp only; (repeat' split) <;> simp
@[simp] theorem State.lookEvent_config (s : State) (ev : LookCause) : (s.lookEvent ev).config = s.config := by
  unfold State.lookEvent; dsimp only; (repeat' split) <;> simp
@[simp] theorem State.lookEvent_frameNo (s : State) (ev : LookCause) : (s.lookEvent ev).frameNo = s.frameNo := by
  unfold State.lookEvent; dsimp only; (repeat' split) <;> simp
@[simp] theorem State.lookEvent_live (s : State) (ev : LookCause) : (s.lookEvent ev).live = s.live := by
  unfold State.lookEvent; dsimp only; (repeat' split) <;> simp
@[simp] theorem State.lookEvent_pending (s : State) (ev : LookCause) : (s.lookEvent ev).pending = s.pending := by
  unfold State.lookEvent; dsimp only; (repeat' split) <;> simp

@[simp] theorem State.abortGroup_control (s : State) (extra : List Held) (code detail : Nat) (skip : Bool) : (s.abortGroup extra code detail skip).control = s.control := by
  simp [State.abortGroup]
@[simp] theorem State.abortGroup_mem (s : State) (extra : List Held) (code detail : Nat) (skip : Bool) : (s.abortGroup extra code detail skip).mem = s.mem := by
  simp [State.abortGroup]
@[simp] theorem State.abortGroup_config (s : State) (extra : List Held) (code detail : Nat) (skip : Bool) : (s.abortGroup extra code detail skip).config = s.config := by
  simp [State.abortGroup]
@[simp] theorem State.abortGroup_frameNo (s : State) (extra : List Held) (code detail : Nat) (skip : Bool) : (s.abortGroup extra code detail skip).frameNo = s.frameNo := by
  simp [State.abortGroup]
@[simp] theorem State.abortGroup_live (s : State) (extra : List Held) (code detail : Nat) (skip : Bool) : (s.abortGroup extra code detail skip).live = s.live := by
  simp [State.abortGroup]
@[simp] theorem State.abortGroup_pending (s : State) (extra : List Held) (code detail : Nat) (skip : Bool) : (s.abortGroup extra code detail skip).pending = s.pending := by
  simp [State.abortGroup]

@[simp] theorem State.completeGroup_control (s : State) : (s.completeGroup).control = s.control := by
  unfold State.completeGroup; dsimp only; (repeat' split) <;> simp
@[simp] theorem State.completeGroup_mem (s : State) : (s.completeGroup).mem = s.mem := by
  unfold State.completeGroup; dsimp only; (repeat' split) <;> simp
@[simp] theorem State.completeGroup_config (s : State) : (s.completeGroup).config = s.config := by
  unfold State.completeGroup; dsimp only; (repeat' split) <;> simp
@[simp] theorem State.completeGroup_frameNo (s : State) : (s.completeGroup).frameNo = s.frameNo := by
  unfold State.completeGroup; dsimp only; (repeat' split) <;> simp
@[simp] theorem State.completeGroup_live (s : State) : (s.completeGroup).live = s.live := by
  unfold State.completeGroup; dsimp only; (repeat' split) <;> simp
@[simp] theorem State.completeGroup_pending (s : State) : (s.completeGroup).pending = s.pending := by
  unfold State.completeGroup; dsimp only; (repeat' split) <;> simp

@[simp] theorem State.groupFound_control (s : State) (slot : List Byte) : (s.groupFound slot).control = s.control := by
  unfold State.groupFound; split <;> simp
@[simp] theorem State.groupFound_link (s : State) (slot : List Byte) : (s.groupFound slot).link = s.link := by
  unfold State.groupFound; split <;> simp
@[simp] theorem State.groupFound_mem (s : State) (slot : List Byte) : (s.groupFound slot).mem = s.mem := by
  unfold State.groupFound; split <;> simp
@[simp] theorem State.groupFound_port (s : State) (slot : List Byte) : (s.groupFound slot).port = s.port := by
  unfold State.groupFound; split <;> simp
@[simp] theorem State.groupFound_config (s : State) (slot : List Byte) : (s.groupFound slot).config = s.config := by
  unfold State.groupFound; split <;> simp
@[simp] theorem State.groupFound_frameNo (s : State) (slot : List Byte) : (s.groupFound slot).frameNo = s.frameNo := by
  unfold State.groupFound; split <;> simp
@[simp] theorem State.groupFound_alarmsLater (s : State) (slot : List Byte) : (s.groupFound slot).alarmsLater = s.alarmsLater := by
  unfold State.groupFound; split <;> simp
@[simp] theorem State.groupFound_live (s : State) (slot : List Byte) : (s.groupFound slot).live = s.live := by
  unfold State.groupFound; split <;> simp
@[simp] theorem State.groupFound_builder (s : State) (slot : List Byte) : (s.groupFound slot).builder = s.builder := by
  unfold State.groupFound; split <;> simp
@[simp] theorem State.groupFound_sources (s : State) (slot : List Byte) : (s.groupFound slot).sources = s.sources := by
  unfold State.groupFound; split <;> simp
@[simp] theorem State.groupFound_inputs (s : State) (slot : List Byte) : (s.groupFound slot).inputs = s.inputs := by
  unfold State.groupFound; split <;> simp
@[simp] theorem State.groupFound_alarms (s : State) (slot : List Byte) : (s.groupFound slot).alarms = s.alarms := by
  unfold State.groupFound; split <;> simp
@[simp] theorem State.groupFound_engines (s : State) (slot : List Byte) : (s.groupFound slot).engines = s.engines := by
  unfold State.groupFound; split <;> simp
@[simp] theorem State.groupFound_view (s : State) (slot : List Byte) : (s.groupFound slot).view = s.view := by
  unfold State.groupFound; split <;> simp
@[simp] theorem State.groupFound_status (s : State) (slot : List Byte) : (s.groupFound slot).status = s.status := by
  unfold State.groupFound; split <;> simp
@[simp] theorem State.groupFound_pending (s : State) (slot : List Byte) : (s.groupFound slot).pending = s.pending := by
  unfold State.groupFound; split <;> simp

@[simp] theorem State.takeSlot_control (s : State) (slot : List Byte) (check : Ring → Verdict) : (s.takeSlot slot check).control = s.control := by
  unfold State.takeSlot; dsimp only; (repeat' split) <;> simp
@[simp] theorem State.takeSlot_mem (s : State) (slot : List Byte) (check : Ring → Verdict) : (s.takeSlot slot check).mem = s.mem := by
  unfold State.takeSlot; dsimp only; (repeat' split) <;> simp
@[simp] theorem State.takeSlot_config (s : State) (slot : List Byte) (check : Ring → Verdict) : (s.takeSlot slot check).config = s.config := by
  unfold State.takeSlot; dsimp only; (repeat' split) <;> simp
@[simp] theorem State.takeSlot_frameNo (s : State) (slot : List Byte) (check : Ring → Verdict) : (s.takeSlot slot check).frameNo = s.frameNo := by
  unfold State.takeSlot; dsimp only; (repeat' split) <;> simp
@[simp] theorem State.takeSlot_live (s : State) (slot : List Byte) (check : Ring → Verdict) : (s.takeSlot slot check).live = s.live := by
  unfold State.takeSlot; dsimp only; (repeat' split) <;> simp
@[simp] theorem State.takeSlot_pending (s : State) (slot : List Byte) (check : Ring → Verdict) : (s.takeSlot slot check).pending = s.pending := by
  unfold State.takeSlot; dsimp only; (repeat' split) <;> simp

@[simp] theorem State.takeKind_control (s : State) (kind : Nat) (check : List Byte → Ring → Verdict) : (s.takeKind kind check).control = s.control := by
  unfold State.takeKind; split <;> simp
@[simp] theorem State.takeKind_mem (s : State) (kind : Nat) (check : List Byte → Ring → Verdict) : (s.takeKind kind check).mem = s.mem := by
  unfold State.takeKind; split <;> simp
@[simp] theorem State.takeKind_config (s : State) (kind : Nat) (check : List Byte → Ring → Verdict) : (s.takeKind kind check).config = s.config := by
  unfold State.takeKind; split <;> simp
@[simp] theorem State.takeKind_frameNo (s : State) (kind : Nat) (check : List Byte → Ring → Verdict) : (s.takeKind kind check).frameNo = s.frameNo := by
  unfold State.takeKind; split <;> simp
@[simp] theorem State.takeKind_live (s : State) (kind : Nat) (check : List Byte → Ring → Verdict) : (s.takeKind kind check).live = s.live := by
  unfold State.takeKind; split <;> simp
@[simp] theorem State.takeKind_pending (s : State) (kind : Nat) (check : List Byte → Ring → Verdict) : (s.takeKind kind check).pending = s.pending := by
  unfold State.takeKind; split <;> simp

@[simp] theorem State.endReturn_control (s : State) (st : RingState) : (s.endReturn st).control = s.control := by
  simp [State.endReturn]
@[simp] theorem State.endReturn_mem (s : State) (st : RingState) : (s.endReturn st).mem = s.mem := by
  simp [State.endReturn]
@[simp] theorem State.endReturn_config (s : State) (st : RingState) : (s.endReturn st).config = s.config := by
  simp [State.endReturn]
@[simp] theorem State.endReturn_frameNo (s : State) (st : RingState) : (s.endReturn st).frameNo = s.frameNo := by
  simp [State.endReturn]
@[simp] theorem State.endReturn_alarmsLater (s : State) (st : RingState) : (s.endReturn st).alarmsLater = s.alarmsLater := by
  simp [State.endReturn]
@[simp] theorem State.endReturn_live (s : State) (st : RingState) : (s.endReturn st).live = s.live := by
  simp [State.endReturn]
@[simp] theorem State.endReturn_builder (s : State) (st : RingState) : (s.endReturn st).builder = s.builder := by
  simp [State.endReturn]
@[simp] theorem State.endReturn_sources (s : State) (st : RingState) : (s.endReturn st).sources = s.sources := by
  simp [State.endReturn]
@[simp] theorem State.endReturn_inputs (s : State) (st : RingState) : (s.endReturn st).inputs = s.inputs := by
  simp [State.endReturn]
@[simp] theorem State.endReturn_alarms (s : State) (st : RingState) : (s.endReturn st).alarms = s.alarms := by
  simp [State.endReturn]
@[simp] theorem State.endReturn_engines (s : State) (st : RingState) : (s.endReturn st).engines = s.engines := by
  simp [State.endReturn]
@[simp] theorem State.endReturn_view (s : State) (st : RingState) : (s.endReturn st).view = s.view := by
  simp [State.endReturn]
@[simp] theorem State.endReturn_status (s : State) (st : RingState) : (s.endReturn st).status = s.status := by
  simp [State.endReturn]
@[simp] theorem State.endReturn_pending (s : State) (st : RingState) : (s.endReturn st).pending = s.pending := by
  simp [State.endReturn]

@[simp] theorem State.failBuild_control (s : State) (t : Fin 16) (code : Nat) : (s.failBuild t code).control = s.control := by
  unfold State.failBuild; dsimp only; (repeat' split) <;> simp
@[simp] theorem State.failBuild_mem (s : State) (t : Fin 16) (code : Nat) : (s.failBuild t code).mem = s.mem := by
  unfold State.failBuild; dsimp only; (repeat' split) <;> simp
@[simp] theorem State.failBuild_config (s : State) (t : Fin 16) (code : Nat) : (s.failBuild t code).config = s.config := by
  unfold State.failBuild; dsimp only; (repeat' split) <;> simp
@[simp] theorem State.failBuild_frameNo (s : State) (t : Fin 16) (code : Nat) : (s.failBuild t code).frameNo = s.frameNo := by
  unfold State.failBuild; dsimp only; (repeat' split) <;> simp
@[simp] theorem State.failBuild_live (s : State) (t : Fin 16) (code : Nat) : (s.failBuild t code).live = s.live := by
  unfold State.failBuild; dsimp only; (repeat' split) <;> simp
@[simp] theorem State.failBuild_pending (s : State) (t : Fin 16) (code : Nat) : (s.failBuild t code).pending = s.pending := by
  unfold State.failBuild; dsimp only; (repeat' split) <;> simp

@[simp] theorem State.ringFrame_control (s : State) : (s.ringFrame).control = s.control := by
  simp [State.ringFrame]
@[simp] theorem State.ringFrame_mem (s : State) : (s.ringFrame).mem = s.mem := by
  simp [State.ringFrame]
@[simp] theorem State.ringFrame_config (s : State) : (s.ringFrame).config = s.config := by
  simp [State.ringFrame]
@[simp] theorem State.ringFrame_frameNo (s : State) : (s.ringFrame).frameNo = s.frameNo := by
  simp [State.ringFrame]
@[simp] theorem State.ringFrame_live (s : State) : (s.ringFrame).live = s.live := by
  simp [State.ringFrame]
@[simp] theorem State.ringFrame_pending (s : State) : (s.ringFrame).pending = s.pending := by
  simp [State.ringFrame]

@[simp] theorem State.ageSources_control (s : State) : (s.ageSources).control = s.control := rfl
@[simp] theorem State.ageSources_link (s : State) : (s.ageSources).link = s.link := rfl
@[simp] theorem State.ageSources_mem (s : State) : (s.ageSources).mem = s.mem := rfl
@[simp] theorem State.ageSources_port (s : State) : (s.ageSources).port = s.port := rfl
@[simp] theorem State.ageSources_config (s : State) : (s.ageSources).config = s.config := rfl
@[simp] theorem State.ageSources_frameNo (s : State) : (s.ageSources).frameNo = s.frameNo := rfl
@[simp] theorem State.ageSources_alarmsLater (s : State) : (s.ageSources).alarmsLater = s.alarmsLater := rfl
@[simp] theorem State.ageSources_live (s : State) : (s.ageSources).live = s.live := rfl
@[simp] theorem State.ageSources_builder (s : State) : (s.ageSources).builder = s.builder := rfl
@[simp] theorem State.ageSources_inputs (s : State) : (s.ageSources).inputs = s.inputs := rfl
@[simp] theorem State.ageSources_alarms (s : State) : (s.ageSources).alarms = s.alarms := rfl
@[simp] theorem State.ageSources_engines (s : State) : (s.ageSources).engines = s.engines := rfl
@[simp] theorem State.ageSources_view (s : State) : (s.ageSources).view = s.view := rfl
@[simp] theorem State.ageSources_ring (s : State) : (s.ageSources).ring = s.ring := rfl
@[simp] theorem State.ageSources_status (s : State) : (s.ageSources).status = s.status := rfl
@[simp] theorem State.ageSources_pending (s : State) : (s.ageSources).pending = s.pending := rfl

@[simp] theorem State.tickInputs_control (s : State) (which : BitVec 16) : (s.tickInputs which).control = s.control := by
  simp [State.tickInputs]
@[simp] theorem State.tickInputs_mem (s : State) (which : BitVec 16) : (s.tickInputs which).mem = s.mem := by
  simp [State.tickInputs]
@[simp] theorem State.tickInputs_config (s : State) (which : BitVec 16) : (s.tickInputs which).config = s.config := by
  simp [State.tickInputs]
@[simp] theorem State.tickInputs_frameNo (s : State) (which : BitVec 16) : (s.tickInputs which).frameNo = s.frameNo := by
  simp [State.tickInputs]
@[simp] theorem State.tickInputs_live (s : State) (which : BitVec 16) : (s.tickInputs which).live = s.live := by
  simp [State.tickInputs]
@[simp] theorem State.tickInputs_builder (s : State) (which : BitVec 16) : (s.tickInputs which).builder = s.builder := by
  simp [State.tickInputs]
@[simp] theorem State.tickInputs_sources (s : State) (which : BitVec 16) : (s.tickInputs which).sources = s.sources := by
  simp [State.tickInputs]
@[simp] theorem State.tickInputs_alarms (s : State) (which : BitVec 16) : (s.tickInputs which).alarms = s.alarms := by
  simp [State.tickInputs]
@[simp] theorem State.tickInputs_alarmsLater (s : State) (which : BitVec 16) : (s.tickInputs which).alarmsLater = s.alarmsLater := by
  simp [State.tickInputs]
@[simp] theorem State.tickInputs_engines (s : State) (which : BitVec 16) : (s.tickInputs which).engines = s.engines := by
  simp [State.tickInputs]
@[simp] theorem State.tickInputs_view (s : State) (which : BitVec 16) : (s.tickInputs which).view = s.view := by
  simp [State.tickInputs]
@[simp] theorem State.tickInputs_ring (s : State) (which : BitVec 16) : (s.tickInputs which).ring = s.ring := by
  simp [State.tickInputs]
@[simp] theorem State.tickInputs_status (s : State) (which : BitVec 16) : (s.tickInputs which).status = s.status := by
  simp [State.tickInputs]
@[simp] theorem State.tickInputs_pending (s : State) (which : BitVec 16) : (s.tickInputs which).pending = s.pending := by
  simp [State.tickInputs]

@[simp] theorem State.unitsTick_control (s : State) (sources : Bool) (inputs : BitVec 16) : (s.unitsTick sources inputs).control = s.control := by
  unfold State.unitsTick; split <;> simp
@[simp] theorem State.unitsTick_mem (s : State) (sources : Bool) (inputs : BitVec 16) : (s.unitsTick sources inputs).mem = s.mem := by
  unfold State.unitsTick; split <;> simp
@[simp] theorem State.unitsTick_config (s : State) (sources : Bool) (inputs : BitVec 16) : (s.unitsTick sources inputs).config = s.config := by
  unfold State.unitsTick; split <;> simp
@[simp] theorem State.unitsTick_frameNo (s : State) (sources : Bool) (inputs : BitVec 16) : (s.unitsTick sources inputs).frameNo = s.frameNo := by
  unfold State.unitsTick; split <;> simp
@[simp] theorem State.unitsTick_live (s : State) (sources : Bool) (inputs : BitVec 16) : (s.unitsTick sources inputs).live = s.live := by
  unfold State.unitsTick; split <;> simp
@[simp] theorem State.unitsTick_builder (s : State) (sources : Bool) (inputs : BitVec 16) : (s.unitsTick sources inputs).builder = s.builder := by
  unfold State.unitsTick; split <;> simp
@[simp] theorem State.unitsTick_alarms (s : State) (sources : Bool) (inputs : BitVec 16) : (s.unitsTick sources inputs).alarms = s.alarms := by
  unfold State.unitsTick; split <;> simp
@[simp] theorem State.unitsTick_alarmsLater (s : State) (sources : Bool) (inputs : BitVec 16) : (s.unitsTick sources inputs).alarmsLater = s.alarmsLater := by
  unfold State.unitsTick; split <;> simp
@[simp] theorem State.unitsTick_engines (s : State) (sources : Bool) (inputs : BitVec 16) : (s.unitsTick sources inputs).engines = s.engines := by
  unfold State.unitsTick; split <;> simp
@[simp] theorem State.unitsTick_view (s : State) (sources : Bool) (inputs : BitVec 16) : (s.unitsTick sources inputs).view = s.view := by
  unfold State.unitsTick; split <;> simp
@[simp] theorem State.unitsTick_ring (s : State) (sources : Bool) (inputs : BitVec 16) : (s.unitsTick sources inputs).ring = s.ring := by
  unfold State.unitsTick; split <;> simp
@[simp] theorem State.unitsTick_status (s : State) (sources : Bool) (inputs : BitVec 16) : (s.unitsTick sources inputs).status = s.status := by
  unfold State.unitsTick; split <;> simp
@[simp] theorem State.unitsTick_pending (s : State) (sources : Bool) (inputs : BitVec 16) : (s.unitsTick sources inputs).pending = s.pending := by
  unfold State.unitsTick; split <;> simp

@[simp] theorem State.finishSource_control (s : State) (src : Fin 32) : (s.finishSource src).control = s.control := by
  simp [State.finishSource]
@[simp] theorem State.finishSource_mem (s : State) (src : Fin 32) : (s.finishSource src).mem = s.mem := by
  simp [State.finishSource]
@[simp] theorem State.finishSource_port (s : State) (src : Fin 32) : (s.finishSource src).port = s.port := by
  simp [State.finishSource]
@[simp] theorem State.finishSource_config (s : State) (src : Fin 32) : (s.finishSource src).config = s.config := by
  simp [State.finishSource]
@[simp] theorem State.finishSource_frameNo (s : State) (src : Fin 32) : (s.finishSource src).frameNo = s.frameNo := by
  simp [State.finishSource]
@[simp] theorem State.finishSource_alarmsLater (s : State) (src : Fin 32) : (s.finishSource src).alarmsLater = s.alarmsLater := by
  simp [State.finishSource]
@[simp] theorem State.finishSource_live (s : State) (src : Fin 32) : (s.finishSource src).live = s.live := by
  simp [State.finishSource]
@[simp] theorem State.finishSource_builder (s : State) (src : Fin 32) : (s.finishSource src).builder = s.builder := by
  simp [State.finishSource]
@[simp] theorem State.finishSource_inputs (s : State) (src : Fin 32) : (s.finishSource src).inputs = s.inputs := by
  simp [State.finishSource]
@[simp] theorem State.finishSource_alarms (s : State) (src : Fin 32) : (s.finishSource src).alarms = s.alarms := by
  simp [State.finishSource]
@[simp] theorem State.finishSource_engines (s : State) (src : Fin 32) : (s.finishSource src).engines = s.engines := by
  simp [State.finishSource]
@[simp] theorem State.finishSource_view (s : State) (src : Fin 32) : (s.finishSource src).view = s.view := by
  simp [State.finishSource]
@[simp] theorem State.finishSource_ring (s : State) (src : Fin 32) : (s.finishSource src).ring = s.ring := by
  simp [State.finishSource]
@[simp] theorem State.finishSource_status (s : State) (src : Fin 32) : (s.finishSource src).status = s.status := by
  simp [State.finishSource]
@[simp] theorem State.finishSource_pending (s : State) (src : Fin 32) : (s.finishSource src).pending = s.pending := by
  simp [State.finishSource]

@[simp] theorem State.frameAlone_control (s : State) (setFirst lastTile : Bool) : (s.frameAlone setFirst lastTile).control = s.control := by
  unfold State.frameAlone; dsimp only; (repeat' split) <;> simp
@[simp] theorem State.frameAlone_mem (s : State) (setFirst lastTile : Bool) : (s.frameAlone setFirst lastTile).mem = s.mem := by
  unfold State.frameAlone; dsimp only; (repeat' split) <;> simp
@[simp] theorem State.frameAlone_config (s : State) (setFirst lastTile : Bool) : (s.frameAlone setFirst lastTile).config = s.config := by
  unfold State.frameAlone; dsimp only; (repeat' split) <;> simp
@[simp] theorem State.frameAlone_frameNo (s : State) (setFirst lastTile : Bool) : (s.frameAlone setFirst lastTile).frameNo = s.frameNo + 1 := by
  unfold State.frameAlone; dsimp only; (repeat' split) <;> simp
@[simp] theorem State.frameAlone_pending (s : State) (setFirst lastTile : Bool) : (s.frameAlone setFirst lastTile).pending = s.pending := by
  unfold State.frameAlone; dsimp only; (repeat' split) <;> simp

@[simp] theorem State.frameChangeAfter_control (s : State) (high : Groups) (lastTile : Bool) : (s.frameChangeAfter high lastTile).control = s.control := by
  unfold State.frameChangeAfter; dsimp only; split <;> simp
@[simp] theorem State.frameChangeAfter_mem (s : State) (high : Groups) (lastTile : Bool) : (s.frameChangeAfter high lastTile).mem = s.mem := by
  unfold State.frameChangeAfter; dsimp only; split <;> simp
@[simp] theorem State.frameChangeAfter_config (s : State) (high : Groups) (lastTile : Bool) : (s.frameChangeAfter high lastTile).config = s.config := by
  unfold State.frameChangeAfter; dsimp only; split <;> simp
@[simp] theorem State.frameChangeAfter_frameNo (s : State) (high : Groups) (lastTile : Bool) : (s.frameChangeAfter high lastTile).frameNo = s.frameNo + 1 := by
  unfold State.frameChangeAfter; dsimp only; split <;> simp
@[simp] theorem State.frameChangeAfter_pending (s : State) (high : Groups) (lastTile : Bool) : (s.frameChangeAfter high lastTile).pending = s.pending := by
  unfold State.frameChangeAfter; dsimp only; split <;> simp

@[simp] theorem State.frameChangeBefore_control (s : State) (high : Groups) (lastTile : Bool) : (s.frameChangeBefore high lastTile).control = s.control := by
  unfold State.frameChangeBefore; dsimp only; (repeat' split) <;> simp
@[simp] theorem State.frameChangeBefore_mem (s : State) (high : Groups) (lastTile : Bool) : (s.frameChangeBefore high lastTile).mem = s.mem := by
  unfold State.frameChangeBefore; dsimp only; (repeat' split) <;> simp
@[simp] theorem State.frameChangeBefore_config (s : State) (high : Groups) (lastTile : Bool) : (s.frameChangeBefore high lastTile).config = s.config := by
  unfold State.frameChangeBefore; dsimp only; (repeat' split) <;> simp
@[simp] theorem State.frameChangeBefore_frameNo (s : State) (high : Groups) (lastTile : Bool) : (s.frameChangeBefore high lastTile).frameNo = s.frameNo + 1 := by
  unfold State.frameChangeBefore; dsimp only; (repeat' split) <;> simp
@[simp] theorem State.frameChangeBefore_pending (s : State) (high : Groups) (lastTile : Bool) : (s.frameChangeBefore high lastTile).pending = s.pending := by
  unfold State.frameChangeBefore; dsimp only; (repeat' split) <;> simp

@[simp] theorem State.frameAndInterval_control (s : State) (order : FrameOrder) (x : TogetherInterval) : (s.frameAndInterval order x).control = s.control := by
  unfold State.frameAndInterval; dsimp only; (repeat' split) <;> simp
@[simp] theorem State.frameAndInterval_mem (s : State) (order : FrameOrder) (x : TogetherInterval) : (s.frameAndInterval order x).mem = s.mem := by
  unfold State.frameAndInterval; dsimp only; (repeat' split) <;> simp
@[simp] theorem State.frameAndInterval_config (s : State) (order : FrameOrder) (x : TogetherInterval) : (s.frameAndInterval order x).config = s.config := by
  unfold State.frameAndInterval; dsimp only; (repeat' split) <;> simp
@[simp] theorem State.frameAndInterval_frameNo (s : State) (order : FrameOrder) (x : TogetherInterval) : (s.frameAndInterval order x).frameNo = s.frameNo + 1 := by
  unfold State.frameAndInterval; dsimp only; (repeat' split) <;> simp
@[simp] theorem State.frameAndInterval_pending (s : State) (order : FrameOrder) (x : TogetherInterval) : (s.frameAndInterval order x).pending = s.pending := by
  unfold State.frameAndInterval; dsimp only; (repeat' split) <;> simp

@[simp] theorem State.takeFrame_control (s : State) (order : FrameOrder) : (s.takeFrame order).control = s.control := by
  unfold State.takeFrame; split <;> simp
@[simp] theorem State.takeFrame_mem (s : State) (order : FrameOrder) : (s.takeFrame order).mem = s.mem := by
  unfold State.takeFrame; split <;> simp
@[simp] theorem State.takeFrame_config (s : State) (order : FrameOrder) : (s.takeFrame order).config = s.config := by
  unfold State.takeFrame; split <;> simp
@[simp] theorem State.takeFrame_frameNo (s : State) (order : FrameOrder) : (s.takeFrame order).frameNo = s.frameNo + 1 := by
  unfold State.takeFrame; split <;> simp
@[simp] theorem State.takeFrame_pending (s : State) (order : FrameOrder) : (s.takeFrame order).pending = s.pending := by
  unfold State.takeFrame; split <;> simp

end Sys2Proof.Machine
end

