-- ==== Sys2Proof/Laws/FrameGrant.lean ====
section
/-! SUPPORT. Frames: for the port's grants and the part state's operations, one lemma for each field of State that the operation leaves alone. -/

namespace Sys2Proof.Machine

@[simp] theorem State.loadGranted_link (s : State) (bytes : List Byte) : (s.loadGranted bytes).link = s.link := by
  unfold State.loadGranted; dsimp only; (repeat' split) <;> simp
@[simp] theorem State.loadGranted_mem (s : State) (bytes : List Byte) : (s.loadGranted bytes).mem = s.mem := by
  unfold State.loadGranted; dsimp only; (repeat' split) <;> simp
@[simp] theorem State.loadGranted_config (s : State) (bytes : List Byte) : (s.loadGranted bytes).config = s.config := by
  unfold State.loadGranted; dsimp only; (repeat' split) <;> simp
@[simp] theorem State.loadGranted_frameNo (s : State) (bytes : List Byte) : (s.loadGranted bytes).frameNo = s.frameNo := by
  unfold State.loadGranted; dsimp only; (repeat' split) <;> simp
@[simp] theorem State.loadGranted_alarmsLater (s : State) (bytes : List Byte) : (s.loadGranted bytes).alarmsLater = s.alarmsLater := by
  unfold State.loadGranted; dsimp only; (repeat' split) <;> simp
@[simp] theorem State.loadGranted_live (s : State) (bytes : List Byte) : (s.loadGranted bytes).live = s.live := by
  unfold State.loadGranted; dsimp only; (repeat' split) <;> simp
@[simp] theorem State.loadGranted_builder (s : State) (bytes : List Byte) : (s.loadGranted bytes).builder = s.builder := by
  unfold State.loadGranted; dsimp only; (repeat' split) <;> simp
@[simp] theorem State.loadGranted_sources (s : State) (bytes : List Byte) : (s.loadGranted bytes).sources = s.sources := by
  unfold State.loadGranted; dsimp only; (repeat' split) <;> simp
@[simp] theorem State.loadGranted_inputs (s : State) (bytes : List Byte) : (s.loadGranted bytes).inputs = s.inputs := by
  unfold State.loadGranted; dsimp only; (repeat' split) <;> simp
@[simp] theorem State.loadGranted_alarms (s : State) (bytes : List Byte) : (s.loadGranted bytes).alarms = s.alarms := by
  unfold State.loadGranted; dsimp only; (repeat' split) <;> simp
@[simp] theorem State.loadGranted_engines (s : State) (bytes : List Byte) : (s.loadGranted bytes).engines = s.engines := by
  unfold State.loadGranted; dsimp only; (repeat' split) <;> simp
@[simp] theorem State.loadGranted_view (s : State) (bytes : List Byte) : (s.loadGranted bytes).view = s.view := by
  unfold State.loadGranted; dsimp only; (repeat' split) <;> simp
@[simp] theorem State.loadGranted_ring (s : State) (bytes : List Byte) : (s.loadGranted bytes).ring = s.ring := by
  unfold State.loadGranted; dsimp only; (repeat' split) <;> simp
@[simp] theorem State.loadGranted_status (s : State) (bytes : List Byte) : (s.loadGranted bytes).status = s.status := by
  unfold State.loadGranted; dsimp only; (repeat' split) <;> simp
@[simp] theorem State.loadGranted_pending (s : State) (bytes : List Byte) : (s.loadGranted bytes).pending = s.pending := by
  unfold State.loadGranted; dsimp only; (repeat' split) <;> simp

@[simp] theorem State.ringGranted_control (s : State) (bytes : List Byte) : (s.ringGranted bytes).control = s.control := by
  unfold State.ringGranted; dsimp only; (repeat' split) <;> simp
@[simp] theorem State.ringGranted_link (s : State) (bytes : List Byte) : (s.ringGranted bytes).link = s.link := by
  unfold State.ringGranted; dsimp only; (repeat' split) <;> simp
@[simp] theorem State.ringGranted_mem (s : State) (bytes : List Byte) : (s.ringGranted bytes).mem = s.mem := by
  unfold State.ringGranted; dsimp only; (repeat' split) <;> simp
@[simp] theorem State.ringGranted_config (s : State) (bytes : List Byte) : (s.ringGranted bytes).config = s.config := by
  unfold State.ringGranted; dsimp only; (repeat' split) <;> simp
@[simp] theorem State.ringGranted_frameNo (s : State) (bytes : List Byte) : (s.ringGranted bytes).frameNo = s.frameNo := by
  unfold State.ringGranted; dsimp only; (repeat' split) <;> simp
@[simp] theorem State.ringGranted_alarmsLater (s : State) (bytes : List Byte) : (s.ringGranted bytes).alarmsLater = s.alarmsLater := by
  unfold State.ringGranted; dsimp only; (repeat' split) <;> simp
@[simp] theorem State.ringGranted_live (s : State) (bytes : List Byte) : (s.ringGranted bytes).live = s.live := by
  unfold State.ringGranted; dsimp only; (repeat' split) <;> simp
@[simp] theorem State.ringGranted_builder (s : State) (bytes : List Byte) : (s.ringGranted bytes).builder = s.builder := by
  unfold State.ringGranted; dsimp only; (repeat' split) <;> simp
@[simp] theorem State.ringGranted_sources (s : State) (bytes : List Byte) : (s.ringGranted bytes).sources = s.sources := by
  unfold State.ringGranted; dsimp only; (repeat' split) <;> simp
@[simp] theorem State.ringGranted_inputs (s : State) (bytes : List Byte) : (s.ringGranted bytes).inputs = s.inputs := by
  unfold State.ringGranted; dsimp only; (repeat' split) <;> simp
@[simp] theorem State.ringGranted_alarms (s : State) (bytes : List Byte) : (s.ringGranted bytes).alarms = s.alarms := by
  unfold State.ringGranted; dsimp only; (repeat' split) <;> simp
@[simp] theorem State.ringGranted_engines (s : State) (bytes : List Byte) : (s.ringGranted bytes).engines = s.engines := by
  unfold State.ringGranted; dsimp only; (repeat' split) <;> simp
@[simp] theorem State.ringGranted_view (s : State) (bytes : List Byte) : (s.ringGranted bytes).view = s.view := by
  unfold State.ringGranted; dsimp only; (repeat' split) <;> simp
@[simp] theorem State.ringGranted_status (s : State) (bytes : List Byte) : (s.ringGranted bytes).status = s.status := by
  unfold State.ringGranted; dsimp only; (repeat' split) <;> simp
@[simp] theorem State.ringGranted_pending (s : State) (bytes : List Byte) : (s.ringGranted bytes).pending = s.pending := by
  unfold State.ringGranted; dsimp only; (repeat' split) <;> simp

@[simp] theorem State.sourceGranted_control (s : State) (t : Transfer) (bytes : List Byte) : (s.sourceGranted t bytes).control = s.control := by
  unfold State.sourceGranted; dsimp only; (repeat' split) <;> simp
@[simp] theorem State.sourceGranted_link (s : State) (t : Transfer) (bytes : List Byte) : (s.sourceGranted t bytes).link = s.link := by
  unfold State.sourceGranted; dsimp only; (repeat' split) <;> simp
@[simp] theorem State.sourceGranted_mem (s : State) (t : Transfer) (bytes : List Byte) : (s.sourceGranted t bytes).mem = s.mem := by
  unfold State.sourceGranted; dsimp only; (repeat' split) <;> simp
@[simp] theorem State.sourceGranted_port (s : State) (t : Transfer) (bytes : List Byte) : (s.sourceGranted t bytes).port = s.port := by
  unfold State.sourceGranted; dsimp only; (repeat' split) <;> simp
@[simp] theorem State.sourceGranted_config (s : State) (t : Transfer) (bytes : List Byte) : (s.sourceGranted t bytes).config = s.config := by
  unfold State.sourceGranted; dsimp only; (repeat' split) <;> simp
@[simp] theorem State.sourceGranted_frameNo (s : State) (t : Transfer) (bytes : List Byte) : (s.sourceGranted t bytes).frameNo = s.frameNo := by
  unfold State.sourceGranted; dsimp only; (repeat' split) <;> simp
@[simp] theorem State.sourceGranted_alarmsLater (s : State) (t : Transfer) (bytes : List Byte) : (s.sourceGranted t bytes).alarmsLater = s.alarmsLater := by
  unfold State.sourceGranted; dsimp only; (repeat' split) <;> simp
@[simp] theorem State.sourceGranted_live (s : State) (t : Transfer) (bytes : List Byte) : (s.sourceGranted t bytes).live = s.live := by
  unfold State.sourceGranted; dsimp only; (repeat' split) <;> simp
@[simp] theorem State.sourceGranted_builder (s : State) (t : Transfer) (bytes : List Byte) : (s.sourceGranted t bytes).builder = s.builder := by
  unfold State.sourceGranted; dsimp only; (repeat' split) <;> simp
@[simp] theorem State.sourceGranted_inputs (s : State) (t : Transfer) (bytes : List Byte) : (s.sourceGranted t bytes).inputs = s.inputs := by
  unfold State.sourceGranted; dsimp only; (repeat' split) <;> simp
@[simp] theorem State.sourceGranted_alarms (s : State) (t : Transfer) (bytes : List Byte) : (s.sourceGranted t bytes).alarms = s.alarms := by
  unfold State.sourceGranted; dsimp only; (repeat' split) <;> simp
@[simp] theorem State.sourceGranted_engines (s : State) (t : Transfer) (bytes : List Byte) : (s.sourceGranted t bytes).engines = s.engines := by
  unfold State.sourceGranted; dsimp only; (repeat' split) <;> simp
@[simp] theorem State.sourceGranted_view (s : State) (t : Transfer) (bytes : List Byte) : (s.sourceGranted t bytes).view = s.view := by
  unfold State.sourceGranted; dsimp only; (repeat' split) <;> simp
@[simp] theorem State.sourceGranted_ring (s : State) (t : Transfer) (bytes : List Byte) : (s.sourceGranted t bytes).ring = s.ring := by
  unfold State.sourceGranted; dsimp only; (repeat' split) <;> simp
@[simp] theorem State.sourceGranted_status (s : State) (t : Transfer) (bytes : List Byte) : (s.sourceGranted t bytes).status = s.status := by
  unfold State.sourceGranted; dsimp only; (repeat' split) <;> simp
@[simp] theorem State.sourceGranted_pending (s : State) (t : Transfer) (bytes : List Byte) : (s.sourceGranted t bytes).pending = s.pending := by
  unfold State.sourceGranted; dsimp only; (repeat' split) <;> simp

@[simp] theorem State.tileGranted_control (s : State) (t : Fin 16) (x : Transfer) (bytes : List Byte) : (s.tileGranted t x bytes).control = s.control := by
  unfold State.tileGranted; dsimp only; (repeat' split) <;> simp
@[simp] theorem State.tileGranted_link (s : State) (t : Fin 16) (x : Transfer) (bytes : List Byte) : (s.tileGranted t x bytes).link = s.link := by
  unfold State.tileGranted; dsimp only; (repeat' split) <;> simp
@[simp] theorem State.tileGranted_mem (s : State) (t : Fin 16) (x : Transfer) (bytes : List Byte) : (s.tileGranted t x bytes).mem = s.mem := by
  unfold State.tileGranted; dsimp only; (repeat' split) <;> simp
@[simp] theorem State.tileGranted_port (s : State) (t : Fin 16) (x : Transfer) (bytes : List Byte) : (s.tileGranted t x bytes).port = s.port := by
  unfold State.tileGranted; dsimp only; (repeat' split) <;> simp
@[simp] theorem State.tileGranted_config (s : State) (t : Fin 16) (x : Transfer) (bytes : List Byte) : (s.tileGranted t x bytes).config = s.config := by
  unfold State.tileGranted; dsimp only; (repeat' split) <;> simp
@[simp] theorem State.tileGranted_frameNo (s : State) (t : Fin 16) (x : Transfer) (bytes : List Byte) : (s.tileGranted t x bytes).frameNo = s.frameNo := by
  unfold State.tileGranted; dsimp only; (repeat' split) <;> simp
@[simp] theorem State.tileGranted_alarmsLater (s : State) (t : Fin 16) (x : Transfer) (bytes : List Byte) : (s.tileGranted t x bytes).alarmsLater = s.alarmsLater := by
  unfold State.tileGranted; dsimp only; (repeat' split) <;> simp
@[simp] theorem State.tileGranted_live (s : State) (t : Fin 16) (x : Transfer) (bytes : List Byte) : (s.tileGranted t x bytes).live = s.live := by
  unfold State.tileGranted; dsimp only; (repeat' split) <;> simp
@[simp] theorem State.tileGranted_builder (s : State) (t : Fin 16) (x : Transfer) (bytes : List Byte) : (s.tileGranted t x bytes).builder = s.builder := by
  unfold State.tileGranted; dsimp only; (repeat' split) <;> simp
@[simp] theorem State.tileGranted_sources (s : State) (t : Fin 16) (x : Transfer) (bytes : List Byte) : (s.tileGranted t x bytes).sources = s.sources := by
  unfold State.tileGranted; dsimp only; (repeat' split) <;> simp
@[simp] theorem State.tileGranted_inputs (s : State) (t : Fin 16) (x : Transfer) (bytes : List Byte) : (s.tileGranted t x bytes).inputs = s.inputs := by
  unfold State.tileGranted; dsimp only; (repeat' split) <;> simp
@[simp] theorem State.tileGranted_alarms (s : State) (t : Fin 16) (x : Transfer) (bytes : List Byte) : (s.tileGranted t x bytes).alarms = s.alarms := by
  unfold State.tileGranted; dsimp only; (repeat' split) <;> simp
@[simp] theorem State.tileGranted_view (s : State) (t : Fin 16) (x : Transfer) (bytes : List Byte) : (s.tileGranted t x bytes).view = s.view := by
  unfold State.tileGranted; dsimp only; (repeat' split) <;> simp
@[simp] theorem State.tileGranted_ring (s : State) (t : Fin 16) (x : Transfer) (bytes : List Byte) : (s.tileGranted t x bytes).ring = s.ring := by
  unfold State.tileGranted; dsimp only; (repeat' split) <;> simp
@[simp] theorem State.tileGranted_status (s : State) (t : Fin 16) (x : Transfer) (bytes : List Byte) : (s.tileGranted t x bytes).status = s.status := by
  unfold State.tileGranted; dsimp only; (repeat' split) <;> simp
@[simp] theorem State.tileGranted_pending (s : State) (t : Fin 16) (x : Transfer) (bytes : List Byte) : (s.tileGranted t x bytes).pending = s.pending := by
  unfold State.tileGranted; dsimp only; (repeat' split) <;> simp

@[simp] theorem State.controlRead_mem (s : State) (k : Fin 5) (x : Transfer) (bytes : List Byte) : (s.controlRead k x bytes).mem = s.mem := by
  unfold State.controlRead; dsimp only; (repeat' split) <;> simp
@[simp] theorem State.controlRead_config (s : State) (k : Fin 5) (x : Transfer) (bytes : List Byte) : (s.controlRead k x bytes).config = s.config := by
  unfold State.controlRead; dsimp only; (repeat' split) <;> simp
@[simp] theorem State.controlRead_frameNo (s : State) (k : Fin 5) (x : Transfer) (bytes : List Byte) : (s.controlRead k x bytes).frameNo = s.frameNo := by
  unfold State.controlRead; dsimp only; (repeat' split) <;> simp
@[simp] theorem State.controlRead_alarmsLater (s : State) (k : Fin 5) (x : Transfer) (bytes : List Byte) : (s.controlRead k x bytes).alarmsLater = s.alarmsLater := by
  unfold State.controlRead; dsimp only; (repeat' split) <;> simp
@[simp] theorem State.controlRead_live (s : State) (k : Fin 5) (x : Transfer) (bytes : List Byte) : (s.controlRead k x bytes).live = s.live := by
  unfold State.controlRead; dsimp only; (repeat' split) <;> simp
@[simp] theorem State.controlRead_builder (s : State) (k : Fin 5) (x : Transfer) (bytes : List Byte) : (s.controlRead k x bytes).builder = s.builder := by
  unfold State.controlRead; dsimp only; (repeat' split) <;> simp
@[simp] theorem State.controlRead_inputs (s : State) (k : Fin 5) (x : Transfer) (bytes : List Byte) : (s.controlRead k x bytes).inputs = s.inputs := by
  unfold State.controlRead; dsimp only; (repeat' split) <;> simp
@[simp] theorem State.controlRead_alarms (s : State) (k : Fin 5) (x : Transfer) (bytes : List Byte) : (s.controlRead k x bytes).alarms = s.alarms := by
  unfold State.controlRead; dsimp only; (repeat' split) <;> simp
@[simp] theorem State.controlRead_engines (s : State) (k : Fin 5) (x : Transfer) (bytes : List Byte) : (s.controlRead k x bytes).engines = s.engines := by
  unfold State.controlRead; dsimp only; (repeat' split) <;> simp
@[simp] theorem State.controlRead_view (s : State) (k : Fin 5) (x : Transfer) (bytes : List Byte) : (s.controlRead k x bytes).view = s.view := by
  unfold State.controlRead; dsimp only; (repeat' split) <;> simp
@[simp] theorem State.controlRead_status (s : State) (k : Fin 5) (x : Transfer) (bytes : List Byte) : (s.controlRead k x bytes).status = s.status := by
  unfold State.controlRead; dsimp only; (repeat' split) <;> simp
@[simp] theorem State.controlRead_pending (s : State) (k : Fin 5) (x : Transfer) (bytes : List Byte) : (s.controlRead k x bytes).pending = s.pending := by
  unfold State.controlRead; dsimp only; (repeat' split) <;> simp

@[simp] theorem State.respond_mem (s : State) (r : Requester) (x : Transfer) (bytes : List Byte) : (s.respond r x bytes).mem = s.mem := by
  unfold State.respond; (repeat' split) <;> simp
@[simp] theorem State.respond_config (s : State) (r : Requester) (x : Transfer) (bytes : List Byte) : (s.respond r x bytes).config = s.config := by
  unfold State.respond; (repeat' split) <;> simp
@[simp] theorem State.respond_frameNo (s : State) (r : Requester) (x : Transfer) (bytes : List Byte) : (s.respond r x bytes).frameNo = s.frameNo := by
  unfold State.respond; (repeat' split) <;> simp
@[simp] theorem State.respond_alarmsLater (s : State) (r : Requester) (x : Transfer) (bytes : List Byte) : (s.respond r x bytes).alarmsLater = s.alarmsLater := by
  unfold State.respond; (repeat' split) <;> simp
@[simp] theorem State.respond_live (s : State) (r : Requester) (x : Transfer) (bytes : List Byte) : (s.respond r x bytes).live = s.live := by
  unfold State.respond; (repeat' split) <;> simp
@[simp] theorem State.respond_builder (s : State) (r : Requester) (x : Transfer) (bytes : List Byte) : (s.respond r x bytes).builder = s.builder := by
  unfold State.respond; (repeat' split) <;> simp
@[simp] theorem State.respond_alarms (s : State) (r : Requester) (x : Transfer) (bytes : List Byte) : (s.respond r x bytes).alarms = s.alarms := by
  unfold State.respond; (repeat' split) <;> simp
@[simp] theorem State.respond_view (s : State) (r : Requester) (x : Transfer) (bytes : List Byte) : (s.respond r x bytes).view = s.view := by
  unfold State.respond; (repeat' split) <;> simp
@[simp] theorem State.respond_status (s : State) (r : Requester) (x : Transfer) (bytes : List Byte) : (s.respond r x bytes).status = s.status := by
  unfold State.respond; (repeat' split) <;> simp
@[simp] theorem State.respond_pending (s : State) (r : Requester) (x : Transfer) (bytes : List Byte) : (s.respond r x bytes).pending = s.pending := by
  unfold State.respond; (repeat' split) <;> simp

@[simp] theorem State.grant_config (s : State) (r : Requester) : (s.grant r).config = s.config := by
  unfold State.grant; split <;> simp
@[simp] theorem State.grant_frameNo (s : State) (r : Requester) : (s.grant r).frameNo = s.frameNo := by
  unfold State.grant; split <;> simp
@[simp] theorem State.grant_alarmsLater (s : State) (r : Requester) : (s.grant r).alarmsLater = s.alarmsLater := by
  unfold State.grant; split <;> simp
@[simp] theorem State.grant_live (s : State) (r : Requester) : (s.grant r).live = s.live := by
  unfold State.grant; split <;> simp
@[simp] theorem State.grant_builder (s : State) (r : Requester) : (s.grant r).builder = s.builder := by
  unfold State.grant; split <;> simp
@[simp] theorem State.grant_alarms (s : State) (r : Requester) : (s.grant r).alarms = s.alarms := by
  unfold State.grant; split <;> simp
@[simp] theorem State.grant_view (s : State) (r : Requester) : (s.grant r).view = s.view := by
  unfold State.grant; split <;> simp
@[simp] theorem State.grant_status (s : State) (r : Requester) : (s.grant r).status = s.status := by
  unfold State.grant; split <;> simp
@[simp] theorem State.grant_pending (s : State) (r : Requester) : (s.grant r).pending = s.pending := by
  unfold State.grant; split <;> simp

@[simp] theorem State.refuse_control (s : State) : (s.refuse).control = s.control := by
  simp [State.refuse]
@[simp] theorem State.refuse_mem (s : State) : (s.refuse).mem = s.mem := by
  simp [State.refuse]
@[simp] theorem State.refuse_port (s : State) : (s.refuse).port = s.port := by
  simp [State.refuse]
@[simp] theorem State.refuse_config (s : State) : (s.refuse).config = s.config := by
  simp [State.refuse]
@[simp] theorem State.refuse_frameNo (s : State) : (s.refuse).frameNo = s.frameNo := by
  simp [State.refuse]
@[simp] theorem State.refuse_alarmsLater (s : State) : (s.refuse).alarmsLater = s.alarmsLater := by
  simp [State.refuse]
@[simp] theorem State.refuse_live (s : State) : (s.refuse).live = s.live := by
  simp [State.refuse]
@[simp] theorem State.refuse_builder (s : State) : (s.refuse).builder = s.builder := by
  simp [State.refuse]
@[simp] theorem State.refuse_sources (s : State) : (s.refuse).sources = s.sources := by
  simp [State.refuse]
@[simp] theorem State.refuse_inputs (s : State) : (s.refuse).inputs = s.inputs := by
  simp [State.refuse]
@[simp] theorem State.refuse_alarms (s : State) : (s.refuse).alarms = s.alarms := by
  simp [State.refuse]
@[simp] theorem State.refuse_engines (s : State) : (s.refuse).engines = s.engines := by
  simp [State.refuse]
@[simp] theorem State.refuse_view (s : State) : (s.refuse).view = s.view := by
  simp [State.refuse]
@[simp] theorem State.refuse_ring (s : State) : (s.refuse).ring = s.ring := by
  simp [State.refuse]
@[simp] theorem State.refuse_status (s : State) : (s.refuse).status = s.status := by
  simp [State.refuse]
@[simp] theorem State.refuse_pending (s : State) : (s.refuse).pending = s.pending := by
  simp [State.refuse]

@[simp] theorem State.takeStart_link (s : State) : (s.takeStart).link = s.link := by
  simp [State.takeStart]
@[simp] theorem State.takeStart_mem (s : State) : (s.takeStart).mem = s.mem := by
  simp [State.takeStart]
@[simp] theorem State.takeStart_port (s : State) : (s.takeStart).port = s.port := by
  simp [State.takeStart]
@[simp] theorem State.takeStart_config (s : State) : (s.takeStart).config = s.config := by
  simp [State.takeStart]
@[simp] theorem State.takeStart_frameNo (s : State) : (s.takeStart).frameNo = s.frameNo := by
  simp [State.takeStart]
@[simp] theorem State.takeStart_alarmsLater (s : State) : (s.takeStart).alarmsLater = s.alarmsLater := by
  simp [State.takeStart]
@[simp] theorem State.takeStart_live (s : State) : (s.takeStart).live = s.live := by
  simp [State.takeStart]
@[simp] theorem State.takeStart_builder (s : State) : (s.takeStart).builder = s.builder := by
  simp [State.takeStart]
@[simp] theorem State.takeStart_sources (s : State) : (s.takeStart).sources = s.sources := by
  simp [State.takeStart]
@[simp] theorem State.takeStart_alarms (s : State) : (s.takeStart).alarms = s.alarms := by
  simp [State.takeStart]
@[simp] theorem State.takeStart_engines (s : State) : (s.takeStart).engines = s.engines := by
  simp [State.takeStart]
@[simp] theorem State.takeStart_view (s : State) : (s.takeStart).view = s.view := by
  simp [State.takeStart]
@[simp] theorem State.takeStart_ring (s : State) : (s.takeStart).ring = s.ring := by
  simp [State.takeStart]
@[simp] theorem State.takeStart_status (s : State) : (s.takeStart).status = s.status := by
  simp [State.takeStart]
@[simp] theorem State.takeStart_pending (s : State) : (s.takeStart).pending = s.pending := by
  simp [State.takeStart]

@[simp] theorem State.loadFailed_mem (s : State) (code index : Nat) : (s.loadFailed code index).mem = s.mem := by
  simp [State.loadFailed]
@[simp] theorem State.loadFailed_config (s : State) (code index : Nat) : (s.loadFailed code index).config = s.config := by
  simp [State.loadFailed]
@[simp] theorem State.loadFailed_frameNo (s : State) (code index : Nat) : (s.loadFailed code index).frameNo = s.frameNo := by
  simp [State.loadFailed]
@[simp] theorem State.loadFailed_alarmsLater (s : State) (code index : Nat) : (s.loadFailed code index).alarmsLater = s.alarmsLater := by
  simp [State.loadFailed]
@[simp] theorem State.loadFailed_live (s : State) (code index : Nat) : (s.loadFailed code index).live = s.live := by
  simp [State.loadFailed]
@[simp] theorem State.loadFailed_builder (s : State) (code index : Nat) : (s.loadFailed code index).builder = s.builder := by
  simp [State.loadFailed]
@[simp] theorem State.loadFailed_sources (s : State) (code index : Nat) : (s.loadFailed code index).sources = s.sources := by
  simp [State.loadFailed]
@[simp] theorem State.loadFailed_inputs (s : State) (code index : Nat) : (s.loadFailed code index).inputs = s.inputs := by
  simp [State.loadFailed]
@[simp] theorem State.loadFailed_alarms (s : State) (code index : Nat) : (s.loadFailed code index).alarms = s.alarms := by
  simp [State.loadFailed]
@[simp] theorem State.loadFailed_engines (s : State) (code index : Nat) : (s.loadFailed code index).engines = s.engines := by
  simp [State.loadFailed]
@[simp] theorem State.loadFailed_view (s : State) (code index : Nat) : (s.loadFailed code index).view = s.view := by
  simp [State.loadFailed]
@[simp] theorem State.loadFailed_ring (s : State) (code index : Nat) : (s.loadFailed code index).ring = s.ring := by
  simp [State.loadFailed]
@[simp] theorem State.loadFailed_status (s : State) (code index : Nat) : (s.loadFailed code index).status = s.status := by
  simp [State.loadFailed]
@[simp] theorem State.loadFailed_pending (s : State) (code index : Nat) : (s.loadFailed code index).pending = s.pending := by
  simp [State.loadFailed]

@[simp] theorem State.loadPassed_mem (s : State) : (s.loadPassed).mem = s.mem := by
  simp [State.loadPassed]
@[simp] theorem State.loadPassed_port (s : State) : (s.loadPassed).port = s.port := by
  simp [State.loadPassed]
@[simp] theorem State.loadPassed_status (s : State) : (s.loadPassed).status = s.status := by
  simp [State.loadPassed]
@[simp] theorem State.loadPassed_pending (s : State) : (s.loadPassed).pending = s.pending := by
  simp [State.loadPassed]

@[simp] theorem State.unload_control (s : State) : (s.unload).control = s.control := rfl
@[simp] theorem State.unload_link (s : State) : (s.unload).link = s.link := rfl
@[simp] theorem State.unload_mem (s : State) : (s.unload).mem = s.mem := rfl
@[simp] theorem State.unload_frameNo (s : State) : (s.unload).frameNo = s.frameNo := rfl
@[simp] theorem State.unload_alarms (s : State) : (s.unload).alarms = s.alarms := rfl
@[simp] theorem State.unload_status (s : State) : (s.unload).status = s.status := rfl
@[simp] theorem State.unload_pending (s : State) : (s.unload).pending = s.pending := rfl

@[simp] theorem State.takeLoad_link (s : State) (start : Bool) : (s.takeLoad start).link = s.link := by
  simp [State.takeLoad]
@[simp] theorem State.takeLoad_mem (s : State) (start : Bool) : (s.takeLoad start).mem = s.mem := by
  simp [State.takeLoad]
@[simp] theorem State.takeLoad_frameNo (s : State) (start : Bool) : (s.takeLoad start).frameNo = s.frameNo := by
  simp [State.takeLoad]
@[simp] theorem State.takeLoad_status (s : State) (start : Bool) : (s.takeLoad start).status = s.status := by
  simp [State.takeLoad]
@[simp] theorem State.takeLoad_pending (s : State) (start : Bool) : (s.takeLoad start).pending = s.pending := by
  simp [State.takeLoad]

@[simp] theorem State.writeAttend_control (s : State) : (s.writeAttend).control = s.control := by
  unfold State.writeAttend; split <;> simp
@[simp] theorem State.writeAttend_mem (s : State) : (s.writeAttend).mem = s.mem := by
  unfold State.writeAttend; split <;> simp
@[simp] theorem State.writeAttend_config (s : State) : (s.writeAttend).config = s.config := by
  unfold State.writeAttend; split <;> simp
@[simp] theorem State.writeAttend_frameNo (s : State) : (s.writeAttend).frameNo = s.frameNo := by
  unfold State.writeAttend; split <;> simp
@[simp] theorem State.writeAttend_live (s : State) : (s.writeAttend).live = s.live := by
  unfold State.writeAttend; split <;> simp
@[simp] theorem State.writeAttend_pending (s : State) : (s.writeAttend).pending = s.pending := by
  unfold State.writeAttend; split <;> simp

end Sys2Proof.Machine
end

