-- ==== Sys2Proof/Laws/Memory.lean ====
section
/-! SUPPORT. Frame memory: every operation keeps the canonical form, a byte that has been written reads back, and every other byte reads as before. -/

namespace Sys2Proof.Machine

open Sys2Proof

namespace Memory

/-- Below the least address listed nothing is listed. -/
theorem read_below {lo : Nat} {m : Memory} (h : wfFrom lo m = true) {a : Nat} (ha : a < lo) : m.read a = 0 := by
  induction m generalizing lo with
  | nil => rfl
  | cons c m ih =>
    obtain ⟨k, v⟩ := c
    simp only [wfFrom, Bool.and_eq_true, decide_eq_true_eq] at h
    have hk : k ≠ a := by omega
    simp only [read, hk, if_false]
    exact ih h.2 (by omega)

theorem wfFrom_mono {lo lo' : Nat} {m : Memory} (h : wfFrom lo m = true) (hl : lo' ≤ lo) : wfFrom lo' m = true := by
  cases m with
  | nil => rfl
  | cons c m =>
    obtain ⟨k, v⟩ := c
    simp only [wfFrom, Bool.and_eq_true, decide_eq_true_eq] at h ⊢
    exact ⟨⟨⟨by omega, h.1.1.2⟩, h.1.2⟩, h.2⟩

theorem erase_wfFrom {lo : Nat} {m : Memory} (h : wfFrom lo m = true) (a : Nat) : wfFrom lo (m.erase a) = true := by
  induction m generalizing lo with
  | nil => rfl
  | cons c m ih =>
    obtain ⟨k, v⟩ := c
    simp only [erase]
    simp only [wfFrom, Bool.and_eq_true, decide_eq_true_eq] at h
    split
    · exact wfFrom_mono h.2 (by omega)
    · simp only [wfFrom, Bool.and_eq_true, decide_eq_true_eq]
      exact ⟨h.1, ih h.2⟩

theorem insert_wfFrom {lo : Nat} {m : Memory} (h : wfFrom lo m = true) {a : Nat} {x : Byte} (hlo : lo ≤ a)
    (ha : a < Config.memSize) (hx : x ≠ 0) : wfFrom lo (m.insert a x) = true := by
  induction m generalizing lo with
  | nil =>
    simp only [insert, wfFrom, Bool.and_eq_true, decide_eq_true_eq, and_true]
    exact ⟨⟨hlo, ha⟩, hx⟩
  | cons c m ih =>
    obtain ⟨k, v⟩ := c
    simp only [insert]
    simp only [wfFrom, Bool.and_eq_true, decide_eq_true_eq] at h
    split
    · simp only [wfFrom, Bool.and_eq_true, decide_eq_true_eq]
      exact ⟨⟨⟨hlo, ha⟩, hx⟩, ⟨⟨by omega, h.1.1.2⟩, h.1.2⟩, h.2⟩
    · split
      · rename_i hk
        subst hk
        simp only [wfFrom, Bool.and_eq_true, decide_eq_true_eq]
        exact ⟨⟨⟨hlo, ha⟩, hx⟩, h.2⟩
      · simp only [wfFrom, Bool.and_eq_true, decide_eq_true_eq]
        exact ⟨h.1, ih h.2 (by omega)⟩

/-- A write of one byte keeps the canonical form. -/
theorem write_wf {m : Memory} (h : m.wf = true) (a : Nat) (x : Byte) : (m.write a x).wf = true := by
  unfold write
  split
  · exact h
  · split
    · exact erase_wfFrom h a
    · exact insert_wfFrom h (Nat.zero_le a) (by omega) (by assumption)

/-- A write of several bytes keeps the canonical form. -/
theorem writeBytes_wf {m : Memory} (h : m.wf = true) (a : Nat) (bs : List Byte) : (m.writeBytes a bs).wf = true := by
  induction bs generalizing m a with
  | nil => exact h
  | cons b bs ih => exact ih (write_wf h a b) (a + 1)

/-- A write with byte enables keeps the canonical form. -/
theorem writeEnabled_wf {m : Memory} (h : m.wf = true) (a : Nat) (bs : List (Option Byte)) :
    (m.writeEnabled a bs).wf = true := by
  induction bs generalizing m a with
  | nil => exact h
  | cons b bs ih =>
    cases b with
    | none => exact ih h _
    | some b => exact ih (write_wf h a b) _

/-- A memory put together from any cells is canonical. -/
theorem ofCells_wf (cs : List Host.Cell) : (ofCells cs).wf = true := by
  induction cs with
  | nil => rfl
  | cons c cs ih => exact write_wf ih c.1 c.2

theorem erase_read {lo : Nat} {m : Memory} (h : wfFrom lo m = true) (a b : Nat) :
    (m.erase a).read b = if b = a then 0 else m.read b := by
  induction m generalizing lo with
  | nil => simp [erase, read]
  | cons c m ih =>
    obtain ⟨k, v⟩ := c
    simp only [wfFrom, Bool.and_eq_true, decide_eq_true_eq] at h
    simp only [erase]
    by_cases hk : k = a
    · subst hk
      simp only [if_true, read]
      by_cases hb : b = k
      · subst hb
        simp [read_below h.2 (Nat.lt_succ_self b)]
      · simp [hb, Ne.symm hb]
    · simp only [hk, if_false, read, ih h.2]
      by_cases hb : k = b
      · subst hb
        simp [hk]
      · simp [hb]

theorem insert_read (m : Memory) (a : Nat) (x : Byte) (b : Nat) :
    (m.insert a x).read b = if b = a then x else m.read b := by
  induction m with
  | nil =>
    by_cases hb : b = a
    · simp [insert, read, hb]
    · simp [insert, read, hb, Ne.symm hb]
  | cons c m ih =>
    obtain ⟨k, v⟩ := c
    simp only [insert]
    by_cases hb : b = a
    · subst hb
      split
      · simp [read]
      · split
        · simp [read]
        · rename_i hk
          simp [read, hk, ih]
    · have hb' : a ≠ b := Ne.symm hb
      split
      · simp [read, hb']
      · split
        · rename_i hk
          subst hk
          simp [read, hb']
        · simp [read, ih, hb]

/-- What a byte reads after a write of one byte inside frame memory. -/
theorem write_read {m : Memory} (h : m.wf = true) {a : Nat} (ha : a < Config.memSize) (x : Byte) (b : Nat) :
    (m.write a x).read b = if b = a then x else m.read b := by
  have hn : ¬ Config.memSize ≤ a := by omega
  unfold write
  rw [if_neg hn]
  split
  · rename_i hx
    subst hx
    exact erase_read h a b
  · exact insert_read m a x b

/-- A byte at another address reads as before a write of one byte. -/
theorem write_read_other {m : Memory} (h : m.wf = true) {a b : Nat} (x : Byte) (hb : b ≠ a) :
    (m.write a x).read b = m.read b := by
  by_cases ha : a < Config.memSize
  · rw [write_read h ha, if_neg hb]
  · unfold write
    rw [if_pos (by omega)]

/-- A byte outside the bytes written reads as before. -/
theorem writeBytes_read_other {m : Memory} (h : m.wf = true) (a : Nat) (bs : List Byte) {b : Nat}
    (hb : b < a ∨ a + bs.length ≤ b) : (m.writeBytes a bs).read b = m.read b := by
  induction bs generalizing m a with
  | nil => rfl
  | cons x bs ih =>
    simp only [List.length_cons] at hb
    rw [writeBytes, ih (write_wf h a x) (a + 1) (by omega), write_read_other h x (by omega)]

/-- Bytes written inside frame memory read back. -/
theorem writeBytes_read {m : Memory} (h : m.wf = true) (a : Nat) (bs : List Byte) (hend : a + bs.length ≤ Config.memSize)
    {k : Nat} (hk : k < bs.length) : (m.writeBytes a bs).read (a + k) = bs[k] := by
  induction bs generalizing m a k with
  | nil => exact absurd hk (Nat.not_lt_zero k)
  | cons x bs ih =>
    simp only [List.length_cons] at hend hk
    cases k with
    | zero =>
      rw [writeBytes, writeBytes_read_other (write_wf h a x) (a + 1) bs (by omega), write_read h (by omega)]
      simp
    | succ k =>
      have := ih (write_wf h a x) (a + 1) (by omega) (k := k) (by omega)
      rw [writeBytes, show a + (k + 1) = a + 1 + k by omega, this]
      rfl

/-- What each byte reads after a write with byte enables inside frame memory: the enabled bytes what was written, every
other byte what it read before. -/
theorem writeEnabled_read {m : Memory} (h : m.wf = true) (a : Nat) (bs : List (Option Byte))
    (hend : a + bs.length ≤ Config.memSize) (b : Nat) :
    (m.writeEnabled a bs).read b =
      match (if a ≤ b then (bs[b - a]?).join else none) with
      | some x => x
      | none => m.read b := by
  induction bs generalizing m a with
  | nil => simp [writeEnabled]
  | cons x bs ih =>
    simp only [List.length_cons] at hend
    have hstep : (if a + 1 ≤ b then (bs[b - (a + 1)]?).join else none) =
        if a + 1 ≤ b then ((x :: bs)[b - a]?).join else none := by
      split
      · rw [show b - a = b - (a + 1) + 1 by omega, List.getElem?_cons_succ]
      · rfl
    cases x with
    | none =>
      rw [writeEnabled, ih h (a + 1) (by omega), hstep]
      by_cases hb : b = a
      · subst hb
        simp
      · by_cases hl : a ≤ b
        · rw [if_pos hl, if_pos (by omega)]
        · rw [if_neg hl, if_neg (by omega)]
    | some x =>
      rw [writeEnabled, ih (write_wf h a x) (a + 1) (by omega), hstep]
      by_cases hb : b = a
      · subst hb
        simp [write_read h (show b < Config.memSize by omega)]
      · rw [write_read_other h x hb]
        by_cases hl : a ≤ b
        · rw [if_pos hl, if_pos (by omega)]
        · rw [if_neg hl, if_neg (by omega)]

/-- The number of bytes of a read. -/
@[simp] theorem readBytes_length (m : Memory) (a n : Nat) : (m.readBytes a n).length = n := by
  induction n generalizing a with
  | zero => rfl
  | succ n ih => simp [readBytes, ih]

/-- Each byte of a read. -/
theorem readBytes_get (m : Memory) (a n : Nat) {k : Nat} (hk : k < n) :
    (m.readBytes a n)[k]'(by simpa using hk) = m.read (a + k) := by
  induction n generalizing a k with
  | zero => omega
  | succ n ih =>
    cases k with
    | zero => simp [readBytes]
    | succ k =>
      simp only [readBytes, List.getElem_cons_succ]
      rw [ih (a + 1) (by omega)]
      congr 1
      omega

/-- Frame memory after a power-on reset is canonical, as after any other load of cells. -/
theorem reset_wf : State.reset.mem.wf = true := rfl

end Memory

/-- Frame memory after any transfer is canonical. -/
theorem Transfer.applied_wf {m : Memory} (h : m.wf = true) (x : Transfer) : (x.applied m).wf = true := by
  unfold Transfer.applied
  split
  · exact h
  · exact Memory.writeBytes_wf h _ _
  · exact Memory.writeEnabled_wf h _ _

end Sys2Proof.Machine
end

