-- ==== Sys2Proof/Laws/Spec.lean ====
section
/-! SUPPORT. What the shared operations do, said once: replaced entries of a bank, the port's queues, the cause bits, one capture input's operations, looks, the abort of a group, the taking of a slot, and the source unit's millisecond intervals. -/

namespace Sys2Proof.Machine

open Sys2Proof

/-! ## Banks -/

@[simp] theorem vset_get_val {α : Type} {n : Nat} (v : Vector α n) (i : Fin n) (x : α) : (vset v i x)[i.val] = x :=
  vset_get v i x

theorem vset_get_val_of_ne {α : Type} {n : Nat} (v : Vector α n) {i j : Fin n} (x : α) (h : j ≠ i) :
    (vset v i x)[j.val] = v[j.val] :=
  vset_get_of_ne v x h

/-- An entry of a bank of which one has been replaced. -/
theorem vset_get_eq {α : Type} {n : Nat} (v : Vector α n) (i j : Fin n) (x : α) :
    (vset v i x)[j] = if j = i then x else v[j] := by
  by_cases h : j = i
  · subst h
    simp
  · rw [if_neg h]
    exact vset_get_of_ne v x h

@[simp] theorem mapBank_get {α β : Type} {n : Nat} (v : Vector α n) (f : Fin n → α → β) (i : Fin n) :
    (mapBank v f)[i] = f i v[i] := by
  simp [mapBank]

@[simp] theorem mapBank_get_val {α β : Type} {n : Nat} (v : Vector α n) (f : Fin n → α → β) (i : Fin n) :
    (mapBank v f)[i.val] = f i v[i.val] := by
  simp [mapBank]

/-- Two banks with the same entries are equal. -/
theorem bank_ext {α : Type} {n : Nat} {v w : Vector α n} (h : ∀ i : Fin n, v[i] = w[i]) : v = w := by
  apply Vector.ext
  intro i hi
  exact h ⟨i, hi⟩

theorem anyBank_eq_true {α : Type} {n : Nat} (v : Vector α n) (f : Fin n → α → Bool) :
    anyBank v f = true ↔ ∃ i : Fin n, f i v[i] = true := by
  simp [anyBank]

/-! ## The port -/

@[simp] theorem Port.setQueue_queue (p : Port) (r : Requester) (ts : List Transfer) : (p.setQueue r ts).queue r = ts := by
  cases r <;> simp [Port.setQueue, Port.queue]

theorem Port.setQueue_queue_of_ne (p : Port) {r q : Requester} (ts : List Transfer) (h : q ≠ r) :
    (p.setQueue r ts).queue q = p.queue q := by
  cases r <;> cases q <;> simp only [Port.setQueue, Port.queue] <;> apply vset_get_of_ne <;> rintro rfl <;> exact h rfl

@[simp] theorem Port.issue_queue (p : Port) (r : Requester) (ts : List Transfer) : (p.issue r ts).queue r = p.queue r ++ ts := by
  simp [Port.issue]

theorem Port.issue_queue_of_ne (p : Port) {r q : Requester} (ts : List Transfer) (h : q ≠ r) :
    (p.issue r ts).queue q = p.queue q :=
  p.setQueue_queue_of_ne _ h

/-! ## The cause bits (R186, R187) -/

theorem Link.setCauses_eq (l : Link) (cause enable : BitVec 8) : l.setCauses cause enable = l.withCauses cause enable := by
  unfold Link.setCauses Link.withCauses Link.msi
  split <;> simp

/-- All that setting cause bits does. -/
theorem State.raise_eq (s : State) (bits : BitVec 8) : s.raise bits = { s with link := s.link.withCausesSet bits } := by
  simp [State.raise, Link.setCauses_eq, Link.withCausesSet, State.withLink]

/-- A cause bit that is set stays set when a block sets causes. -/
theorem State.raise_cause (s : State) (bits : BitVec 8) : (s.raise bits).link.cause = s.link.cause ||| bits := by
  simp [State.raise_eq, Link.withCausesSet, Link.withCauses]

/-! ## One capture input -/

/-- All that the operations on capture input c change: the input, and its own transfers at the port. -/
def captureOnly (c : Fin 16) (s t : State) : Prop :=
  (∀ k : Fin 16, k ≠ c → t.inputs[k] = s.inputs[k]) ∧ (∀ r, r ≠ .capture c → t.port.queue r = s.port.queue r) ∧
    t = { s with inputs := t.inputs, port := { s.port with capture := t.port.capture } }

theorem captureOnly.refl (c : Fin 16) (s : State) : captureOnly c s s := ⟨fun _ _ => rfl, fun _ _ => rfl, rfl⟩

theorem captureOnly.trans {c : Fin 16} {s t u : State} (h : captureOnly c s t) (g : captureOnly c t u) : captureOnly c s u := by
  refine ⟨fun k hk => (g.1 k hk).trans (h.1 k hk), fun r hr => (g.2.1 r hr).trans (h.2.1 r hr), ?_⟩
  rw [g.2.2, h.2.2]

theorem captureOnly.setInput (c : Fin 16) (s : State) (i : CaptureInput) : captureOnly c s (s.setInput c i) :=
  ⟨fun _ hk => vset_get_of_ne _ _ hk, fun _ _ => rfl, rfl⟩

theorem captureOnly.setQueue (c : Fin 16) (s : State) (ts : List Transfer) : captureOnly c s (s.setQueue (.capture c) ts) :=
  ⟨fun _ _ => rfl, fun _ hr => s.port.setQueue_queue_of_ne ts hr, rfl⟩

theorem State.captureIssue_only (s : State) (c : Fin 16) : captureOnly c s (s.captureIssue c) := by
  unfold State.captureIssue
  split
  · split
    · exact .setQueue _ _ _
    · exact .refl _ _
  · exact .refl _ _

theorem State.dropCurrentLines_only (s : State) (c : Fin 16) : captureOnly c s (s.dropCurrentLines c) := by
  unfold State.dropCurrentLines
  dsimp only
  split
  · exact .trans (.setInput _ _ _) (.setQueue _ _ _)
  · exact .setInput _ _ _

theorem State.endLine_only (s : State) (c : Fin 16) : captureOnly c s (s.endLine c) := by
  unfold State.endLine
  dsimp only
  split
  · exact .refl _ _
  · split
    · exact .trans (.setInput _ _ _) (State.dropCurrentLines_only _ _)
    · exact .setInput _ _ _

theorem State.enterLine_only (s : State) (c : Fin 16) (row : Nat) : captureOnly c s (s.enterLine c row) := by
  unfold State.enterLine
  dsimp only
  split
  · exact .refl _ _
  · split
    · exact .trans (.setInput _ _ _) (State.dropCurrentLines_only _ _)
    · split
      · exact .refl _ _
      · split <;> exact .setInput _ _ _

theorem State.lineStartMark_only (s : State) (c : Fin 16) : captureOnly c s (s.lineStartMark c) := by
  unfold State.lineStartMark
  dsimp only
  split
  · exact State.endLine_only _ _
  · rename_i f hf
    split
    · exact ((State.endLine_only s c).trans (.setInput c (s.endLine c) _)).trans
        ((State.enterLine_only _ c _).trans (State.captureIssue_only _ c))
    · exact ((State.endLine_only s c).trans (.setInput c (s.endLine c) _)).trans (State.captureIssue_only _ c)

theorem State.pixel_only (s : State) (c : Fin 16) (p : Colour) : captureOnly c s (s.pixel c p) := by
  unfold State.pixel
  dsimp only
  split
  · exact .refl _ _
  · split
    · exact .trans (.setInput _ _ _) (State.captureIssue_only _ _)
    · exact .refl _ _

/-! ## Looks (R142) -/

/-- With no look event kept, ending a look changes nothing more. -/
theorem State.settleLooks_nil (s : State) (h : s.ring.kept = []) : s.settleLooks = s := by
  have : { s.ring with kept := [] } = s.ring := by
    rw [← h]
  simp only [State.settleLooks, h, State.serveKept, State.withRing, this]

/-! ## What the alarm contact unit has still to take (R129, R137) -/

theorem State.alarmTakes_nil (s : State) (x : AlarmStep) (h : s.alarmsLater = []) : s.alarmTakes x = s.alarmStep x := by
  simp [State.alarmTakes, h]

theorem stepAfter_append (x : AlarmStep) (older : List (List AlarmStep)) (steps : List AlarmStep) :
    stepAfter x (older ++ [steps]) = older ++ [steps ++ [x]] := by
  induction older with
  | nil => rfl
  | cons a rest ih =>
    cases rest with
    | nil => rfl
    | cons b rest => simpa [stepAfter] using ih

/-- While the ring processor keeps a wall frame start, a piece of work sets ALARM_EVENT when it settles an input, and its
moves join what came after that start. -/
theorem State.alarmTakes_append (s : State) (x : AlarmStep) (older : List (List AlarmStep)) (steps : List AlarmStep)
    (h : s.alarmsLater = older ++ [steps]) :
    s.alarmTakes x =
      ({ s with alarmsLater := older ++ [steps ++ [x]] }).raiseIf (x.moves s.alarmsAhead) causeAlarmEvent := by
  simp [State.alarmTakes, h, stepAfter_append, State.withAlarmsLater]

theorem AlarmState.moved_eq_afterLevel (st : AlarmState) (level : Bool) : st.moved level = st.afterLevel level := by
  cases level <;> cases st <;> rfl

/-- A sample of one input, in the terms of R126 and R127. -/
theorem AlarmInput.sampled_eq (a : AlarmInput) (level : Bool) :
    a.sampled level =
      if a.config.enable = false then a
      else if level = a.level then { a with count := 0 }
      else if a.count + 1 < a.config.debounce then { a with count := a.count + 1 }
      else { a with level := level, count := 0, state := a.state.afterLevel level } := by
  by_cases he : a.config.enable = true <;> by_cases hl : level = a.level <;>
    by_cases hc : a.count + 1 < a.config.debounce <;>
      simp [AlarmInput.sampled, AlarmInput.settles, AlarmInput.change, AlarmState.moved_eq_afterLevel, he, hl, hc]

/-- What a piece of work does to the alarm inputs. -/
theorem AlarmStep.applied_turns (alarms : Vector AlarmInput 8) (step : AlarmStep) :
    step.turns alarms (step.applied alarms) := by
  cases step with
  | interval high =>
    intro i
    simp only [AlarmStep.applied, sampledAll, mapBank_get, AlarmInput.sampled_eq, AlarmInput.sampleOf, AlarmInput.reads]
  | change i level =>
    have hs : (alarms[i]).settles level = true ↔
        (alarms[i]).config.enable = true ∧ (alarms[i]).level ≠ level ∧
          (alarms[i]).config.debounce ≤ (alarms[i]).count + 1 := by
      simp only [AlarmInput.settles, Bool.and_eq_true, bne_iff_ne, ne_eq, decide_eq_true_eq, and_assoc, eq_comm (a := level)]
    show inputsChanged alarms (AlarmStep.applied alarms (.change i level)) i level
    by_cases h : (alarms[i]).settles level = true
    · have e : AlarmStep.applied alarms (.change i level) = vset alarms i ((alarms[i]).change level) := if_pos h
      rw [e, inputsChanged, if_pos (hs.mp h)]
      exact ⟨by rw [vset_get, AlarmInput.change, AlarmState.moved_eq_afterLevel], fun j hj => vset_get_of_ne _ _ hj⟩
    · have e : AlarmStep.applied alarms (.change i level) = alarms := if_neg h
      rw [e, inputsChanged, if_neg (fun g => h (hs.mpr g))]

/-- Clears move alarm states alone: the levels and counters, and so what settles, stay (R128). -/
theorem applyClears_keeps (clears : List (Nat × Fin 8)) (alarms : Vector AlarmInput 8) (i : Fin 8) :
    (applyClears clears alarms).1[i] = { alarms[i] with state := ((applyClears clears alarms).1[i]).state } := by
  induction clears generalizing alarms with
  | nil => rfl
  | cons c rest ih =>
    obtain ⟨pos, k⟩ := c
    have h := ih (vset alarms k { alarms[k] with state := (alarms[k]).state.cleared })
    by_cases hk : i = k
    · subst hk
      rw [vset_get] at h
      exact h
    · rw [vset_get_of_ne _ _ hk] at h
      exact h

/-- What pieces of work one after another do to them. -/
theorem alarmsTurn_applied (steps : List AlarmStep) (alarms : Vector AlarmInput 8) :
    alarmsTurn alarms (steps.foldl AlarmStep.applied alarms) steps := by
  induction steps generalizing alarms with
  | nil => rfl
  | cons step rest ih => exact ⟨_, AlarmStep.applied_turns alarms step, ih _⟩

theorem State.alarmsGoOn_nil (s : State) (more : Bool) (h : s.alarmsLater = []) : s.alarmsGoOn more = s := by
  simp [State.alarmsGoOn, h]

theorem State.alarmsGoOn_cons (s : State) (more : Bool) (steps : List AlarmStep) (rest : List (List AlarmStep))
    (h : s.alarmsLater = steps :: rest) :
    s.alarmsGoOn more = steps.foldl (State.alarmStepLate more) { s with alarmsLater := rest } := by
  simp [State.alarmsGoOn, h, State.withAlarmsLater]

/-- With no work left to it, the alarm contact unit's inputs stand as they are. -/
theorem State.alarmsAhead_nil (s : State) (h : s.alarmsLater = []) : s.alarmsAhead = s.alarms := by
  simp [State.alarmsAhead, h]

/-- The copy of the builder changes with the raised set alone. -/
theorem State.copyFollows_of_same (s t : State) (h : raisedSet t.alarms = raisedSet s.alarms) : s.copyFollows t = t := by
  simp [State.copyFollows, h]

theorem State.copyFollows_of_moved (s t : State) (h : raisedSet t.alarms ≠ raisedSet s.alarms) :
    s.copyFollows t = { t with status := { t.status with builder := t.status.builder.restarted } } := by
  simp [State.copyFollows, h, State.withStatus]

/-- With no interval that arrives together, a wall frame start is the wall frame start alone. -/
theorem State.takeFrame_alone (s : State) (order : FrameOrder) (h : order.interval = none) :
    s.takeFrame order = s.frameAlone order.setFirst order.lastTile := by
  simp [State.takeFrame, h]

/-! ## Aborting a group (R148, R150) -/

theorem abortedSlots_append (code detail : Nat) (others : List Held) (last : Held) :
    abortedSlots code detail (others ++ [last]) =
      (others.map fun h => { h with result := 2, detail := 0 }) ++
        [{ last with result := code, detail := BitVec.ofNat 32 detail }] := by
  induction others with
  | nil => rfl
  | cons a as ih =>
    cases as with
    | nil => rfl
    | cons b bs =>
      simp only [List.cons_append] at ih ⊢
      rw [abortedSlots, ih]
      · rfl
      · simp

/-- All that aborting a group does, with no look event kept. -/
theorem State.abortGroup_spec (s : State) (extra others : List Held) (last : Held) (code detail : Nat) (skip : Bool)
    (hk : s.ring.kept = []) (hl : s.ring.held ++ extra = others ++ [last]) :
    s.abortGroup extra code detail skip =
      { s with
        ring := { s.ring with
          state := .writingBack, returning := .aborted skip, look := .none, draft := Table.empty, pendingSources := [],
          pendingClears := [], pendingSaves := [] }
        port := s.port.issue (.control ringProcessor)
          (s.returns ((others.map fun h => { h with result := 2, detail := 0 }) ++
            [{ last with result := code, detail := BitVec.ofNat 32 detail }]) 0) } := by
  unfold State.abortGroup
  dsimp only
  rw [State.settleLooks_nil _ (by simpa using hk), hl, abortedSlots_append]
  rfl

theorem State.abortGroup_abortedGroup (s : State) (extra others : List Held) (last : Held) (code detail : Nat) (skip : Bool)
    (hk : s.ring.kept = []) (hl : s.ring.held ++ extra = others ++ [last]) :
    s.abortedGroup (s.abortGroup extra code detail skip) others
      { last with result := code, detail := BitVec.ofNat 32 detail } skip := by
  rw [s.abortGroup_spec extra others last code detail skip hk hl]
  exact ⟨rfl, rfl, rfl, rfl, rfl, rfl, rfl, rfl⟩

/-! ## Taking a slot (R144, R145, R147) -/

/-- A look that finds slot NEXT posted in IDLE starts a group from the live table and descriptors (R144). -/
theorem State.groupFound_idle (s : State) (slot : List Byte) (hp : slotPosted slot = true) (hi : s.ring.state = .idle) :
    s.groupFound slot = { s with ring := s.groupStarted } := by
  simp [State.groupFound, State.groupStarted, State.startGroup, State.withRing, hp, hi, mapBank, State.channel]

/-- Any other look starts none. -/
theorem State.groupFound_other (s : State) (slot : List Byte) (h : slotPosted slot = false ∨ s.ring.state ≠ .idle) :
    s.groupFound slot = s := by
  rcases h with h | h <;> simp [State.groupFound, h]

theorem State.limit_iff_not_hasRoom (s : State) : s.groupLimit ≤ s.takingRing.held.length ↔ ¬ s.hasRoom := by
  simp only [State.takingRing, State.hasRoom, State.groupLimit, State.ringLength]
  omega

/-- A slot that comes after as many held slots as the limit allows aborts the group (R147). -/
theorem State.takeSlot_tooLong (s : State) (slot : List Byte) (check : Ring → Verdict) (h : ¬ s.hasRoom) :
    s.takeSlot slot check =
      (s.withRing s.takingRing).abortGroup [⟨s.ring.next, slotKind slot, resDone, 0⟩] resGroupTooLong 0 (slotChain slot) := by
  unfold State.takeSlot
  simp only [s.limit_iff_not_hasRoom.mpr h, if_true]

/-- A slot that its check refuses aborts the group (R148). -/
theorem State.takeSlot_refused (s : State) (slot : List Byte) (check : Ring → Verdict) (code detail : Nat) (h : s.hasRoom)
    (hc : check s.takingRing = .refuse code detail) :
    s.takeSlot slot check =
      (s.withRing { s.takingRing with held := s.takingRing.held ++ [⟨s.ring.next, slotKind slot, resDone, 0⟩] }).abortGroup
        [] code detail (slotChain slot) := by
  have hl : ¬ s.groupLimit ≤ s.takingRing.held.length := fun hl => s.limit_iff_not_hasRoom.mp hl h
  unfold State.takeSlot
  simp only [hl, if_false, hc]

theorem isEditKind_eq (kind : Nat) : isEditKind kind = decide (kind ∈ [1, 2, 3, 4, 9]) := by
  rw [Bool.eq_iff_iff]
  simp [isEditKind, or_assoc]

/-- A slot that its check accepts is taken: the drafts and pending lists are those the check gives (R145, R151, R152). -/
theorem State.takeSlot_accepted (s : State) (slot : List Byte) (kind detail : Nat) (check : Ring → Verdict) (g : Ring)
    (hk : slotKind slot = kind) (hs : s.ring.state = .collecting) (hroom : s.hasRoom) (hn : s.nothingKept slot)
    (hc : check s.takingRing =
      .accept detail
        { s.takingRing with
          draft := g.draft, draftDescs := g.draftDescs, pendingSources := g.pendingSources,
          pendingClears := g.pendingClears, pendingSaves := g.pendingSaves }) :
    s.tookSlot (s.takeSlot slot check) slot kind detail g := by
  have hl : ¬ s.groupLimit ≤ s.takingRing.held.length := fun hl => s.limit_iff_not_hasRoom.mp hl hroom
  unfold State.takeSlot
  simp only [hl, if_false, hc]
  unfold State.takingRing
  subst hk
  by_cases hch : slotChain slot = true
  · have hch' : chainSet slot = true := hch
    simp only [hch, if_true]
    unfold State.tookSlot
    simp [State.lookAtOnce, State.lookIn, State.startLook, State.withRing, State.issue, State.withPort, hch', isEditKind_eq,
      State.slotAddr, State.cfg, resDone, hs, State.nextIndex, State.ringLength]
  · have hch' : chainSet slot = false := by
      have : slotChain slot = false := by simpa using hch
      exact this
    have hkn : s.ring.kept = [] := by
      rcases hn with hn | hn
      · rw [hch'] at hn
        cases hn
      · exact hn
    simp only [hch]
    unfold State.completeGroup State.tookSlot
    dsimp only
    rw [State.settleLooks_nil]
    · simp only [State.withRing, hch', isEditKind_eq]
      by_cases hb : (s.ring.edits || decide (slotKind slot ∈ [1, 2, 3, 4, 9])) = true
      · simp only [hb, if_true]
        simp [State.startBuild, State.withBuilder, hkn, resDone, State.nextIndex, State.ringLength]
      · simp only [hb]
        simp [hkn, resDone, State.nextIndex, State.ringLength]
    · split <;> simp [State.withRing, hkn]

/-! ## Millisecond intervals and wall frame starts in the source unit (R98) -/

/-- An interval that comes while wall frame starts wait is counted with the last of them. -/
theorem intervalAfter_append (older : List SourceFrame) (f : SourceFrame) :
    intervalAfter (older ++ [f]) = older ++ [{ f with after := f.after + 1 }] := by
  induction older with
  | nil => rfl
  | cons g rest ih =>
    cases rest with
    | nil => rfl
    | cons h rest => simpa [intervalAfter] using ih

/-- A source whose header is still to be judged waits for its intervals, every other has aged. -/
theorem SourceUnit.intervals_channel (u : SourceUnit) (n : Nat) (src : Fin 32) :
    (u.intervals n).channels[src] = if src ∈ u.toJudge then u.channels[src] else (u.channels[src]).agedBy n := by
  simp [SourceUnit.intervals]

theorem SourceUnit.intervals_rest (u : SourceUnit) (n : Nat) :
    u.intervals n =
      { u with
        channels := (u.intervals n).channels
        owed := if u.toJudge = [] then u.owed else u.owed + n } := by
  simp [SourceUnit.intervals]

/-! ## The line FIFO's transfer (R115) and a late completion (R58) -/

/-- The waiting transfer is the head line's own exactly when its tag is 1. -/
theorem State.lineWaits_eq (s : State) (c : Fin 16) :
    s.lineWaits c = true ↔ ((s.port.queue (.capture c)).head?.map fun x => x.tag) = some 1 := by
  unfold State.lineWaits
  cases s.port.queue (.capture c) <;> simp

/-- A wall frame start with `lastTile` leaves the state alone but for the builder, which may have completed its build. -/
theorem State.completeLate_cases (s : State) :
    s.completeLate = s ∨
      ∃ kind t table, s.tileInHand = some (kind, t) ∧ nextTile s.cfg (t.val + 1) = none ∧ s.tileResult kind t = .kept table ∧
        s.completeLate =
          s.withBuilder
            { s.builder with state := .donePending kind, shadow := some (s.builder.shadowBank.keep t table) } := by
  unfold State.completeLate
  split
  · exact .inl rfl
  · rename_i kind t ht
    split
    · rename_i table hn hr
      exact .inr ⟨kind, t, table, ht, hn, hr, by simp [State.keepTile, hn]⟩
    · exact .inl rfl
    · exact .inl rfl

end Sys2Proof.Machine
end

