-- ==== Sys2Proof/WellFormed.lean ====
section
/-! DEFINITION. Which terms of `Instr` are commands the outside can send: operands inside the ranges the interface gives them. The machine answers for every term; nothing it does relies on these checks. -/

namespace Sys2Proof

open Sys2Proof.Machine

/-- Every cell of `dram` names a byte that exists (00_scope, "Ports": offsets 0 to 0xFFFF_FFFF). -/
def dramOk (dram : List Host.Cell) : Bool :=
  dram.all fun c => decide (c.1 < Config.memSize)

/-- A transfer has at most 256 bytes (R15), so a mask of the bytes written has at most 256 bits. -/
def cutOk (cut : Option Nat) : Bool :=
  match cut with
  | none => true
  | some mask => decide (mask < 2 ^ Config.blockSize)

/-- A BAR 2 access has at least one byte and lies inside frame memory (00_scope, "Ports"). -/
def bar2Ok : Bar2Op → Bool
  | .read a n => decide (0 < n) && decide (a + n ≤ Config.memSize)
  | .write a d => decide (0 < d.length) && decide (a + d.length ≤ Config.memSize)

/-- The writes of row IGNORED_REGISTER_WRITE: to IDENT, to an offset from 0x1C on, or to CONTROL, CAUSE or
RESET_REASON with no bit set that has a meaning there (R177, R179: "No command bit set. Nothing happens."). -/
def ignoredOk (offset : BitVec 12) (w : RegWrite) : Bool :=
  let word := offset.toNat / 4
  word == 0 || decide (7 ≤ word) || (word == 1 && (regValue w &&& 0x7) == 0) ||
    (word == 2 && (regValue w &&& 0xFF) == 0) || (word == 6 && (regValue w &&& 0x7) == 0)

/-- The checks, one clause for each constructor whose operands can be ill formed. -/
def Instr.wellFormed : Instr → Bool
  | .powerOnReset dram => dramOk dram
  | .resetPin cut => cutOk cut
  | .ignoredRegisterWrite offset w => ignoredOk offset w
  | .bar2Access op => bar2Ok op
  | .pcieLinkReset _ | .load _ | .start | .stop _ _ | .loadEnd | .heldStart => true
  | .causeClear _ | .causeEnableWrite _ | .areaBaseWrite _ | .attend _ | .resetReasonClear _ => true
  | .transferGrant | .wallFrameStart _ | .millisecondInterval _ => true
  | .debouncedAssert _ | .debouncedRelease _ | .lossOfSignal _ => true
  | .staleLimitReached _ | .expiry _ | .memoryHeaderRead _ => true
  | .lineStart _ | .rowComposed _ | .frameStartMark _ | .captureLock _ => true
  | .congestionHalved _ | .congestionNormal _ | .lineStartMark _ | .pixel _ _ => true
  | .goodFrameReport _ | .capturePublication _ | .tileBuilt => true
  | .nop | .takeScene | .putWindow | .removeWindow | .restack => true
  | .saveScene | .freeze | .clearAlarm | .sourceConfig | .clearWall => true
  | .badKind | .slotNotPosted | .skippedSlot | .chainTimeout | .skipTimeout => true
  | .writeBackDone | .abortReturnDone => true

end Sys2Proof
end

