-- ==== Sys2Proof/Tests/Slice0.lean ====
section
/-! SUPPORT. Small checks of the model, each against numbers the spec gives or that follow from its rules by hand: the ill-formed terms that WellFormed refuses, one small step for many commands, and, for every statement of Certificates/Slice0/Obligations.lean that has hypotheses, a concrete state and operands that meet them together. -/

namespace Sys2Proof.Tests

open Sys2Proof Sys2Proof.Machine

/-! ## Fixtures -/

/-- The state a command leaves, when it answers a next one. -/
def after (c : Instr) (s : State) : Option State :=
  match exec c s with
  | .next t => some t
  | .fault _ => none
  | .refused _ => none

/-- The reset state in another part state. -/
def inPart (p : PartState) : State := { State.reset with control := { State.reset.control with part := p } }

/-- A configuration with one tile of 64 by 64 at the canvas origin and a ring of 8 slots. -/
def smallCfg : Loaded :=
  { Loaded.none with
    background := ⟨1, 2, 3⟩
    ringBase := 0x110000
    ringCode := 3
    sceneBase := 0x120000
    statusBase := 0x130000
    tiles := vset Loaded.none.tiles 0 ⟨true, 0, 0, 64, 64⟩ }

/-- A RUNNING part with that configuration. -/
def running : State :=
  { inPart .running with
    config := some smallCfg
    builder := { State.reset.builder with active := some (initialBank smallCfg) } }

/-- A window of 10 by 8 at canvas 2, 3 with border width 1, raised by alarm group 2. -/
def win (i : Nat) : WindowRec :=
  { id := i, visible := true, alarmOnly := false, source := 4, mask := 4, x := 2, y := 3, w := 10, h := 8, sx := 0, sy := 0,
    sw := 0, sh := 0, border := 1, borderColour := ⟨9, 9, 9⟩, fillColour := ⟨5, 5, 5⟩ }

/-- A table of windows 20, 3 and 5, bottom first. -/
def three : Table :=
  ((Table.empty.put 20 (win 20)).put 3 (win 3)).put 5 (win 5)

/-- Slot of a request: POSTED, flag byte, kind, then parameters from byte 16 on. -/
def slotOf (chain kind : Byte) (params : List Byte) : List Byte := [1, chain, kind, 0] ++ List.replicate 12 0 ++ params

/-- A state whose look has found a slot, which has started a group when it is posted (R144). -/
def lookedAt (s : State) (slot : List Byte) : State :=
  { s.groupFound slot with ring := { (s.groupFound slot).ring with look := .found .attend slot } }

/-- A RUNNING part whose look has found a slot. -/
def looking (slot : List Byte) : State := lookedAt running slot

/-- A register write of all four bytes. -/
def whole (w : Word) : RegWrite := ⟨w, 15⟩

/-! ## Ill-formed commands -/

theorem test_dram_past_the_end : (Instr.powerOnReset [(4294967296, 1)]).wellFormed = false := by decide

theorem test_cut_mask_too_wide : (Instr.resetPin (some (2 ^ 256))).wellFormed = false := by decide

theorem test_write_with_a_meaning_is_not_ignored : (Instr.ignoredRegisterWrite 8 (whole 0x100)).wellFormed = true ∧
    (Instr.ignoredRegisterWrite 8 (whole 0x101)).wellFormed = false ∧
    (Instr.ignoredRegisterWrite 0x0C (whole 0)).wellFormed = false := by decide

theorem test_bar2_empty_or_outside : (Instr.bar2Access (.read 0 0)).wellFormed = false ∧
    (Instr.bar2Access (.read 4294967295 2)).wellFormed = false ∧
    (Instr.bar2Access (.write 4294967296 [1])).wellFormed = false ∧
    (Instr.bar2Access (.read 4294967295 1)).wellFormed = true := by decide

/-- The table gives no row bits, so no word spells a command. -/
theorem test_no_word_spells_a_command : decodeTableWord 32 0 = none ∧ decodeTableWord 8 255 = none := by decide

/-! ## Resets, registers, part states -/

/-- R188: POWER alone in RESET_REASON; memory is what the outside brings. -/
theorem test_power_on_reset :
    (after (.powerOnReset [(7, 5)]) running).map (fun t => (t.link.resetReason, t.control.part, t.mem.read 7)) =
      some (1, .halted, 5) := by decide

/-- R188 and R19: the pin adds PIN; of the write being carried out only the bytes of the mask have been written. -/
theorem test_reset_pin_cuts_a_write :
    (after (.resetPin (some 1))
        { running with port := running.port.setQueue (.control pcieEndpoint) [⟨9, .write [6, 7], 0⟩] }).map
      (fun t => (t.link.resetReason, t.mem.read 9, t.mem.read 10)) = some (3, 6, 0) := by decide

theorem test_link_reset :
    (after (.pcieLinkReset false) { running with link := { running.link with causeEnable := 0xFF } }).map
      (fun t => (t.link.causeEnable, t.link.resetReason, t.control.part)) = some (0, 5, .running) := by decide

/-- R180: the first read is of the first 256 bytes at AREA_BASE. -/
theorem test_load_reads_at_area_base :
    (after (.load true) { State.reset with link := { State.reset.link with areaBase := 0x7000 } }).map
      (fun t => (t.control.part, t.control.heldStart, t.port.queue (.control loadSequence))) =
      some (.loading, true, [⟨0x7000, .read 256, 0⟩]) := by decide

theorem test_load_refused_in_running :
    (after (.load false) running).map (fun t => (t.control.part, t.link.cause)) = some (.running, 0x80) := by decide

theorem test_start_refused_in_halted :
    (after .start State.reset).map (fun t => (t.control.part, t.link.cause)) = some (.halted, 0x80) := by decide

theorem test_held_start : (after .heldStart
    { inPart .ready with control := { (inPart .ready).control with heldStart := true } }).map (fun t => t.control.part) =
      some .running := by decide

/-- R184: the fault code and the fault index stay. -/
theorem test_stop_keeps_the_fault_code :
    (after (.stop false true) { running with control := ⟨.running, 7, 3, false, []⟩ }).map (fun t => t.control) =
      some ⟨.halted, 7, 3, false, []⟩ := by decide

/-- R181: a block whose first word is not the marker fails check 1. -/
theorem test_load_end_fault :
    (after .loadEnd { inPart .loading with control := ⟨.loading, 0, 0, true, [1, 2, 3, 4]⟩ }).map
      (fun t => (t.control, t.link.cause)) = some (⟨.halted, 1, 0, false, []⟩, 2) := by decide

theorem test_cause_clear :
    (after (.causeClear (whole 0x81)) { running with link := { running.link with cause := 0x85 } }).map
      (fun t => t.link.cause) = some 0x04 := by decide

/-- A RUNNING part whose MSI capability has an address and a value, with LOAD_FAULT and GROUP_DONE set. -/
def caused (enable : BitVec 8) : State :=
  { running with
    link := { running.link with cause := 0x06, causeEnable := enable, msiEnabled := true, msiAddress := 0xFEE00000, msiData := 7 } }

/-- R187: the set of enabled causes becomes non-empty, so one MSI goes out, with the capability's address and value; none
while it was non-empty before. -/
theorem test_cause_enable_sends_an_msi :
    (after (.causeEnableWrite (whole 0x04)) (caused 0)).map (fun t => (t.link.causeEnable, t.link.msiSent)) =
      some (0x04, [⟨0xFEE00000, 7⟩]) ∧
    (after (.causeEnableWrite (whole 0x06)) (caused 2)).map (fun t => (t.link.causeEnable, t.link.msiSent)) = some (0x06, []) := by
  decide

/-- R177 and R185: bits 11:0 and bytes not written are 0. -/
theorem test_area_base_bits :
    (after (.areaBaseWrite ⟨0x12345FFF, 7⟩) State.reset).map (fun t => t.link.areaBase) = some 0x00345000 := by decide

theorem test_reset_reason_clear :
    (after (.resetReasonClear (whole 5)) { running with link := { running.link with resetReason := 7 } }).map
      (fun t => t.link.resetReason) = some 2 := by decide

theorem test_ignored_write : (after (.ignoredRegisterWrite 0 (whole 0xFFFFFFFF)) running).map (fun t => t.link) =
    some running.link := by decide

/-- R142 and R138: an ATTEND reads slot NEXT whole. -/
theorem test_attend_reads_slot_next :
    (after (.attend (whole 0)) { running with ring := { running.ring with next := 2 } }).map
      (fun t => t.port.queue (.control ringProcessor)) = some [⟨0x110080, .read 64, 0⟩] := by decide

/-! ## The port -/

/-- R15: whole words, cut at the boundaries of 256-byte blocks. -/
theorem test_bar2_access_is_cut_at_blocks :
    (after (.bar2Access (.read 250 269)) running).map
      (fun t => (t.port.queue (.control pcieEndpoint)).map fun x => (x.addr, x.op)) =
      some [(248, .read 8), (256, .read 256), (512, .read 8)] := by decide

/-- R18: a write of one byte leaves the other bytes of its word. -/
theorem test_bar2_write_of_one_byte :
    (after (.bar2Access (.write 5 [9])) running).map (fun t => (t.port.queue (.control pcieEndpoint)).map fun x => (x.addr, x.op)) =
      some [(4, .merge [none, some 9, none, none])] := by decide

/-- R177: STOP goes before LOAD, a byte read is the byte addressed, and what bytes not written hold counts as 0. -/
theorem test_register_commands :
    registerCommand 4 (whole 5) = .stop true false ∧ registerCommand 4 ⟨3, 1⟩ = .load true ∧
      registerCommand 4 ⟨0x0401, 2⟩ = .ignoredRegisterWrite 4 ⟨0x0401, 2⟩ ∧
      { State.reset with link := { State.reset.link with areaBase := 0x12345000 } }.readRegisterBytes 0x11 2 = [0x50, 0x34] := by
  decide

/-- R16 and R17: tile before capture before control, and after pointer 2 requester 9 comes before requester 1. -/
theorem test_grant_order :
    let p := (running.port.setQueue (.capture 1) [⟨0, .write [1], 0⟩]).setQueue (.capture 9) [⟨1, .write [2], 0⟩]
    let p := { p with capturePtr := 2 }
    (after .transferGrant { running with port := p }).map (fun t => (t.port.capturePtr, t.mem)) = some (9, [(1, 2)]) ∧
    (after .transferGrant { running with port := p.setQueue (.tile 3) [⟨8, .read 4, 0⟩] }).map
      (fun t => (t.port.tilePtr, t.port.capturePtr)) = some (3, 2) := by decide

/-- R180: after 256 good bytes the load reads on, at AREA_BASE + 256. -/
theorem test_load_reads_on :
    let s := { inPart .loading with
      mem := Memory.writeBytes [] 0x7000 ([0x41, 0x57, 0x43, 0x47] ++ leBytes 4 20000)
      link := { State.reset.link with areaBase := 0x7000 } }
    (after .transferGrant { s with port := s.port.setQueue (.control loadSequence) [⟨0x7000, .read 256, 0⟩] }).map
      (fun t => t.port.queue (.control loadSequence)) = some [⟨0x7100, .read 256, 0⟩] := by decide +kernel

/-! ## The time base, alarms, sources -/

/-- R62 and R1: the swap counts the build; the wall frame number rises by one. -/
theorem test_wall_frame_start_swaps :
    (after (.wallFrameStart ⟨false, false, none⟩)
        { running with
          builder := { running.builder with state := .donePending .alarm, shadow := some (initialBank smallCfg), built := 6 } }).map
      (fun t => (t.frameNo, t.builder.built, t.builder.state)) = some (1, 7, .idle) := by decide

/-- Input 2 enabled, low asserts, D = 2. -/
def alarmed (count : Nat) (state : AlarmState) (level : Bool) : State :=
  { running with alarms := vset running.alarms 2 ⟨⟨true, true, 2⟩, level, count, state⟩ }

/-- R59, the table's first row: the change of an interval that arrives with the start reaches the builder after the swap, and
before it; in both the alarm unit takes the interval first, so the page shows the group raised (R137). -/
theorem test_interval_together_with_a_wall_frame_start :
    let s := { alarmed 1 .idle false with
      builder := { running.builder with state := .donePending .alarm, shadow := some (initialBank smallCfg), built := 6 } }
    let told (first : Bool) := (after (.wallFrameStart ⟨false, false, some ⟨0xFB, true, first, true, 0⟩⟩) s).map fun t =>
      (t.builder.built, t.builder.state, t.status.builder, t.status.raised)
    told false = some (7, .building .alarm 0, .idle, 4) ∧ told true = some (6, .building .alarm 0, .building .alarm 0, 4) := by
  decide

/-- R6: the frame mark goes out at the wall frame start. R58: a build completed just after it is shown as DONE_PENDING. -/
theorem test_wall_frame_start_marks_the_frame :
    (after (.wallFrameStart ⟨false, true, none⟩)
        { running with
          builder := { running.builder with state := .building .alarm 0, shadow := some ⟨0, Vector.replicate 16 none⟩ } }).map
      (fun t => ((t.engines[(0 : Fin 16)]).output, (t.engines[(1 : Fin 16)]).output, t.status.builder)) =
      some (.frameStart, .noSignal, .donePending .alarm) := by decide

/-- R126 and R127: the second differing sample settles; IDLE becomes ACTIVE. -/
theorem test_second_low_sample_asserts :
    (after (.millisecondInterval 0xFB) (alarmed 0 .idle false)).map (fun t => t.alarms[(2 : Fin 8)]) =
      some ⟨⟨true, true, 2⟩, false, 1, .idle⟩ ∧
    (after (.millisecondInterval 0xFB) (alarmed 1 .idle false)).map (fun t => t.alarms[(2 : Fin 8)]) =
      some ⟨⟨true, true, 2⟩, true, 0, .active⟩ := by decide

theorem test_debounced_assert_and_release :
    (after (.debouncedAssert 2) (alarmed 1 .latched false)).map (fun t => (t.alarms[(2 : Fin 8)]).state) = some .active ∧
    (after (.debouncedRelease 2) (alarmed 1 .acked true)).map (fun t => (t.alarms[(2 : Fin 8)]).state) = some .idle ∧
    (after (.debouncedRelease 2) (alarmed 1 .active true)).map (fun t => ((t.alarms[(2 : Fin 8)]).state, t.link.cause)) =
      some (.latched, 0x10) := by decide

/-- A descriptor with slots of 16 units, a stale limit of 50 and an expiry limit of 150. -/
def desc16 : Descriptor := ⟨true, 0x200000, 0x220000, 0x240000, 16, 50, 150⟩

/-- Capture source 4 FILLING, SHOWN and SPARE, and memory source 18 FILLING and SPARE. -/
def sourced (age : Nat) : State :=
  let capt := Source.loaded 4 desc16
  let capt := { capt with roles := vset capt.roles 1 (some .shown), shownW := 40, shownH := 30, age := age, presentation := .fresh,
                          before := .fresh }
  { running with sources := { running.sources with
    channels := vset (vset running.sources.channels 4 capt) 18 (Source.loaded 18 desc16) } }

/-- R97 and R96 at their limits. -/
theorem test_stale_and_expiry_limits :
    (after (.staleLimitReached 4) (sourced 50)).map (fun t => ((t.channel 4).presentation, t.link.cause)) = some (.stale, 8) ∧
    (after (.staleLimitReached 4) (sourced 49)).map (fun t => (t.channel 4).presentation) = some .fresh ∧
    (after (.expiry 4) (sourced 150)).map (fun t => ((t.channel 4).roles[(1 : Fin 3)], (t.channel 4).expired)) =
      some (some .spare, 1) ∧
    (after (.expiry 4) (sourced 149)).map (fun t => (t.channel 4).expired) = some 0 := by decide

/-- Memory source 18 with a header to judge. -/
def judging (header : List Byte) : State :=
  let s := sourced 0
  { s with sources := { s.sources with toJudge := [18], headers := [(18, header)] } }

/-- R95: tag 1 is expected; width 4, height 2. A width of 0 is bad and uses the tag up. -/
theorem test_memory_header :
    (after (.memoryHeaderRead 2) (judging [1, 0, 4, 0, 2, 0])).map
      (fun t => ((t.channel 18).roles[(0 : Fin 3)], (t.channel 18).shownW, (t.channel 18).expected)) =
      some (some .shown, 4, 2) ∧
    (after (.memoryHeaderRead 2) (judging [1, 0, 0, 0, 2, 0])).map
      (fun t => ((t.channel 18).badFrame, (t.channel 18).expected)) = some (1, 2) := by decide

/-- R98 and R92: of two sources to judge, the one judged after two millisecond intervals is shown at age 2. -/
theorem test_judged_source_ages_after_its_start :
    let s := judging [1, 0, 4, 0, 2, 0]
    (after (.memoryHeaderRead 2) { s with sources := { s.sources with owed := 2 } }).map
      (fun t => ((t.channel 18).age, t.sources.owed)) = some (2, 0) := by decide

/-! ## Tile engines and sampling -/

/-- Tile 0's engine with a row of the frame in hand. -/
def engineAt (row : Nat) (finished : Bool) : State :=
  { running with
    view := some ⟨Vector.replicate 32 .none, []⟩
    engines := vset running.engines 0
      { running.engines[(0 : Fin 16)] with line1 := [⟨7, 7, 7⟩], into := true, composing := some ⟨row, true, finished, []⟩ } }

/-- R13: a late row 0 sends the background and counts. R12: a finished row is sent. -/
theorem test_line_start :
    (after (.lineStart 0) (engineAt 0 false)).map (fun t => ((t.engines[(0 : Fin 16)]).late, t.link.cause)) = some (1, 0x20) ∧
    (after (.lineStart 0) (engineAt 5 true)).map
      (fun t => ((t.engines[(0 : Fin 16)]).output, (t.engines[(0 : Fin 16)]).into)) = some (.line [⟨7, 7, 7⟩], false) := by decide

/-- R9: with the initial bank a row is 64 background pixels. -/
theorem test_row_composed :
    (after (.rowComposed 0) (engineAt 3 false)).map (fun t => (t.engines[(0 : Fin 16)]).line1) =
      some (List.replicate 64 ⟨1, 2, 3⟩) := by decide

/-- The table under R22: border width 15 on windows of 40 by 9 and 7 by 7. -/
theorem test_effective_border :
    let w := { win 0 with w := 40, h := 9, border := 15 }
    let v := { win 0 with w := 7, h := 7, border := 15 }
    (w.effBorder, w.interiorW, w.interiorH) = (4, 32, 1) ∧ (v.effBorder, v.interiorW, v.interiorH) = (3, 1, 1) := by decide

/-- The ratios tabled in section 4.5: 1280 to 640 and 320 to 640. -/
theorem test_sampling_ratios :
    ((axisOf 0 0 1280 640).step = 131072 ∧ (axisOf 0 0 1280 640).start = 32768 ∧ (axisOf 0 0 1280 640).locate 2 = (4, 128)) ∧
    ((axisOf 0 0 320 640).step = 32768 ∧ (axisOf 0 0 320 640).start = -16384 ∧
      ((List.range 4).map fun i => (axisOf 0 0 320 640).locate i) = [(0, 0), (0, 64), (0, 192), (1, 64)]) := by decide

/-- R78: a half is rounded up. -/
theorem test_blend_half_up : blend 1 2 128 = 2 ∧ blend 0 255 255 = 254 ∧ blend 200 7 0 = 200 := by decide

/-! ## Capture inputs -/

/-- Capture input 4 of an enabled source. -/
def input4 (i : CaptureInput) : State := (sourced 0).setInput 4 i

/-- A LOCKED input of 64 by 64 with a frame in progress. -/
def lockedInput (f : CaptureFrame) : CaptureInput :=
  { CaptureInput.initial with state := .locked, lockedW := 64, lockedH := 64, frame := some f, lastWritten := true }

/-- A whole written frame of 64 by 64. -/
def frame64 : CaptureFrame := ⟨64, some 64, true, false, 64, true, false, false, false⟩

/-- R110. -/
theorem test_first_mark_acquires :
    (after (.frameStartMark 4) (input4 CaptureInput.initial)).map (fun t => ((t.inputs[(4 : Fin 16)]).state, t.link.cause)) =
      some (.acquiring, 8) := by decide

/-- R111: the third frame alike locks. -/
theorem test_third_frame_locks :
    (after (.captureLock 4)
        (input4 { CaptureInput.initial with
          state := .acquiring, candidate := some (64, 64), count := 2, frame := some { frame64 with written := false } })).map
      (fun t => ((t.inputs[(4 : Fin 16)]).state, (t.inputs[(4 : Fin 16)]).lockedW)) = some (.locked, 64) := by decide

/-- R119: the second torn frame in a row halves the input; the sixteenth clean one returns it. -/
theorem test_congestion_modes :
    (after (.congestionHalved 4) (input4 { lockedInput { frame64 with torn := true } with tornRun := 1 })).map
      (fun t => ((t.inputs[(4 : Fin 16)]).halved, (t.channel 4).torn)) = some (true, 1) ∧
    (after (.congestionNormal 4) (input4 { lockedInput frame64 with halved := true, cleanRun := 15 })).map
      (fun t => (t.inputs[(4 : Fin 16)]).halved) = some false := by decide

/-- R114 and R115: a line takes a place and keeps its pixels. -/
theorem test_line_and_pixel :
    (after (.lineStartMark 4) (input4 (lockedInput (CaptureFrame.begun true false)))).map
      (fun t => (t.inputs[(4 : Fin 16)]).fifo) = some [⟨0, [], 0, false, false⟩] ∧
    (after (.pixel 4 ⟨1, 2, 3⟩)
        (input4 { lockedInput { CaptureFrame.begun true false with lines := 1, inLine := true } with
          fifo := [⟨0, [], 0, false, false⟩] })).map (fun t => (t.inputs[(4 : Fin 16)]).fifo) =
      some [⟨0, [⟨1, 2, 3⟩], 0, false, false⟩] := by decide

/-- R115: a fifth line tears the frame; no line of it stays, when the transfer that waits is not its own. -/
theorem test_fifth_line_tears_the_frame :
    let line : FifoLine := ⟨0, [], 0, false, false⟩
    let s := input4 { lockedInput { CaptureFrame.begun true false with lines := 4 } with fifo := [line, line, line, line] }
    (after (.lineStartMark 4) (s.setQueue (.capture 4) [⟨0x200010, .write [], 0⟩])).map
      (fun t => (((t.inputs[(4 : Fin 16)]).frame.map fun f => f.torn), (t.inputs[(4 : Fin 16)]).fifo)) = some (some true, []) := by
  decide

/-- R113: the interval that brings the loss counter to 250. -/
theorem test_loss_of_signal :
    (after (.lossOfSignal 4) (input4 { lockedInput frame64 with loss := 249 })).map
      (fun t => ((t.inputs[(4 : Fin 16)]).state, t.link.cause)) = some (.noSignal, 8) ∧
    (after (.lossOfSignal 4) (input4 { lockedInput frame64 with loss := 248 })).map
      (fun t => (t.inputs[(4 : Fin 16)]).state) = some .locked := by decide

/-- R117, R89 and R90. -/
theorem test_report_and_publication :
    (after (.goodFrameReport 4) (input4 { lockedInput frame64 with good := some (64, 64) })).map
      (fun t => (t.inputs[(4 : Fin 16)]).report) = some (some (64, 64)) ∧
    (after (.capturePublication 4) (input4 { lockedInput frame64 with report := some (64, 63) })).map
      (fun t => ((t.channel 4).roles[(0 : Fin 3)], (t.channel 4).sequence, t.port.queue (.control sourceUnit))) =
      some (some .ready, 1, [⟨0x200000, .write ([1, 0, 64, 0, 63, 0] ++ List.replicate 10 0), 0⟩]) := by decide

/-! ## The builder and the ring -/

/-- A GROUP build of tile 0, nothing built yet. -/
def building : State :=
  { running with
    builder := { running.builder with state := .building .group 0, shadow := some ⟨0, Vector.replicate 16 none⟩ }
    ring := { running.ring with state := .awaitingCommit, held := [⟨0, 0, 1, 0⟩], edits := true } }

/-- R48: the last enabled tile completes the build. -/
theorem test_tile_built : (after .tileBuilt building).map (fun t => t.builder.state) = some (.donePending .group) := by decide

/-- The result, detail and NEXT a taken slot leaves. -/
def taken (o : Option State) : Option (List Held × Nat × RingState) := o.map fun t => (t.ring.held, t.ring.next, t.ring.state)

theorem test_nop : taken (after .nop (looking (slotOf 0 0 []))) = some ([⟨0, 0, 1, 0⟩], 1, .awaitingCommit) := by decide

/-- R161: PUT_WINDOW of an absent id has detail 0 and puts it on top. -/
theorem test_put_window :
    (after .putWindow (looking (slotOf 1 2 (windowBytes (win 5))))).map (fun t => (t.ring.held, t.ring.draft.stack)) =
      some ([⟨0, 2, 1, 0⟩], [5]) := by decide

/-- The live table `three` under a found slot. -/
def edited (slot : List Byte) : State := lookedAt { running with live := three } slot

/-- The example of R162 on the stack 20, 3, 5: removing 3 returns detail 1. -/
theorem test_remove_window :
    (after .removeWindow (edited (slotOf 1 3 [3]))).map (fun t => (t.ring.held, t.ring.draft.stack)) =
      some ([⟨0, 3, 1, 1⟩], [20, 5]) := by decide

/-- R162: an absent id is refused with NO_WINDOW and the id as the detail. -/
theorem test_remove_absent_window :
    (after .removeWindow (edited (slotOf 0 3 [9]))).map (fun t => (t.ring.state, t.port.queue (.control ringProcessor))) =
      some (.writingBack,
        [⟨0x110003, .write [5, 9, 0, 0, 0, 0, 0, 0, 0], 0⟩, ⟨0x110000, .merge [some 0, none, none, none], 0⟩]) := by decide

/-- R30: to the bottom; directly above 20. -/
theorem test_restack :
    (after .restack (edited (slotOf 1 4 [5, 1, 0]))).map (fun t => t.ring.draft.stack) = some [5, 20, 3] ∧
    (after .restack (edited (slotOf 1 4 [5, 2, 20]))).map (fun t => t.ring.draft.stack) = some [20, 5, 3] := by decide

theorem test_clear_wall :
    (after .clearWall (edited (slotOf 1 9 []))).map (fun t => (t.ring.held, t.ring.draft.stack)) =
      some ([⟨0, 9, 1, 3⟩], []) := by decide

theorem test_pending_kinds :
    (after .saveScene (looking (slotOf 1 5 [15]))).map (fun t => t.ring.pendingSaves) = some [15] ∧
    (after .freeze (looking (slotOf 1 6 [4, 1]))).map (fun t => t.ring.pendingSources) = some [.freeze 4 true] ∧
    (after .clearAlarm (looking (slotOf 1 7 [2]))).map (fun t => t.ring.pendingClears) = some [(0, 2)] := by decide

theorem test_bad_kind :
    (after .badKind (looking (slotOf 0 10 []))).map (fun t => t.port.queue (.control ringProcessor)) =
      some [⟨0x110003, .write [3, 0, 0, 0, 0, 0, 0, 0, 0], 0⟩, ⟨0x110000, .merge [some 0, none, none, none], 0⟩] := by decide

/-- R146: the eighth wall frame start without a posted slot. -/
theorem test_chain_wait :
    (after .slotNotPosted
        { running with ring := { running.ring with state := .collecting, wait := 7, look := .found (.frame 9) [0] } }).map
      (fun t => (t.ring.wait, t.ring.look)) = some (8, .timeout) := by decide

/-- A COLLECTING processor holding slots 3 and 4 whose chain wait has reached 8. -/
def waiting : State :=
  { running with ring := { running.ring with
    state := .collecting, next := 5, wait := 8, look := .timeout, held := [⟨3, 0, 1, 0⟩, ⟨4, 2, 1, 1⟩] } }

/-- R146: the last held slot gets CHAIN_TIMEOUT, the one before it GROUP_ABORTED. -/
theorem test_chain_timeout :
    (after .chainTimeout waiting).map (fun t => (t.port.queue (.control ringProcessor)).map fun x => (x.addr, x.op)) =
      some [(0x1100C3, .write [2, 0, 0, 0, 0, 0, 0, 0, 0]), (0x110103, .write [9, 0, 0, 0, 0, 0, 0, 0, 0]),
        (0x1100C0, .merge [some 0, none, none, none]), (0x110100, .merge [some 0, none, none, none])] := by decide

theorem test_skip_timeout :
    (after .skipTimeout { waiting with ring := { waiting.ring with state := .skipping } }).map (fun t => t.ring.state) =
      some .idle := by decide

/-- R149: a skipped slot with CHAIN clear ends the skipping; NEXT wraps past slot 7. -/
theorem test_skipped_slot :
    (after .skippedSlot
        { running with ring := { running.ring with state := .skipping, next := 7, look := .skip .atOnce (slotOf 0 0 []) } }).map
      (fun t => (t.ring.state, t.ring.next, t.link.cause)) = some (.idle, 0, 4) := by decide

theorem test_returns_end :
    (after .writeBackDone { waiting with ring := { waiting.ring with state := .writingBack, look := .none } }).map
      (fun t => (t.ring.state, t.link.cause)) = some (.idle, 4) ∧
    (after .abortReturnDone
        { waiting with
          ring := { waiting.ring with state := .writingBack, look := .none, returning := .aborted true } }).map
      (fun t => t.ring.state) = some .skipping := by decide

/-! ## Witnesses: the whole machine

Each theorem from here on bears the name of a statement of Obligations.lean and shows a state and operands that meet all of
its hypotheses together, clause by clause where it has several, at boundary values where it gives ranges. -/

/-- A RUNNING part with sources, an asserted alarm, three windows, a byte of memory, and a STOP waiting. -/
def busy : State :=
  { sourced 60 with
    live := three
    mem := [(4294967295, 1)]
    alarms := vset running.alarms 2 ⟨⟨true, true, 2⟩, true, 1, .active⟩
    ring := { running.ring with state := .collecting, next := 7, held := [⟨6, 0, 1, 0⟩], draft := three }
    pending := [.stop false false, .start] }

theorem witness_StepRunsFrontCommand : busy.pending = .stop false false :: [.start] ∧ running.pending = [] := by decide

/-- The last byte of frame memory can be accessed, the one past it cannot. -/
theorem witness_OnlyBar2AccessStops : 4294967295 + 1 ≤ 4294967296 ∧ ¬ 4294967296 + 1 ≤ 4294967296 := by decide

theorem busy_steps : ∃ t, step busy = .next t := ⟨_, rfl⟩

theorem witness_MemoryStaysCanonical : busy.mem.wf = true ∧ ∃ t, step busy = .next t := ⟨by decide, busy_steps⟩

theorem witness_SourceRolesStayLegal : busy.rolesLegal ∧ ∃ t, step busy = .next t := by
  refine ⟨?_, busy_steps⟩
  unfold State.rolesLegal Source.rolesLegal
  decide

/-- A table is well formed when each of its records is one of the windows listed, each in range under its own id. -/
theorem wellFormed_of (t : Table) (ws : List WindowRec) (hn : t.stack.Nodup) (hs : ∀ i : Fin 64, i ∈ t.stack ↔ t.has i = true)
    (hr : ∀ i : Fin 64, t.records[i] = none ∨ ∃ w ∈ ws, t.records[i] = some w ∧ w.id = i.val) (hw : ∀ w ∈ ws, w.inRange) :
    t.wellFormed := by
  refine ⟨hn, hs, fun i w h => ?_⟩
  obtain h0 | ⟨v, hv, h1, h2⟩ := hr i
  · simp [h0] at h
  · rw [h1] at h
    obtain rfl := Option.some.inj h
    exact ⟨h2, hw v hv⟩

theorem win_inRange (i : Nat) (h : i ≤ 63) : (win i).inRange := by
  simp [WindowRec.inRange, win, h]

theorem three_wellFormed : three.wellFormed := by
  refine wellFormed_of three [win 20, win 3, win 5] (by decide) (by decide) (by decide) ?_
  intro w hw
  simp only [List.mem_cons, List.not_mem_nil, or_false] at hw
  rcases hw with rfl | rfl | rfl <;> exact win_inRange _ (by decide)

theorem witness_WindowTablesStayWellFormed : busy.tablesWellFormed ∧ ∃ t, step busy = .next t :=
  ⟨⟨three_wellFormed, three_wellFormed⟩, busy_steps⟩

/-- NEXT at the ring's last slot, and a group at its limit of 4 of a ring of 8. -/
theorem witness_HeldSlotsStayInRange :
    let full := { busy with ring := { busy.ring with held := List.replicate 4 ⟨0, 0, 1, 0⟩ } }
    full.ringInRange ∧ ∃ t, step full = .next t := by
  refine ⟨?_, _, rfl⟩
  unfold State.ringInRange
  decide

theorem witness_AlarmStatesMatchLevels : busy.alarmsConsistent ∧ ∃ t, step busy = .next t := by
  refine ⟨?_, busy_steps⟩
  unfold State.alarmsConsistent AlarmInput.consistent
  decide

/-- A READY part about to take START. -/
def ready : State := { inPart .ready with config := some smallCfg, pending := [.start] }

theorem witness_OutputsQuietOutsideRunning : ready.quietOutsideRunning ∧ ready.control.part ≠ .running ∧
    ∃ t, step ready = .next t := by
  refine ⟨?_, by decide, _, rfl⟩
  unfold State.quietOutsideRunning
  decide

/-- A GROUP bank that waits to be swapped in, with the draft `three`. -/
def swapping : State :=
  { running with
    builder := { running.builder with state := .donePending .group, shadow := some (initialBank smallCfg) }
    ring := { running.ring with state := .awaitingCommit, held := [⟨0, 0, 1, 0⟩], edits := true, draft := three } }

theorem witness_LiveTableChangesOnlyAtGroupSwap :
    (∃ t, exec (.wallFrameStart ⟨false, false, none⟩) swapping = .next t ∧ t.live ≠ swapping.live) ∧
      ∃ t, exec (.stop false false) busy = .next t ∧ t.live ≠ busy.live :=
  ⟨⟨_, rfl, by decide⟩, ⟨_, rfl, by decide⟩⟩

/-- A set cause bit and a set reset reason under a command that is no reset. -/
theorem witness_CausesStayUntilCleared :
    let s := { busy with link := { busy.link with cause := 0x80 } }
    ((∃ t, exec .start s = .next t) ∧ s.link.cause.getLsbD 7 = true ∧ s.link.resetReason.getLsbD 0 = true) ∧
      (∀ dram, Instr.start ≠ .powerOnReset dram) ∧ ∀ cut, Instr.start ≠ .resetPin cut :=
  ⟨⟨⟨_, rfl⟩, by decide, by decide⟩, (fun _ h => nomatch h), fun _ h => nomatch h⟩

theorem witness_PartStateAndFrameNumberMove : ∃ t, exec .start ready = .next t ∧ t.control.part ≠ ready.control.part :=
  ⟨_, rfl, by decide⟩

/-! ## Witnesses: windows, builder, sampling, formats -/

/-- A window of the greatest size, and one whose interior has no column. -/
theorem witness_WindowInteriorAndDrawing :
    ({ win 0 with w := 16383, h := 16383 }.w ≤ 16383 ∧ { win 0 with w := 16383, h := 16383 }.h ≤ 16383) ∧
      ({ win 0 with w := 2, h := 9 }.interiorW = 0 ∧ (win 0).mask ≠ 0 ∧ { win 0 with mask := 0 }.mask = 0) := by decide

/-- The last column and row of a tile of 13 by 12, a table of which the two orders differ, and a raised drawn window over one
of its pixels. -/
theorem witness_BandsShowHighestDrawnWindow :
    let tile : TileRec := ⟨true, 0, 0, 13, 12⟩
    (12 < tile.width ∧ 11 < tile.height) ∧ three.effective 0 ≠ three.raisedOnly 0 ∧
      (5, win 5) ∈ three.stacked ∧ (win 5).drawn 4 = true ∧ (win 5).raised 4 = true ∧
        decide ((win 5).x ≤ 2 ∧ 2 < (win 5).x + (win 5).w ∧ (win 5).y ≤ 3 ∧ 3 < (win 5).y + (win 5).h) = true := by decide

/-- Two neighbouring bands, and two neighbouring spans. -/
theorem witness_SpansCoverTheRow :
    let bands := buildBands ⟨true, 0, 0, 13, 12⟩ [(5, win 5)]
    (bands.length = 5 ∧ (spansOf bands 4).length = 5) := by decide

/-- The four outcomes: kept as built, as fallback, as degraded, and failed on the allowance. -/
theorem witness_BuiltTileMeetsLimits :
    let tile : TileRec := ⟨true, 0, 0, 13, 12⟩
    let plain := Table.empty.put 5 { win 5 with mask := 0 }
    (∃ b, buildTile .group tile plain 4 17 = .kept ⟨b, .normal⟩) ∧ (∃ b, buildTile .alarm tile plain 4 1 = .kept ⟨b, .fallback⟩) ∧
      (∃ b, buildTile .alarm tile plain 4 0 = .kept ⟨b, .degraded⟩) ∧ buildTile .group tile plain 4 1 = .failed 3 :=
  ⟨⟨_, rfl⟩, ⟨_, rfl⟩, ⟨_, rfl⟩, by decide⟩

theorem witness_PoolNeverOverflows :
    let s := { building with pending := [.tileBuilt] }
    s.poolHolds ∧ ∃ t, step s = .next t := by
  refine ⟨⟨?_, ⟨0, Vector.replicate 16 none⟩, rfl, by decide, by decide⟩, _, rfl⟩
  intro b hb
  obtain rfl := Option.some.inj hb
  decide

theorem witness_BlendRoundsToNearest : 255 < 256 ∧ 0 < 256 := by decide

/-- The largest frame and interior with a crop of its last column, an enlargement, a step of 65 536 and one above
262 144. -/
theorem witness_AxisFollowsCropAndInterior :
    (4095 < 4096 ∧ 4096 ≤ 4096 ∧ 1 ≤ 16383 ∧ 16383 ≤ 16383) ∧ (axisOf 0 0 320 640).step < 65536 ∧
      (axisOf 7 0 107 100).step = 65536 ∧ 262144 < (axisOf 0 0 4096 1).step ∧ (axisOf 4095 0 4096 1).needed 0 ≠ [] := by decide

/-- Two functions alike on the pixels needed, with components between 0 and 1; and a crop at step 65 536. -/
theorem witness_SampleUsesOnlyNeededPixels :
    (let h := axisOf 0 0 320 640
     let p : Nat → Nat → Colour := fun k m => ⟨BitVec.ofNat 8 k, BitVec.ofNat 8 m, 0⟩
     let q : Nat → Nat → Colour := fun k m => if k ≤ 1 ∧ m ≤ 1 then p k m else ⟨9, 9, 9⟩
     (∀ k ∈ h.needed 2, ∀ m ∈ h.needed 2, q k m = p k m) ∧
       ∀ k ∈ h.needed 2, ∀ m ∈ h.needed 2, (0 : Byte) ≤ (p k m).r ∧ (p k m).r ≤ 1) ∧
      (2 < 10 ∧ 3 < 9 ∧ 3 < 4 ∧ 5 < 6) ∧ (axisOf 2 4 10 4).step = 65536 ∧ (axisOf 3 0 9 6).step = 65536 := by decide

/-- A scene that ends at the last byte of frame memory. -/
theorem witness_SavedSceneReadsBack :
    busy.mem.wf = true ∧ 4294963200 + 4096 ≤ 4294967296 ∧ 4294963200 % 4096 = 0 ∧ three.wellFormed :=
  ⟨by decide, by decide, by decide, three_wellFormed⟩

theorem witness_StatusPageIsWrittenWhole : busy.mem.wf = true ∧ 4294963200 + 4096 ≤ 4294967296 ∧ 4294963200 % 4096 = 0 := by decide

/-! ## Witnesses: loads, resets, registers -/

/-- A record of the configuration block for a disabled tile, source or alarm input. -/
def off (n : Nat) : List Byte := List.replicate n 0

/-- A configuration block whose every check holds: tile 0 of 64 by 64, capture source 4 and memory source 18. -/
def goodBlock : List Byte :=
  [0x41, 0x57, 0x43, 0x47] ++ leBytes 4 20000 ++ [1, 2, 3, 0] ++ [9, 9, 9, 0] ++ leBytes 4 0x110000 ++ [3, 0, 0, 0] ++
    leBytes 4 0x120000 ++ leBytes 4 0x130000 ++ off 32 ++
    ([1, 0, 0, 0] ++ leBytes 2 0 ++ leBytes 2 0 ++ leBytes 2 64 ++ leBytes 2 64 ++ off 4) ++ off 240 ++
    off 128 ++
    ([1, 0, 0, 0] ++ leBytes 4 0x200000 ++ leBytes 4 0x220000 ++ leBytes 4 0x240000 ++ leBytes 2 16 ++ leBytes 2 50 ++
      leBytes 2 150 ++ off 10) ++ off 864 ++
    off 8 ++ [1, 1, 2, 0] ++ off 20

theorem goodBlock_passes : loadVerdict 0x100000 goodBlock = .pass ∧ goodBlock.length = 1376 := by decide +kernel

/-- The same block with tile 0 one column too narrow. -/
def narrowBlock : List Byte := goodBlock.set 72 63

theorem narrowBlock_fails : loadVerdict 0x100000 narrowBlock = .fail 3 0 ∧ narrowBlock.length = 1376 := by decide +kernel

theorem witness_LoadChecksInOrder : (goodBlock.length = 1376 ∧ loadVerdict 0x100000 goodBlock = .pass) ∧
    (narrowBlock.length = 1376 ∧ loadVerdict 0x100000 narrowBlock = .fail 3 0) :=
  ⟨⟨goodBlock_passes.2, goodBlock_passes.1⟩, narrowBlock_fails.2, narrowBlock_fails.1⟩

/-- A LOADING part that has read a block. -/
def loading (bs : List Byte) : State :=
  { inPart .loading with
    control := ⟨.loading, 0, 0, false, bs⟩
    link := { State.reset.link with areaBase := 0x100000 } }

theorem witness_LoadEndsInOneOfTwoWays :
    ((loading goodBlock).control.part = .loading ∧ loadVerdict (loading goodBlock).link.areaBase.toNat goodBlock = .pass) ∧
      ((loading narrowBlock).control.part = .loading ∧
        loadVerdict (loading narrowBlock).link.areaBase.toNat narrowBlock = .fail 3 0) :=
  ⟨⟨rfl, goodBlock_passes.1⟩, rfl, narrowBlock_fails.1⟩

/-- The part with one transfer waiting for a requester. -/
def asking (r : Requester) (x : Transfer) : State := { running with port := running.port.setQueue r [x] }

/-- `r` is the requester the port grants next. -/
theorem alone_is_next (r : Requester) (x : Transfer) (h : match r with
    | .tile t => ∀ j : Fin 16, (asking r x).port.tile[j] = [] ∨ j = t
    | .capture c => (∀ j : Fin 16, (asking r x).port.tile[j] = []) ∧ ∀ j : Fin 16, (asking r x).port.capture[j] = [] ∨ j = c
    | .control k => ((∀ j : Fin 16, (asking r x).port.tile[j] = []) ∧ ∀ j : Fin 16, (asking r x).port.capture[j] = []) ∧
        ∀ j : Fin 5, (asking r x).port.control[j] = [] ∨ j = k)
    (hq : (asking r x).port.queue r ≠ []) : (asking r x).port.next r := by
  cases r with
  | tile t => exact ⟨hq, fun j hj => by rcases h j with h | rfl <;> [exact absurd h hj; exact Nat.le_refl _]⟩
  | capture c => exact ⟨h.1, hq, fun j hj => by rcases h.2 j with h | rfl <;> [exact absurd h hj; exact Nat.le_refl _]⟩
  | control k => exact ⟨h.1.1, h.1.2, hq, fun j hj => by rcases h.2 j with h | rfl <;> [exact absurd h hj; exact Nat.le_refl _]⟩

/-- A write of the last byte of frame memory. -/
def lastByte : Transfer := ⟨4294967295, .write [3], 0⟩

/-- The two resets; the pin with no write under way, and with a write of the last byte of frame memory cut short. -/
theorem witness_ResetsStopAndUnloadEverything :
    ((Instr.powerOnReset [] = .powerOnReset [] ∨ Instr.powerOnReset [] = .resetPin none)) ∧
      (Instr.resetPin (some 1) = .powerOnReset [] ∨ Instr.resetPin (some 1) = .resetPin (some 1)) ∧
      (running.mem.wf = true ∧ (asking (.capture 0) lastByte).port.next (.capture 0) ∧
        (asking (.capture 0) lastByte).port.queue (.capture 0) = [lastByte]) :=
  ⟨by decide, by decide, by decide, alone_is_next _ _ (by decide) (by decide), by decide⟩

theorem witness_LinkResetKeepsTheRest : false = false ∧ Requester.tile 0 ≠ .control pcieEndpoint := by decide

theorem witness_LoadTakenUnloadsAndReads :
    (State.reset.control.part = .halted ∨ State.reset.control.part = .ready) ∧
      (ready.control.part = .halted ∨ ready.control.part = .ready) := by decide

/-- One refused write of each kind, in the part states next to those that take it. -/
theorem witness_RefusedWritesOnlySetRefused :
    ((inPart .loading).control.part = .loading ∨ (inPart .loading).control.part = .running) ∧
      (State.reset.control.part ≠ .ready) ∧ (ready.control.part ≠ .halted) ∧ ready.control.part ≠ .running := by decide

/-- A READY part, with and without a held START. -/
theorem witness_StartAndStop :
    ready.control.part = .ready ∧
      { ready with control := { ready.control with heldStart := true } }.control.part = .ready ∧
        { ready with control := { ready.control with heldStart := true } }.control.heldStart = true := by decide

/-- A HALTED part; the offsets at which the registers begin and end; and reads of the last byte and of a whole word. -/
theorem witness_RegisterReadsAndWrites :
    State.reset.control.part = .halted ∧ 12 < 32 ∧ 2 < 3 ∧
      ((3 : BitVec 12).toNat < 4 ∧ 4 ≤ (4 : BitVec 12).toNat ∧ 24 ≤ (27 : BitVec 12).toNat ∧ (27 : BitVec 12).toNat < 28 ∧
        28 ≤ (28 : BitVec 12).toNat) ∧
      (3 : BitVec 12).toNat % 4 + 1 ≤ 4 ∧ (4 : BitVec 12).toNat % 4 + 4 ≤ 4 := by decide

/-- An IDLE processor, one in AWAITING_COMMIT, and one in the middle of a look with and without an ATTEND kept. -/
theorem witness_AttendIsALookEvent :
    (running.control.part = .running ∧ running.ring.look = .none ∧ running.ring.state ≠ .awaitingCommit ∧
        running.ring.state ≠ .writingBack) ∧
      (swapping.control.part = .running ∧ swapping.ring.look = .none ∧ swapping.ring.state = .awaitingCommit) ∧
      (looking []).control.part = .running ∧ (looking []).ring.look ≠ .none ∧ LookCause.attend ∉ (looking []).ring.kept := by
  decide

/-! ## Witnesses: the port -/

theorem witness_Bar2AccessBecomesTransfers : 4294967295 + 1 ≤ 4294967296 ∧ 4294967295 + ([7] : List Byte).length ≤ 4294967296 := by
  decide

theorem witness_GrantFollowsClassAndPointer :
    (running.mem.wf = true ∧ ∀ r, running.port.queue r = []) ∧
      (asking (.tile 15) lastByte).port.next (.tile 15) ∧ (asking (.capture 0) lastByte).port.next (.capture 0) ∧
      (asking (.control loadSequence) lastByte).port.next (.control loadSequence) ∧
      (asking (.tile 15) lastByte).port.queue (.tile 15) = [lastByte] := by
  refine ⟨⟨by decide, ?_⟩, alone_is_next _ _ (by decide) (by decide), alone_is_next _ _ (by decide) (by decide),
    alone_is_next _ _ (by decide) (by decide), by decide⟩
  intro r
  cases r with
  | tile t => revert t; decide
  | capture c => revert c; decide
  | control k => revert k; decide

/-- A look in hand whose slot is read next: frame memory holds the bytes at slot 0. -/
def readingSlot (bytes : List Byte) (state : RingState) : State :=
  { asking (.control ringProcessor) ⟨0x110000, .read 64, 0⟩ with
    mem := Memory.writeBytes [] 0x110000 bytes
    ring := { running.ring with state := state, look := .reading .attend } }

/-- The first `n` bytes at an address. -/
def bytesAt (s : State) (a n : Nat) : List Byte := (List.range n).map fun k => s.mem.read (a + k)

/-- Tile, control and ring reads: a skipped slot, a slot found, a TAKE_SCENE of the last scene, and a scene's own read. -/
theorem witness_GrantedReadReachesItsRequester :
    (asking (.tile 3) ⟨16, .read 4, 2⟩).port.next (.tile 3) ∧
      (∀ k : Fin 5, (asking (.control k) ⟨16, .read 4, 19⟩).port.next (.control k)) ∧
      (19 : Nat) = (18 : Fin 32).val + 1 ∧
      ((bytesAt (readingSlot [1] .skipping) 0x110000 64).getD 0 0 ≠ 0 ∧ (readingSlot [1] .skipping).ring.state = .skipping) ∧
      ((bytesAt (readingSlot [0] .idle) 0x110000 64).getD 0 0 = 0) ∧
      ((bytesAt (readingSlot (slotOf 0 1 [15]) .idle) 0x110000 64).getD 0 0 ≠ 0 ∧
        ((bytesAt (readingSlot (slotOf 0 1 [15]) .idle) 0x110000 64).getD 2 0).toNat = 1 ∧
        ((bytesAt (readingSlot (slotOf 0 1 [15]) .idle) 0x110000 64).getD 16 0).toNat ≤ 15 ∧
        (readingSlot (slotOf 0 1 [15]) .idle).ring.state = .idle ∧
        (readingSlot (slotOf 0 1 [15]) .idle).groupStarted.held.length < min 32 (2 ^ smallCfg.ringCode / 2)) ∧
      ((engineAt 3 false).engines[(0 : Fin 16)]).composing = some ⟨3, true, false, []⟩ ∧
      ({ running.ring with look := .scene .attend (slotOf 0 1 [15]) [] } : Ring).look = .scene .attend (slotOf 0 1 [15]) [] := by
  refine ⟨alone_is_next _ _ (by decide) (by decide), fun k => ?_, rfl, ⟨by decide, by decide⟩, by decide, ⟨by decide, by decide, by decide, rfl, by decide⟩, by decide, rfl⟩
  revert k
  intro k
  refine alone_is_next _ _ ?_ ?_ <;> revert k <;> decide

/-- R144: the read that finds a TAKE_SCENE slot posted in IDLE starts the group, with the live table as its draft, before
the scene is read. -/
theorem test_look_in_idle_starts_the_group :
    (after .transferGrant { readingSlot (slotOf 0 1 [15]) .idle with live := three }).map (fun t =>
      (t.ring.state, t.ring.draft == three, t.ring.look, t.ring.next)) =
        some (.collecting, true, .scene .attend (slotOf 0 1 [15] ++ List.replicate 47 0) [], 0) := by decide

/-! ## Witnesses: the wall frame start and the millisecond interval -/

/-- R62 and R137: an interval that came after a wall frame start which the processor keeps is taken after it, so the page of
that start does not show the change. -/
theorem test_kept_start_goes_before_a_later_interval :
    let s := { looking [0] with
      alarms := (alarmed 1 .idle false).alarms, alarmsLater := [[.interval 0xFB]]
      ring := { (looking [0]).ring with kept := [.frame 1] } }
    (after .slotNotPosted s).map (fun t => (t.status.raised, (t.alarms[(2 : Fin 8)]).state, t.alarmsLater)) =
      some (0, .active, []) := by decide

/-- R62: of two wall frame starts kept, the copy of the second is begun; a change of the raised set that belongs before it
shows there as the build it starts. -/
theorem test_change_before_a_later_kept_start :
    let s := { looking [0] with
      alarms := (alarmed 1 .idle false).alarms, alarmsLater := [[.interval 0xFB], []]
      ring := { (looking [0]).ring with state := .writingBack, look := .none, kept := [.frame 1, .frame 2] } }
    (s.settleLooks.status.raised, s.settleLooks.status.builder, s.settleLooks.alarmsLater) =
      (4, .building .alarm 0, []) := by decide

/-- R133 and R184: while the processor keeps a wall frame start, an interval that settles an input sets ALARM_EVENT as it comes;
a STOP then sets nothing, clears nothing and keeps the level that the sample gave. -/
theorem test_kept_interval_sets_its_event_before_a_stop :
    let s := { alarmed 0 .idle false with alarmsLater := [[.interval 0xFB], []] }
    let t := after (.millisecondInterval 0xFB) s
    t.map (fun t => ((t.alarms[(2 : Fin 8)]).state, t.link.cause, t.alarmsLater)) =
        some (.idle, 16, [[.interval 0xFB], [.interval 0xFB]]) ∧
      (t.bind fun t => after (.stop false false) { t with link := { t.link with cause := 3 } }).map
        (fun t => ((t.alarms[(2 : Fin 8)]).state, t.link.cause, t.control.part)) = some (.active, 3, .halted) := by decide

/-- A group of a save and of clears of the same input twice. -/
def committing : State :=
  { alarmed 0 .active true with ring := { running.ring with
    state := .awaitingCommit, held := [⟨0, 5, 1, 0⟩, ⟨1, 7, 1, 0⟩, ⟨2, 7, 1, 0⟩], pendingClears := [(1, 2), (2, 2)],
    pendingSaves := [15] } }

/-- A GROUP bank; an ALARM bank that waits while a group with edits, and one without, await their commit; a clear that
changes the raised set; and a bank with a marked tile. -/
theorem witness_WallFrameStartSwapsTheBanks :
    let alarm := { swapping with builder := { swapping.builder with state := .donePending .alarm } }
    let early := { committing with builder := { running.builder with state := .donePending .alarm, shadow := some (initialBank smallCfg) } }
    (swapping.control.part = .running ∧ swapping.builder.state = .donePending .group) ∧
      (alarm.control.part = .running ∧ alarm.builder.state = .donePending .alarm ∧ alarm.ring.edits = true) ∧
      (early.control.part = .running ∧ early.builder.state = .donePending .alarm ∧ early.ring.state = .awaitingCommit ∧
        early.ring.edits = false ∧
        raisedSet (applyClears early.ring.pendingClears early.alarms).1 = raisedSet early.alarms ∧
        raisedSet (applyClears [(0, 2)] (alarmed 0 .latched false).alarms).1 ≠ raisedSet (alarmed 0 .latched false).alarms) ∧
      let marked : Bank := ⟨0, vset (Vector.replicate 16 none) 15 (some ⟨[], .degraded⟩)⟩
      ∃ table : TileTable, marked.tiles[(15 : Fin 16)] = some table ∧ table.mark ≠ .normal :=
  ⟨by decide, by decide, by decide, _, rfl, by decide⟩

theorem witness_WallFrameStartBeginsTheFrame :
    running.control.part = .running ∧ (∀ kind, running.builder.state ≠ .donePending kind) ∧ running.ring.look = .none ∧
      running.ring.state = .idle ∧ (running.tile 0).enable = true :=
  ⟨by decide, (fun _ h => nomatch h), by decide, by decide, by decide⟩

/-- The first clear finds ACTIVE (1), the second ACKED (2). -/
theorem witness_GroupWithoutEditsCommits :
    (committing.control.part = .running ∧ committing.ring.state = .awaitingCommit ∧ committing.ring.edits = false ∧
        committing.ring.look = .none ∧ committing.builder.state ≠ .donePending .group) ∧
      (applyClears committing.ring.pendingClears committing.alarms).2 = (true, [(1, 1), (2, 2)]) := by decide

/-- RUNNING and READY; the sample that settles; the interval that reaches 250; a wall frame start waiting, and one whose
header has not been judged. Together with a wall frame start: the processor free, in the middle of a look, and keeping a
start; a GROUP bank that the interval leaves waiting, and one that it discards; and a group without edits whose clears
leave the raised set and change it. -/
theorem witness_MillisecondIntervalActsOnEveryUnit :
    (running.control.part = .running ∧ ready.control.part ≠ .running) ∧
      (∃ t, exec (.millisecondInterval 0xFB) (alarmed 1 .idle false) = .next t ∧
        ∃ i : Fin 8, (t.alarms[i]).level ≠ ((alarmed 1 .idle false).alarms[i]).level) ∧
      (∃ t, exec (.millisecondInterval 0) (input4 { lockedInput frame64 with loss := 249 }) = .next t ∧
        ((input4 { lockedInput frame64 with loss := 249 }).inputs[(4 : Fin 16)]).state ≠ .noSignal ∧
        (t.inputs[(4 : Fin 16)]).state = .noSignal) ∧
      ((judging []).sources.frames = [] ∧ (18 : Fin 32) ∈ (judging []).sources.toJudge ∧ 4 ∉ (judging []).sources.toJudge) ∧
      { running.sources with frames := [⟨false, [], 2⟩] }.frames = [] ++ [⟨false, [], 2⟩] ∧
      ((⟨true, true, some ⟨0xFB, false, true, false, 1⟩⟩ : FrameOrder).interval = some ⟨0xFB, false, true, false, 1⟩ ∧
        (running.alarmsLater = [] ∧ running.ring.look = .none) ∧ (looking [0]).ring.look ≠ .none ∧
        { running with alarmsLater := [[]] }.alarmsLater = [] ++ [[]]) ∧
      ((swapping.sampleContacts 0xFF).builder.state = .donePending .group ∧ swapping.ring.edits = true ∧
        ({ alarmed 1 .idle false with builder := swapping.builder }.sampleContacts 0xFB).builder.state = .building .group 0) ∧
      (committing.ring.state = .awaitingCommit ∧ committing.ring.edits = false ∧ committing.builder.state ≠ .donePending .group ∧
        raisedSet (applyClears committing.ring.pendingClears committing.alarms).1 = raisedSet committing.alarms ∧
        raisedSet (applyClears [(0, 2)] (alarmed 0 .latched false).alarms).1 ≠ raisedSet (alarmed 0 .latched false).alarms) :=
  ⟨by decide, ⟨_, rfl, 2, by decide⟩, ⟨_, rfl, by decide, by decide⟩, by decide, rfl, by decide, by decide, by decide⟩

/-! ## Witnesses: sources -/

theorem sourced_legal : ((sourced 150).channel 4).rolesLegal 4 ∧ ((sourced 50).channel 4).rolesLegal 4 := by
  unfold Source.rolesLegal
  decide

/-- A change one sample from settling to each level, the interval that reaches 250, ages at the expiry limit, one below it, and
at the stale limit. -/
theorem witness_EventsTakenAlone :
    ((((alarmed 1 .idle false).alarms[(2 : Fin 8)]).config.enable = true ∧
          ((alarmed 1 .idle false).alarms[(2 : Fin 8)]).level ≠ true ∧
          ((alarmed 1 .idle false).alarms[(2 : Fin 8)]).config.debounce ≤ ((alarmed 1 .idle false).alarms[(2 : Fin 8)]).count + 1) ∧
        ((alarmed 1 .acked true).alarms[(2 : Fin 8)]).level ≠ false) ∧
      ((alarmed 1 .idle false).alarmsLater = [] ∧ { running with alarmsLater := [[], []] }.alarmsLater = [[]] ++ [[]]) ∧
      (let s := input4 { lockedInput frame64 with loss := 249 }
       s.control.part = .running ∧ (s.inputs[(4 : Fin 16)]).state ≠ .noSignal ∧ 250 ≤ (s.inputs[(4 : Fin 16)]).loss + 1) ∧
      (((sourced 150).channel 4).rolesLegal 4 ∧ ((sourced 50).channel 4).rolesLegal 4) ∧
      ((sourced 150).control.part = .running ∧ ((sourced 150).channel 4).desc.enable = true ∧ (4 ∉ (sourced 150).sources.toJudge) ∧
        (∀ k : Fin 3, ((sourced 150).channel 4).roles[k] ≠ some .ready) ∧
        (∃ k : Fin 3, ((sourced 150).channel 4).roles[k] = some .shown)) ∧
      (((sourced 150).channel 4).desc.expiryLimit ≠ 0 ∧
        ((sourced 150).channel 4).desc.expiryLimit ≤ ((sourced 150).channel 4).age) ∧
      (((sourced 50).channel 4).desc.staleLimit ≤ ((sourced 50).channel 4).age ∧
        ((sourced 50).channel 4).age < ((sourced 50).channel 4).desc.expiryLimit ∧
        ((sourced 50).channel 4).presentation ≠ .stale) :=
  ⟨by decide, by decide, by decide, sourced_legal, by decide, by decide, by decide⟩

/-- The smallest good header, a width one too great, and a tag not expected. -/
theorem witness_MemoryHeaderIsJudged :
    let s := judging [1, 0, 1, 0, 1, 0]
    (s.channel 18).rolesLegal 18 ∧
      (s.control.part = .running ∧ (s.channel 18).desc.enable = true ∧ 18 ∈ s.sources.toJudge ∧ s.sources.frames = [] ∧
        s.sources.headers.find? (fun p => p.1 == 18) = some (18, [1, 0, 1, 0, 1, 0])) ∧
      (BitVec.ofNat 16 (field [1, 0, 1, 0, 1, 0] 0 2) = (s.channel 18).expected ∧ field [1, 0, 1, 0, 1, 0] 2 2 = 1 ∧
        field [1, 0, 1, 0, 1, 0] 4 2 = 1 ∧ 16 + 1 * 1 * 4 ≤ (s.channel 18).desc.size * 4096) ∧
      4096 < field [1, 0, 1, 16, 1, 0] 2 2 ∧ BitVec.ofNat 16 (field [2, 0, 1, 0, 1, 0] 0 2) ≠ (s.channel 18).expected := by
  refine ⟨?_, by decide, by decide, by decide⟩
  unfold Source.rolesLegal
  decide

/-- The last header, with a later wall frame start not yet taken, and with two that are. -/
theorem witness_MemoryHeaderIsJudged_before_a_start :
    let s (frames : List SourceFrame) : State :=
      { judging [1, 0, 1, 0, 1, 0] with sources := { (judging [1, 0, 1, 0, 1, 0]).sources with frames := frames } }
    (∀ q ∈ (judging [1, 0, 1, 0, 1, 0]).sources.toJudge, q = memorySource 2) ∧ (judging [1, 0, 1, 0, 1, 0]).rolesLegal ∧
      (s [⟨false, [], 1⟩]).sources.frames.head? = some ⟨false, [], 1⟩ ∧
      (s [⟨true, [.freeze 18 true], 2⟩, ⟨true, [], 0⟩]).sources.frames = [⟨true, [.freeze 18 true], 2⟩, ⟨true, [], 0⟩] := by
  refine ⟨by decide, ?_, rfl, rfl⟩
  unfold State.rolesLegal Source.rolesLegal
  decide

/-! ## Witnesses: tile engines -/

/-- A finished row, a late row 0, and the last row of the tile. -/
theorem witness_LineStartSendsOrIsLate :
    ((engineAt 0 false).control.part = .running ∧ ((engineAt 0 false).tile 0).enable = true ∧
        ((engineAt 0 false).engines[(0 : Fin 16)]).composing = some ⟨0, true, false, []⟩) ∧
      ((engineAt 63 true).engines[(0 : Fin 16)]).composing = some ⟨63, true, true, []⟩ := by decide

theorem witness_RowComposedFillsTheLine :
    (engineAt 63 false).control.part = .running ∧
      ((engineAt 63 false).engines[(0 : Fin 16)]).composing = some ⟨63, true, false, []⟩ ∧
      (engineAt 63 false).view = some ⟨Vector.replicate 32 .none, []⟩ ∧ (engineAt 63 false).port.queue (.tile 0) = [] := by decide

/-! ## Witnesses: capture inputs -/

/-- No signal; the frame that locks, at the least dimensions; and one that only counts. -/
theorem witness_FrameStartMarkAcquiresAndLocks :
    let s := input4 CaptureInput.initial
    let acquiring (n : Nat) : CaptureInput :=
      { CaptureInput.initial with
        state := .acquiring, candidate := some (64, 64), count := n, frame := some { frame64 with written := false } }
    (s.control.part = .running ∧ (s.channel (captureSource 4)).desc.enable = true ∧ (s.inputs[(4 : Fin 16)]).state = .noSignal ∧
        (s.inputs[(4 : Fin 16)]).frame = none) ∧
      ((acquiring 2).state = .acquiring ∧ { frame64 with written := false }.closeLine.dims = some (64, 64) ∧
        (acquiring 2).candidate = some (64, 64) ∧ min 3 ((acquiring 2).count + 1) = 3) ∧
      min 3 ((acquiring 1).count + 1) ≠ 3 := by decide

/-- A mismatch, an oversize frame, the torn frame that halves, the good frame that returns the input, and a skipped one. -/
theorem witness_FrameStartMarkJudgesLockedFrame :
    let s := input4 (lockedInput frame64)
    let skipped : CaptureFrame := { frame64 with written := false, skipped := true }
    (s.control.part = .running ∧ (s.channel (captureSource 4)).desc.enable = true ∧ (s.inputs[(4 : Fin 16)]).state = .locked ∧
        (s.inputs[(4 : Fin 16)]).frame = some frame64 ∧ frame64.skipped = false) ∧
      { frame64 with lines := 63 }.closeLine.dims ≠ some (64, 64) ∧ frame64.closeLine.dims = some (64, 64) ∧
      { lockedInput frame64 with oversize := true }.oversize = true ∧ { frame64 with torn := true }.torn = true ∧
      (¬ { lockedInput frame64 with tornRun := 1 }.tornRun + 1 < 2 ∧ ¬ { lockedInput frame64 with cleanRun := 15 }.cleanRun + 1 < 16) ∧
      (((input4 (lockedInput skipped)).inputs[(4 : Fin 16)]).frame = some skipped ∧ skipped.skipped = true ∧
        skipped.written = false) := by
  decide

/-- No frame; a line whose width is the locked one, and one too narrow; a line one too many; the last place of the FIFO, and
none left with the head's transfer waiting; and a pixel at the last kept column. -/
theorem witness_LinesAndPixelsFillTheFifo :
    let f : CaptureFrame := { CaptureFrame.begun true false with lines := 63, inLine := true, pixels := 64 }
    let line : FifoLine := ⟨0, [], 0, false, false⟩
    let s := input4 { lockedInput f with fifo := [line, line, line] }
    let t := (input4 { lockedInput f with fifo := [line, line, line, line] }).setQueue (.capture 4) [⟨0x200010, .write [], 1⟩]
    (s.control.part = .running ∧ (s.channel (captureSource 4)).desc.enable = true ∧
        ((input4 CaptureInput.initial).inputs[(4 : Fin 16)]).frame = none) ∧
      ((s.inputs[(4 : Fin 16)]).frame = some f ∧ f.pixels = (s.inputs[(4 : Fin 16)]).lockedW) ∧
      (f.written = true ∧ f.torn = false ∧ f.mismatch = false ∧ f.lines < (s.inputs[(4 : Fin 16)]).lockedH ∧
        (s.inputs[(4 : Fin 16)]).fifo.length < 4) ∧
      ((s.inputs[(4 : Fin 16)]).fifo = [line, line] ++ [line] ∧ line.prior = false ∧ line.dead = false ∧
        { f with pixels := 63 }.pixels < (s.inputs[(4 : Fin 16)]).lockedW) ∧
      ({ f with pixels := 63 }.pixels ≠ (s.inputs[(4 : Fin 16)]).lockedW ∧
        (s.inputs[(4 : Fin 16)]).lockedH ≤ { f with lines := 64 }.lines) ∧
      (4 ≤ (t.inputs[(4 : Fin 16)]).fifo.length ∧ ((t.port.queue (.capture 4)).head?.map fun x => x.tag) = some 1 ∧
        (t.inputs[(4 : Fin 16)]).fifo = line :: [line, line, line]) := by decide

/-- A slot at a multiple of 4096; a line held back, one with all its transfers granted, and one of 64 by 64 with its first
transfer's 60 pixels in, and with 59; and the grant of that transfer. -/
theorem witness_CaptureWritesLinesInOrder :
    let px (n : Nat) : FifoLine := ⟨0, List.replicate n ⟨1, 2, 3⟩, 0, false, false⟩
    let i (l : FifoLine) : CaptureInput := { lockedInput frame64 with fifo := [l] }
    let s := (asking (.capture 4) ⟨0x200010, .write [], 1⟩).withSources (sourced 0).sources
    (0x200000 % 4096 = 0 ∧ linePieces 0x200000 64 0 = [(0x200010, 240), (0x200100, 16)]) ∧
      (((i (px 60)).nextTransfer 0x200000).isSome = true ∧ (i (px 59)).nextTransfer 0x200000 = none ∧
        { px 60 with dead := true }.dead = true ∧ (linePieces 0x200000 64 0)[{ px 60 with sent := 2 }.sent]? = none) ∧
      s.port.next (.capture 4) ∧ s.port.queue (.capture 4) = [⟨0x200010, .write [], 1⟩] ∧
      (s.channel (captureSource 4)).holdsAt .filling 0 := by
  refine ⟨by decide, by decide +kernel, alone_is_next (.capture 4) ⟨0x200010, .write [], 1⟩ (by decide) (by decide), by decide, ?_⟩
  unfold Source.holdsAt
  decide

theorem witness_ReportsArePublished :
    let s := input4 { lockedInput frame64 with good := some (64, 64), report := some (64, 63) }
    (s.channel (captureSource 4)).rolesLegal (captureSource 4) ∧
      s.control.part = .running ∧ (s.channel (captureSource 4)).desc.enable = true ∧
      (s.inputs[(4 : Fin 16)]).good = some (64, 64) ∧ (∀ l ∈ (s.inputs[(4 : Fin 16)]).fifo, l.prior = false) ∧
      (s.inputs[(4 : Fin 16)]).report = some (64, 63) := by
  refine ⟨?_, by decide⟩
  unfold Source.rolesLegal
  decide

/-! ## Witnesses: the builder and the ring processor -/

/-- Tile 0 kept; and failing, with a draft of two tables' worth of spans against a pool all taken but one. -/
theorem witness_TileBuiltKeepsOrFails :
    (building.builder.state = .building .group 0 ∧ building.builder.shadow = some ⟨0, Vector.replicate 16 none⟩ ∧
        (0 : Nat) ≤ (0 : Fin 16).val ∧ (building.tile 0).enable = true ∧
        (∀ j : Fin 16, 0 ≤ j.val → j < 0 → (building.tile j).enable = false)) ∧
      (building.ring.held = [] ++ [⟨0, 0, 1, 0⟩] ∧ building.ring.kept = []) ∧
      (∃ kept, buildTile .group (building.tile 0) building.ring.draft 0 6144 = .kept kept) ∧
      buildTile .group (building.tile 0) (Table.empty.put 5 (win 5)) 0 1 = .failed 3 :=
  ⟨by decide, by decide, ⟨_, rfl⟩, by decide⟩

/-- A found slot of a kind in a processor that has room. -/
theorem found_has_room (slot : List Byte) (kind : Nat) (h0 : slot.getD 0 0 ≠ 0) (h2 : (slot.getD 2 0).toNat = kind) :
    (looking slot).hasFound slot kind ∧ (looking slot).hasRoom ∧ (looking slot).nothingKept slot := by
  have hp : slotPosted slot = true := by simpa [slotPosted, enableAt, byteAt] using h0
  have hi : running.ring.state = .idle := rfl
  have hg : running.groupFound slot = running.withRing running.startGroup := by simp [State.groupFound, hp, hi]
  unfold looking lookedAt
  rw [hg]
  refine ⟨⟨rfl, rfl, ⟨.attend, rfl⟩, h0, h2⟩, ?_, .inr rfl⟩
  unfold State.hasRoom
  show 0 < min 32 (2 ^ 3 / 2)
  decide

/-- The greatest window, scene, source and input numbers. -/
theorem witness_SlotsHeldWithDone :
    ((looking (slotOf 0 0 [])).hasFound (slotOf 0 0 []) 0 ∧ (looking (slotOf 0 5 [15])).hasFound (slotOf 0 5 [15]) 5 ∧
      (looking (slotOf 0 6 [31, 1])).hasFound (slotOf 0 6 [31, 1]) 6 ∧
      ((looking (slotOf 0 7 [7])).hasFound (slotOf 0 7 [7]) 7 ∧ (looking (slotOf 0 7 [7])).hasRoom ∧
        (looking (slotOf 0 7 [7])).nothingKept (slotOf 0 7 [7]))) ∧
    ((looking (slotOf 0 2 (windowBytes (win 63)))).hasFound (slotOf 0 2 (windowBytes (win 63))) 2 ∧
        win 63 = windowAt (slotOf 0 2 (windowBytes (win 63))) 16 ∧ (win 63).inRange ∧ (win 63).id = (63 : Fin 64).val) ∧
      ((looking (slotOf 1 3 [20])).hasFound (slotOf 1 3 [20]) 3 ∧
        ((edited (slotOf 1 3 [20])).ring.draft.records[(20 : Fin 64)]).isSome = true) ∧
      (looking (slotOf 0 9 [])).hasFound (slotOf 0 9 []) 9 :=
  ⟨⟨(found_has_room _ _ (by decide) (by decide)).1, (found_has_room _ _ (by decide) (by decide)).1,
    (found_has_room _ _ (by decide) (by decide)).1, found_has_room _ _ (by decide) (by decide)⟩,
    ⟨(found_has_room _ _ (by decide) (by decide)).1, by decide, win_inRange _ (by decide), by decide⟩,
    ⟨(found_has_room _ _ (by decide) (by decide)).1, by decide⟩, (found_has_room _ _ (by decide) (by decide)).1⟩

/-- The scene of an empty table. -/
def emptyScene : List Byte := leBytes 4 0x43535741 ++ sceneBody Table.empty

theorem emptyScene_passes : sceneFault emptyScene = none ∧ 4096 ≤ emptyScene.length := by decide +kernel

/-- A TAKE_SCENE whose scene has been read. -/
def takingScene (scene : List Byte) : State :=
  { running with ring := { running.ring with state := .collecting, look := .scene .attend (slotOf 0 1 [15]) scene } }

/-- Slot of a SOURCE_CONFIG of source 31 with base 0 at 16 MiB. -/
def configSlot : List Byte :=
  slotOf 0 8 ([31, 0, 0, 0] ++ [1, 0, 0, 0] ++ leBytes 4 0x1000000 ++ leBytes 4 0x1010000 ++ leBytes 4 0 ++ leBytes 2 5 ++ leBytes 2 0 ++
    leBytes 2 0)

theorem witness_SlotsThatRestackTakeOrConfigure :
    ((looking (slotOf 0 4 [3, 3, 20])).hasFound (slotOf 0 4 [3, 3, 20]) 4 ∧ three.wellFormed ∧ (3 : Fin 64) ∈ three.stack ∧
        (20 : Fin 64) ≠ 3 ∧ (three.stack.filter fun j => j != 3) = [] ++ 20 :: [5]) ∧
      ((takingScene emptyScene).control.part = .running ∧ (takingScene emptyScene).ring.state = .collecting ∧
        ((slotOf 0 1 [15]).getD 2 0).toNat = 1 ∧ ((slotOf 0 1 [15]).getD 16 0).toNat ≤ 15 ∧ 4096 ≤ emptyScene.length ∧
        sceneFault emptyScene = none) ∧
      ((looking configSlot).hasFound configSlot 8 ∧ (configSlot.getD 16 0).toNat = (31 : Fin 32).val ∧
        descriptorFault (controlAreas 0 smallCfg) ((List.finRange 32).map fun q => (q, Descriptor.unloaded)) 31
            (descriptorAt configSlot 20) = none) :=
  ⟨⟨(found_has_room _ _ (by decide) (by decide)).1, three_wellFormed, by decide, by decide, by decide⟩,
    ⟨rfl, rfl, by decide, by decide, emptyScene_passes.2, emptyScene_passes.1⟩,
    (found_has_room _ _ (by decide) (by decide)).1, by decide, by decide⟩

/-- One slot for each refusal, at the first value out of range; a group at its limit; and a scene without its marker. -/
theorem witness_RefusedSlotsAbortTheGroup :
    ((looking (slotOf 0 10 [])).hasFound (slotOf 0 10 []) 10 ∧ 9 < 10 ∧ (looking (slotOf 0 10 [])).ring.kept = [] ∧
        (looking (slotOf 0 10 [])).hasRoom) ∧
      (∀ p : Nat × List Byte, p ∈ [(1, [16]), (2, windowBytes { win 3 with border := 16 }), (3, [64]), (3, [9]), (4, [64]),
          (4, [3, 4]), (4, [3, 2, 64]), (4, [9, 0]), (5, [16]), (6, [32]), (6, [31, 2]), (7, [8]), (8, [32])] →
        (looking (slotOf 0 (BitVec.ofNat 8 p.1) p.2)).hasFound (slotOf 0 (BitVec.ofNat 8 p.1) p.2) p.1) ∧
      (windowAt (slotOf 0 2 (windowBytes { win 3 with border := 16 })) 16).fault = some 20 ∧
      ¬ { looking (slotOf 0 0 []) with
          ring := { (looking (slotOf 0 0 [])).ring with held := List.replicate 4 ⟨0, 0, 1, 0⟩ } }.hasRoom ∧
      descriptorFault (controlAreas 0 smallCfg) ((List.finRange 32).map fun q => (q, Descriptor.unloaded)) 31
          { descriptorAt configSlot 20 with size := 4 } ≠ none ∧
      (sceneFault (List.replicate 4096 0) ≠ none ∧ 4096 ≤ (List.replicate 4096 (0 : Byte)).length) := by
  refine ⟨⟨(found_has_room _ _ (by decide) (by decide)).1, by decide, by decide, (found_has_room (slotOf 0 10 []) 10 (by decide)
    (by decide)).2.1⟩, ?_, by decide, ?_, by decide, by decide +kernel, by decide +kernel⟩
  · intro p hp
    simp only [List.mem_cons, List.not_mem_nil, or_false] at hp
    rcases hp with rfl | rfl | rfl | rfl | rfl | rfl | rfl | rfl | rfl | rfl | rfl | rfl | rfl <;>
      exact (found_has_room _ _ (by decide) (by decide)).1
  · unfold State.hasRoom
    decide

/-- The eighth counted look, the seventh, and the two timeouts. -/
theorem witness_UnpostedSlotsCountToTimeout :
    let s (wait : Nat) : State :=
      { running with ring := { running.ring with state := .collecting, wait := wait, look := .found (.frame 9) [0] } }
    ((s 7).control.part = .running ∧ (s 7).ring.state = .collecting ∧ ([0] : List Byte).getD 0 0 = 0 ∧ (s 7).ring.kept = [] ∧
        8 ≤ (s 7).ring.wait + 1 ∧ ¬ 8 ≤ (s 6).ring.wait + 1) ∧
      (waiting.control.part = .running ∧ waiting.ring.state = .collecting ∧ waiting.ring.look = .timeout ∧ waiting.ring.kept = [] ∧
        waiting.ring.held = [⟨3, 0, 1, 0⟩] ++ [⟨4, 2, 1, 1⟩]) ∧
      { waiting.ring with state := .skipping }.state = .skipping := by decide

theorem witness_ReturnsEndWithGroupDone :
    let skipping : State :=
      { running with ring := { running.ring with state := .skipping, next := 7, look := .skip .atOnce (slotOf 0 0 []) } }
    let back (r : Returning) : State := { waiting with ring := { waiting.ring with state := .writingBack, returning := r } }
    (skipping.control.part = .running ∧ skipping.port.queue (.control ringProcessor) = [] ∧ skipping.ring.state = .skipping ∧
        skipping.ring.look = .skip .atOnce (slotOf 0 0 [])) ∧
      ((back .committed).control.part = .running ∧ (back .committed).port.queue (.control ringProcessor) = [] ∧
        (back .committed).ring.state = .writingBack ∧ (back .committed).ring.returning = .committed ∧
        (back (.aborted true)).ring.returning = .aborted true) := by decide

/-! ## Witnesses: a wall frame start in the units, kept look events, refusals -/

/-- Capture source 4 with a frame READY, input 4 locked, source 18 that is read, and a committing group that configures
source 4 off. -/
def framing : State :=
  let s := sourced 0
  let c := s.channel 4
  { s with
    sources := { s.sources with channels := vset s.sources.channels 4 { c with roles := vset c.roles 2 (some .ready), readyW := 64, readyH := 64 } }
    inputs := vset s.inputs 4 (lockedInput frame64) }

/-- The same with a group without edits that commits. -/
def configuring : State :=
  { framing with ring := { running.ring with
    state := .awaitingCommit, held := [⟨0, 8, 1, 0⟩], pendingSources := [.config 4 { desc16 with enable := false }] } }

theorem framing_legal : framing.rolesLegal := by
  unfold State.rolesLegal Source.rolesLegal
  decide

theorem ready_for_frame : framing.readyForFrame ∧ configuring.readyForFrame :=
  ⟨⟨rfl, rfl, rfl, rfl⟩, rfl, rfl, rfl, rfl⟩

/-- A source that promotes, one that is read, one not in use, and items that commit. -/
theorem witness_SourceUnitTakesTheFrame :
    (framing.readyForFrame ∧ framing.rolesLegal) ∧
      ((framing.channel 4).commit 4 []).roles[(2 : Fin 3)] = some .ready ∧ ((framing.channel 18).commit 18 []).frozen = false ∧
      (configuring.readyForFrame ∧ configuring.ring.edits = false ∧ configuring.ring.state = .awaitingCommit) :=
  ⟨⟨ready_for_frame.1, framing_legal⟩, by decide, by decide, ready_for_frame.2, rfl, rfl⟩

theorem witness_CommittedItemsActInOrder :
    configuring.readyForFrame ∧
      (∃ d, SourceItem.config (captureSource 4) d ∈ configuring.itemsCommitted) ∧
      ∀ d, SourceItem.config (captureSource 5) d ∉ configuring.itemsCommitted := by
  have h : configuring.itemsCommitted = [.config 4 { desc16 with enable := false }] :=
    if_pos (.inr ⟨rfl, rfl⟩)
  rw [h]
  refine ⟨ready_for_frame.2, ⟨_, List.mem_singleton.2 rfl⟩, fun d hd => ?_⟩
  exact absurd (SourceItem.config.inj (List.mem_singleton.1 hd)).1 (by decide)

/-- Both orders, a builder in DONE_PENDING, and the last enabled tile of a build that completes just after. -/
theorem witness_StatusWriterCopiesTheFrame :
    (framing.readyForFrame ∧ (true = true → framing.ring.state = .awaitingCommit → framing.ring.edits = true)) ∧
      (swapping.readyForFrame ∧ swapping.builder.state = .donePending .group ∧ swapping.ring.edits = true) ∧
      (building.readyForFrame ∧ building.builder.shadowBank = ⟨0, Vector.replicate 16 none⟩ ∧ (building.tile 0).enable = true ∧
        (∀ j : Fin 16, 0 ≤ j.val → j ≠ 0 → (building.tile j).enable = false) ∧
        ∃ table, buildTile .group (building.tile 0) building.ring.draft 0 (poolAllowance building.cfg ⟨0, Vector.replicate 16 none⟩ 0) =
          .kept table) :=
  ⟨⟨ready_for_frame.1, fun _ h => nomatch h⟩, ⟨⟨rfl, rfl, rfl, rfl⟩, rfl, rfl⟩,
    ⟨rfl, rfl, rfl, rfl⟩, by decide, by decide, by decide, _, rfl⟩

/-- A start with headers to judge, one with none, the last header, and one of two. -/
theorem witness_ViewIsFormedOnceSourcesAreDone :
    (framing.readyForFrame ∧ running.readyForFrame) ∧
      (∃ t, exec (.wallFrameStart ⟨false, false, none⟩) framing = .next t ∧ t.sources.toJudge ≠ []) ∧
      (∃ t, exec (.wallFrameStart ⟨false, false, none⟩) running = .next t ∧ t.sources.toJudge = []) ∧
      ((judging []).control.part = .running ∧ memorySource 2 ∈ (judging []).sources.toJudge ∧ (judging []).sources.frames = [] ∧
        (judging []).sources.headers.find? (fun p => p.1 == memorySource 2) = some (memorySource 2, []) ∧
        (∀ q ∈ (judging []).sources.toJudge, q = memorySource 2) ∧ ∃ q ∈ [(18 : Fin 32), 19], q ≠ memorySource 2) ∧
      ((∃ t, exec (.memoryHeaderRead 2) (judging []) = .next t ∧ t.sources.toJudge = [] ∧ t.sources.frames = []) ∧
        ∃ t, exec (.memoryHeaderRead 2)
            { judging [] with sources := { (judging []).sources with frames := [⟨false, [], 0⟩] } } = .next t ∧
          t.sources.frames ≠ []) :=
  ⟨⟨ready_for_frame.1, rfl, rfl, rfl, rfl⟩, ⟨_, rfl, by decide⟩, ⟨_, rfl, by decide⟩, by decide, ⟨_, rfl, by decide⟩,
    ⟨_, rfl, by decide⟩⟩

/-- R123: a kept start is taken; the page shows the input as it stood at that start, not as it stands. -/
theorem test_page_shows_the_input_at_the_start :
    let s := { framing with
      inputs := running.inputs, status := { framing.status with inputs := vset framing.status.inputs 4 (lockedInput frame64).entry }
      sources := { framing.sources with frames := [⟨false, [], 0⟩] }
      ring := { framing.ring with kept := [.frame 1] } }
    ((s.settleLooks.status.sources[(4 : Fin 32)]).capture, (s.settleLooks.status.sources[(4 : Fin 32)]).width,
      (s.settleLooks.inputs[(4 : Fin 16)]).state) = (.locked, 64, .noSignal) := by decide

/-- A start in the middle of a look; a slot not posted with an event kept, below the timeout; a group made complete; and a kept
event in IDLE, in AWAITING_COMMIT with and without edits, and in WRITING_BACK. -/
theorem witness_KeptLookEventsAreServed :
    let kept (state : RingState) (edits : Bool) : State :=
      { running with ring := { running.ring with state := state, edits := edits, kept := [.frame 5, .attend] } }
    ((looking []).control.part = .running ∧ (looking []).ring.look ≠ .none ∧ (looking []).builder.state ≠ .donePending .group ∧
        (looking []).ring.state ≠ .awaitingCommit) ∧
      ((looking [0]).ring.look = .found .attend [0] ∧ (looking [0]).ring.state = .idle ∧ ([0] : List Byte).getD 0 0 = 0) ∧
      ((looking (slotOf 0 0 [])).hasFound (slotOf 0 0 []) 0 ∧ (looking (slotOf 0 0 [])).hasRoom ∧ chainSet (slotOf 0 0 []) = false) ∧
      ((kept .idle false).ring.look = .none ∧ (kept .idle false).ring.kept = .frame 5 :: [.attend] ∧
        (kept .awaitingCommit true).ring.edits = true ∧ (kept .awaitingCommit false).ring.edits = false ∧
        (kept .writingBack false).ring.state = .writingBack) ∧
      ({ running.sources with frames := [⟨false, [], 1⟩] }.frames = [⟨false, [], 1⟩] ∧ running.sources.toJudge = []) ∧
      ((framing.channel 4).desc.enable = true ∧ [LookCause.attend, .frame 6].any LookCause.isFrame = true) :=
  ⟨by decide, by decide, ⟨(found_has_room _ _ (by decide) (by decide)).1, (found_has_room (slotOf 0 0 []) 0 (by decide)
    (by decide)).2.1, by decide⟩, by decide, by decide, by decide⟩

/-- A record whose last field is the first to fail; scenes that fail on the marker and on the count; and descriptors too small,
off a multiple of 4096, past the end, and on another source's slot. -/
theorem witness_RefusalDetails :
    let d := descriptorAt configSlot 20
    let fault (d : Descriptor) : Option Nat :=
      descriptorFault (controlAreas 0 smallCfg) ((List.finRange 32).map fun q => (q, ((sourced 0).channel q).desc)) 31 d
    ({ win 3 with border := 16 }.source ≤ 255 ∧ { win 3 with border := 16 }.fault = some 20) ∧
      (fault { d with size := 4 } = some 1 ∧ fault { d with base0 := 0x1000800 } = some 2 ∧
        fault { d with base1 := 0xFFFFF000 } = some 259 ∧ fault { d with base1 := 0x1000000 } = some 260 ∧
        fault { d with base0 := 0 } = some 5 ∧ fault { d with base0 := 0x200000 } = some (6 + 65536 * 4)) ∧
      (sceneFault (emptyScene.set 0 0) = some 1 ∧ sceneFault (emptyScene.set 12 7) = some (2 + 256 * 7) ∧
        sceneFault emptyScene = none) :=
  ⟨by decide, by decide +kernel, by decide +kernel, by decide +kernel, emptyScene_passes.1⟩

theorem test_take_scene :
    (after .takeScene (takingScene emptyScene)).map (fun t => (t.ring.held, t.ring.edits)) = some ([⟨0, 1, 1, 0⟩], true) := by
  decide +kernel

theorem test_source_config :
    (after .sourceConfig (looking configSlot)).map (fun t => (t.ring.held, t.ring.pendingSources.length, t.ring.edits)) =
      some ([⟨0, 8, 1, 0⟩], 1, false) := by decide

end Sys2Proof.Tests
end

section
/-! The commands that only a RUNNING part acts on, and the three statements about every command (O2, O3, O8). -/

namespace Sys2Proof.Machine

open Sys2Proof

/-! ## Commands that only a RUNNING part acts on -/

/-- Control, frame memory and the queue stand as they did. -/
def State.keepsCore (s t : State) : Prop := t.control = s.control ∧ t.mem = s.mem ∧ t.pending = s.pending

/-- The outcome of a command that only a RUNNING part acts on: it answers a next state with control, frame memory and the
queue kept, and the state as it was outside RUNNING. -/
def State.runningEvent (s : State) (o : Host.Outcome State Fault Refusal) : Prop :=
  ∃ t, o = .next t ∧ s.keepsCore t ∧ (s.running = false → t = s)

theorem State.runningEvent.idle (s : State) : s.runningEvent (.next s) := ⟨s, rfl, ⟨rfl, rfl, rfl⟩, fun _ => rfl⟩

theorem State.runningEvent.took {s t : State} (hr : s.running = true) (hk : s.keepsCore t) : s.runningEvent (.next t) :=
  ⟨t, rfl, hk, fun h => absurd h (by simp [hr])⟩

theorem State.runningEvent.ite {s t : State} {p : Prop} [Decidable p] (hr : p → s.running = true) (hk : s.keepsCore t) :
    s.runningEvent (if p then .next t else .next s) := by
  split
  · exact .took (hr ‹p›) hk
  · exact .idle s

theorem State.runningEvent.nextIte {s t : State} {p : Prop} [Decidable p] (hr : p → s.running = true) (hk : s.keepsCore t) :
    s.runningEvent (.next (if p then t else s)) := by
  split
  · exact .took (hr ‹p›) hk
  · exact .idle s

theorem State.running_of_takes {s : State} (h : s.takes = true) : s.running = true := by
  simp only [State.takes, Bool.and_eq_true] at h
  exact h.1

theorem State.running_of_foundKind {s : State} {kind : Nat} {slot : List Byte} (h : s.foundKind kind = some slot) :
    s.running = true := by
  unfold State.foundKind at h
  split at h
  · split at h
    · rename_i hc
      simp only [Bool.and_eq_true] at hc
      exact State.running_of_takes hc.1.1
    · cases h
  · cases h

theorem State.takeSlot_keepsCore (s : State) (slot : List Byte) (check : Ring → Verdict) :
    s.keepsCore (s.takeSlot slot check) := ⟨by simp, by simp, by simp⟩

theorem State.takeKind_runningEvent (s : State) (kind : Nat) (check : List Byte → Ring → Verdict) :
    s.runningEvent (.next (s.takeKind kind check)) := by
  unfold State.takeKind
  split
  · rename_i slot hf
    exact .took (State.running_of_foundKind hf) (s.takeSlot_keepsCore _ _)
  · exact .idle s

theorem execTakeScene_runningEvent (s : State) : s.runningEvent (execTakeScene s) := by
  unfold execTakeScene
  split
  · refine .nextIte (fun h => ?_) (s.takeSlot_keepsCore _ _)
    simp only [Bool.and_eq_true] at h
    exact State.running_of_takes h.1
  · split
    · exact .idle s
    · exact s.takeKind_runningEvent _ _
  all_goals exact .idle s

theorem execBadKind_runningEvent (s : State) : s.runningEvent (execBadKind s) := by
  unfold execBadKind
  split
  · refine .nextIte (fun h => ?_) (s.takeSlot_keepsCore _ _)
    simp only [Bool.and_eq_true] at h
    exact State.running_of_takes h.1.1
  all_goals exact .idle s

theorem State.running_of_foundUnposted {s : State} {cause : LookCause} (h : s.foundUnposted = some cause) :
    s.running = true := by
  unfold State.foundUnposted at h
  split at h
  · split at h
    · rename_i hc
      simp only [State.looks, Bool.and_eq_true] at hc
      exact hc.1.1
    · cases h
  · cases h

theorem execSlotNotPosted_runningEvent (s : State) : s.runningEvent (execSlotNotPosted s) := by
  unfold execSlotNotPosted
  split
  · exact .idle s
  · rename_i cause hf
    have hr := State.running_of_foundUnposted hf
    dsimp only
    generalize (if s.countsWait cause = true then s.ring.wait + 1 else s.ring.wait) = wait
    split
    · exact .took hr ⟨rfl, rfl, rfl⟩
    · exact .took hr ⟨by simp, by simp, by simp⟩

theorem State.running_of_skipped {s : State} {slot : List Byte} (h : s.skipped = some slot) : s.running = true := by
  unfold State.skipped at h
  split at h
  · split at h
    · rename_i hc
      simp only [State.skips, Bool.and_eq_true] at hc
      exact hc.1.1
    · cases h
  · cases h

theorem execSkippedSlot_runningEvent (s : State) : s.runningEvent (execSkippedSlot s) := by
  unfold execSkippedSlot
  split
  · exact .idle s
  · rename_i slot hf
    exact .took (State.running_of_skipped hf) ⟨by simp, by simp, by simp⟩

theorem State.endReturn_runningEvent (s : State) (state : RingState) :
    s.runningEvent (.next (if s.returned then s.endReturn state else s)) := by
  refine .nextIte (fun h => ?_) ⟨by simp, by simp, by simp⟩
  simp only [State.returned, Bool.and_eq_true] at h
  exact h.1.1

theorem execWriteBackDone_runningEvent (s : State) : s.runningEvent (execWriteBackDone s) := by
  unfold execWriteBackDone
  split
  · exact s.endReturn_runningEvent _
  · exact .idle s

theorem execAbortReturnDone_runningEvent (s : State) : s.runningEvent (execAbortReturnDone s) := by
  unfold execAbortReturnDone
  split
  · exact .idle s
  · exact s.endReturn_runningEvent _

theorem State.rowComposed_runningEvent (s : State) (t : Fin 16) : s.runningEvent (.next (s.rowComposed t)) := by
  refine ⟨_, rfl, ⟨by simp, by simp, by simp⟩, fun h => ?_⟩
  unfold State.rowComposed
  dsimp only
  split <;> simp [h]

theorem State.lineStart_runningEvent (s : State) (t : Fin 16) : s.runningEvent (.next (s.lineStart t)) := by
  refine ⟨_, rfl, ⟨by simp, by simp, by simp⟩, fun h => ?_⟩
  simp [State.lineStart, h]

theorem State.running_of_listens {s : State} {c : Fin 16} (h : s.listens c = true) : s.running = true := by
  simp only [State.listens, Bool.and_eq_true] at h
  exact h.1

theorem State.frameStartMark_keepsCore (s : State) (c : Fin 16) : s.keepsCore (s.frameStartMark c) :=
  ⟨by simp, by simp, by simp⟩

theorem execCapturePublication_runningEvent (c : Fin 16) (s : State) : s.runningEvent (execCapturePublication c s) := by
  unfold execCapturePublication
  split
  · exact .nextIte State.running_of_listens ⟨by simp, by simp, by simp⟩
  · exact .idle s

theorem State.running_of_headerOf {s : State} {src : Fin 32} {header : List Byte} (h : s.headerOf src = some header) :
    s.running = true := by
  unfold State.headerOf at h
  split at h
  · rename_i hc
    simp only [Bool.and_eq_true] at hc
    exact hc.1
  · cases h

theorem execMemoryHeaderRead_runningEvent (m : Fin 16) (s : State) : s.runningEvent (execMemoryHeaderRead m s) := by
  unfold execMemoryHeaderRead
  split
  · rename_i header hh
    exact .took (State.running_of_headerOf hh) ⟨by simp, by simp, by simp⟩
  · exact .idle s

theorem State.running_of_finishes {s : State} {src : Fin 32} (h : s.finishes src = true) : s.running = true := by
  simp only [State.finishes, Bool.and_eq_true] at h
  exact h.1.1.1

theorem State.finishSource_keepsCore (s : State) (src : Fin 32) : s.keepsCore (s.finishSource src) :=
  ⟨by simp, by simp, by simp⟩


/-- The commands that only a RUNNING part acts on. The control computer's commands and the resets are not among them, nor are
BAR2_ACCESS, the grant and TILE_BUILT, which look at no part state. -/
def runningOnly : Instr → Bool
  | .powerOnReset _ | .resetPin _ | .pcieLinkReset _ | .load _ | .start | .stop _ _ | .loadEnd | .heldStart => false
  | .causeClear _ | .causeEnableWrite _ | .areaBaseWrite _ | .attend _ | .resetReasonClear _ => false
  | .ignoredRegisterWrite _ _ | .bar2Access _ | .transferGrant | .tileBuilt => false
  | _ => true

/-- What a command that only a RUNNING part acts on answers. -/
theorem exec_runningOnly (c : Instr) (hc : runningOnly c = true) (s : State) : s.runningEvent (exec c s) := by
  cases c with
  | wallFrameStart order => exact .nextIte id ⟨by simp, by simp, by simp⟩
  | millisecondInterval high => exact .ite id ⟨by simp, by simp, by simp⟩
  | debouncedAssert i => exact .nextIte id ⟨by simp, by simp, by simp⟩
  | debouncedRelease i => exact .nextIte id ⟨by simp, by simp, by simp⟩
  | lossOfSignal c =>
    exact .ite (fun h => (Bool.and_eq_true _ _ ▸ h).1) ⟨by simp, by simp, by simp⟩
  | staleLimitReached src =>
    refine .ite (fun h => ?_) (s.finishSource_keepsCore src)
    simp only [Bool.and_eq_true] at h
    exact State.running_of_finishes h.1.1.1
  | expiry src =>
    refine .ite (fun h => ?_) (s.finishSource_keepsCore src)
    simp only [Bool.and_eq_true] at h
    exact State.running_of_finishes h.1
  | memoryHeaderRead m => exact execMemoryHeaderRead_runningEvent m s
  | lineStart t => exact s.lineStart_runningEvent t
  | rowComposed t => exact s.rowComposed_runningEvent t
  | frameStartMark c => exact .ite State.running_of_listens (s.frameStartMark_keepsCore c)
  | captureLock c =>
    refine .ite (fun h => ?_) (s.frameStartMark_keepsCore c)
    simp only [Bool.and_eq_true] at h
    exact State.running_of_listens h.1.1
  | congestionHalved c =>
    refine .ite (fun h => ?_) (s.frameStartMark_keepsCore c)
    simp only [Bool.and_eq_true] at h
    exact State.running_of_listens h.1.1
  | congestionNormal c =>
    refine .ite (fun h => ?_) (s.frameStartMark_keepsCore c)
    simp only [Bool.and_eq_true] at h
    exact State.running_of_listens h.1.1
  | lineStartMark c => exact .ite State.running_of_listens ⟨by simp, by simp, by simp⟩
  | pixel c p => exact .ite State.running_of_listens ⟨by simp, by simp, by simp⟩
  | goodFrameReport c =>
    refine .ite (fun h => ?_) ⟨by simp, by simp, by simp⟩
    simp only [Bool.and_eq_true] at h
    exact State.running_of_listens h.1
  | capturePublication c => exact execCapturePublication_runningEvent c s
  | nop => exact s.takeKind_runningEvent _ _
  | takeScene => exact execTakeScene_runningEvent s
  | putWindow => exact s.takeKind_runningEvent _ _
  | removeWindow => exact s.takeKind_runningEvent _ _
  | restack => exact s.takeKind_runningEvent _ _
  | saveScene => exact s.takeKind_runningEvent _ _
  | freeze => exact s.takeKind_runningEvent _ _
  | clearAlarm => exact s.takeKind_runningEvent _ _
  | sourceConfig => exact s.takeKind_runningEvent _ _
  | clearWall => exact s.takeKind_runningEvent _ _
  | badKind => exact execBadKind_runningEvent s
  | slotNotPosted => exact execSlotNotPosted_runningEvent s
  | skippedSlot => exact execSkippedSlot_runningEvent s
  | chainTimeout => exact .ite (fun h => h.1) ⟨by simp, by simp, by simp⟩
  | skipTimeout => exact .ite (fun h => h.1) ⟨by simp, by simp, by simp⟩
  | writeBackDone => exact execWriteBackDone_runningEvent s
  | abortReturnDone => exact execAbortReturnDone_runningEvent s
  | _ => cases hc

/-! ## The other commands -/

/-- The fault of a BAR 2 access, or its transfers after those of the endpoint (R18). -/
theorem execBar2Access_read (addr len : Nat) (s : State) :
    exec (.bar2Access (.read addr len)) s =
      if addr + len ≤ 4294967296 then .next (s.issue (.control pcieEndpoint) (bar2Reads addr len))
      else .fault (.outsideFrameMemory addr len) := by
  show (if Config.memSize < addr + len then _ else _) = _
  rw [Config.memSize]
  split <;> split <;> first | rfl | omega

theorem execBar2Access_write (addr : Nat) (data : List Byte) (s : State) :
    exec (.bar2Access (.write addr data)) s =
      if addr + data.length ≤ 4294967296 then .next (s.issue (.control pcieEndpoint) (bar2Writes addr data))
      else .fault (.outsideFrameMemory addr data.length) := by
  show (if Config.memSize < addr + data.length then _ else _) = _
  rw [Config.memSize]
  split <;> split <;> first | rfl | omega

/-- LOAD is taken or refused (R179). -/
theorem exec_load (start : Bool) (s : State) :
    exec (.load start) s = .next (if s.canLoad then s.takeLoad start else s.refuse) := by
  show (if s.canLoad then _ else _) = _
  split <;> rfl

/-- START is taken or refused (R179). -/
theorem exec_start (s : State) : exec .start s = .next (if s.control.part = .ready then s.takeStart else s.refuse) := by
  show (if s.control.part = .ready then _ else _) = _
  split <;> rfl

/-- HELD_START is taken where a START is held in READY (R179). -/
theorem exec_heldStart (s : State) :
    exec .heldStart s = .next (if s.control.part = .ready ∧ s.control.heldStart = true then s.takeStart else s) := by
  show (if s.control.part = .ready ∧ s.control.heldStart = true then _ else _) = _
  split <;> rfl

/-- TRANSFER_GRANT carries out the transfer that the port chooses. -/
theorem exec_transferGrant (s : State) :
    exec .transferGrant s = .next (match s.port.choose with | some r => s.grant r | none => s) := by
  show (match s.port.choose with | some r => _ | none => _) = _
  cases s.port.choose <;> rfl

/-- TILE_BUILT keeps the tile in hand, or ends the build with its failure. -/
theorem exec_tileBuilt_cases (s : State) :
    exec .tileBuilt s = .next s ∨
      (∃ kind shadow t table, exec .tileBuilt s = .next (s.keepTile kind shadow t table)) ∨
      ∃ t code, exec .tileBuilt s = .next (s.failBuild t code) := by
  show execTileBuilt s = _ ∨ (∃ kind shadow t table, execTileBuilt s = _) ∨ ∃ t code, execTileBuilt s = _
  unfold execTileBuilt
  split
  · exact .inl rfl
  · split
    · exact .inr (.inl ⟨_, _, _, _, rfl⟩)
    · exact .inr (.inr ⟨_, _, rfl⟩)

/-- LOAD_END: nothing until the bytes read decide the load, and then one of its two ends (R182). -/
theorem exec_loadEnd_cases (s : State) :
    exec .loadEnd s = .next s ∨ s.control.part = .loading ∧
      (exec .loadEnd s = .next s.loadPassed ∨ ∃ code index, exec .loadEnd s = .next (s.loadFailed code index)) := by
  show execLoadEnd s = _ ∨ _ ∧ (execLoadEnd s = _ ∨ ∃ code index, execLoadEnd s = _)
  unfold execLoadEnd
  split
  · split
    · exact .inl rfl
    · exact .inr ⟨‹_›, .inl rfl⟩
    · exact .inr ⟨‹_›, .inr ⟨_, _, rfl⟩⟩
  · exact .inl rfl

/-! ## Every command completes (O2) -/

/-- A command completes: it answers a next state and leaves the queue as it was. -/
def completes (c : Instr) (s : State) : Prop := ∃ t, exec c s = .next t ∧ t.pending = s.pending

theorem exec_completes (c : Instr) (hb : ∀ op, c ≠ .bar2Access op) (s : State) : completes c s := by
  by_cases hc : runningOnly c = true
  · obtain ⟨t, ht, ⟨_, _, hp⟩, _⟩ := exec_runningOnly c hc s
    exact ⟨t, ht, hp⟩
  cases c with
  | powerOnReset dram => exact ⟨_, rfl, rfl⟩
  | resetPin cut => exact ⟨_, rfl, rfl⟩
  | pcieLinkReset lost => exact ⟨_, rfl, rfl⟩
  | load start => exact ⟨_, exec_load start s, by split <;> simp⟩
  | start => exact ⟨_, exec_start s, by split <;> simp⟩
  | stop load start => exact ⟨_, rfl, rfl⟩
  | loadEnd =>
    rcases exec_loadEnd_cases s with h | ⟨_, h | ⟨code, index, h⟩⟩
    · exact ⟨_, h, rfl⟩
    · exact ⟨_, h, by simp⟩
    · exact ⟨_, h, by simp⟩
  | heldStart => exact ⟨_, exec_heldStart s, by split <;> simp⟩
  | causeClear w => exact ⟨_, rfl, rfl⟩
  | causeEnableWrite w => exact ⟨_, rfl, rfl⟩
  | areaBaseWrite w => exact ⟨_, rfl, by unfold State.writeAreaBase; split <;> simp⟩
  | attend w => exact ⟨_, rfl, by simp⟩
  | resetReasonClear w => exact ⟨_, rfl, rfl⟩
  | ignoredRegisterWrite offset w => exact ⟨_, rfl, rfl⟩
  | bar2Access op => exact absurd rfl (hb op)
  | transferGrant =>
    refine ⟨_, exec_transferGrant s, ?_⟩
    cases s.port.choose <;> simp
  | tileBuilt =>
    rcases exec_tileBuilt_cases s with h | ⟨kind, shadow, t, table, h⟩ | ⟨t, code, h⟩
    · exact ⟨_, h, rfl⟩
    · exact ⟨_, h, by simp⟩
    · exact ⟨_, h, by simp⟩
  | _ => exact absurd rfl hc

/-- Settles O2: a BAR 2 access by its bounds, every other command by `exec_completes`. -/
theorem onlyBar2AccessStops : Obligations.OnlyBar2AccessStops := by
  intro c s
  dsimp only
  split
  · rw [execBar2Access_read]
    split
    · exact ⟨_, rfl, by simp⟩
    · rfl
  · rw [execBar2Access_write]
    split
    · exact ⟨_, rfl, by simp⟩
    · rfl
  · rename_i hr hw
    refine exec_completes c ?_ s
    rintro (⟨a, n⟩ | ⟨a, d⟩) rfl
    · exact hr a n rfl
    · exact hw a d rfl

/-! ## Frame memory stays canonical (O3) -/

/-- A step on a queue that holds a command is that command on the queue's rest; on an empty one it changes nothing. -/
theorem step_cases {s t : State} (h : step s = .next t) :
    t = s ∨ ∃ c rest, s.pending = c :: rest ∧ exec c (s.withPending rest) = .next t := by
  unfold step at h
  split at h
  · cases h
    exact .inl rfl
  · exact .inr ⟨_, _, ‹_›, h⟩

theorem State.grant_mem_wf {s : State} (h : s.mem.wf = true) (r : Requester) : (s.grant r).mem.wf = true := by
  unfold State.grant
  split
  · exact h
  · simpa using Transfer.applied_wf h _

theorem State.cutMemory_wf {s : State} (h : s.mem.wf = true) (mask : Nat) : (s.cutMemory mask).wf = true := by
  unfold State.cutMemory
  split
  · split
    · exact Memory.writeEnabled_wf h _ _
    · exact h
  · exact h

/-- No command but the resets that lose frame memory or cut a write, and the grant, touches frame memory. -/
theorem exec_mem {c : Instr} {s t : State} (h : exec c s = .next t) (hp : ∀ dram, c ≠ .powerOnReset dram)
    (hr : ∀ cut, c ≠ .resetPin cut) (hg : c ≠ .transferGrant) : t.mem = s.mem := by
  by_cases hc : runningOnly c = true
  · obtain ⟨u, hu, ⟨_, hm, _⟩, _⟩ := exec_runningOnly c hc s
    cases hu.symm.trans h
    exact hm
  cases c with
  | powerOnReset dram => exact absurd rfl (hp dram)
  | resetPin cut => exact absurd rfl (hr cut)
  | transferGrant => exact absurd rfl hg
  | pcieLinkReset lost => cases h; rfl
  | load start =>
    cases (exec_load start s).symm.trans h
    split <;> simp
  | start =>
    cases (exec_start s).symm.trans h
    split <;> simp
  | stop load start => cases h; rfl
  | loadEnd =>
    rcases exec_loadEnd_cases s with g | ⟨_, g | ⟨code, index, g⟩⟩ <;> cases g.symm.trans h <;> simp
  | heldStart =>
    cases (exec_heldStart s).symm.trans h
    split <;> simp
  | causeClear w => cases h; rfl
  | causeEnableWrite w => cases h; rfl
  | areaBaseWrite w =>
    cases h
    unfold State.writeAreaBase
    split <;> simp
  | attend w => cases h; simp
  | resetReasonClear w => cases h; rfl
  | ignoredRegisterWrite offset w => cases h; rfl
  | bar2Access op =>
    cases op with
    | read addr len =>
      rw [execBar2Access_read] at h
      split at h <;> cases h
      simp
    | write addr data =>
      rw [execBar2Access_write] at h
      split at h <;> cases h
      simp
  | tileBuilt =>
    rcases exec_tileBuilt_cases s with g | ⟨kind, shadow, t, table, g⟩ | ⟨t, code, g⟩ <;> cases g.symm.trans h <;> simp
  | _ => exact absurd rfl hc

theorem exec_mem_wf {c : Instr} {s t : State} (hw : s.mem.wf = true) (h : exec c s = .next t) : t.mem.wf = true := by
  by_cases hp : ∃ dram, c = .powerOnReset dram
  · obtain ⟨dram, rfl⟩ := hp
    cases h
    exact Memory.ofCells_wf dram
  by_cases hr : ∃ cut, c = .resetPin cut
  · obtain ⟨cut, rfl⟩ := hr
    cases h
    cases cut with
    | none => exact hw
    | some mask => exact State.cutMemory_wf hw mask
  by_cases hg : c = .transferGrant
  · subst hg
    rw [exec_transferGrant] at h
    cases h
    cases s.port.choose with
    | none => exact hw
    | some r => exact State.grant_mem_wf hw r
  rw [exec_mem h (fun dram hd => hp ⟨dram, hd⟩) (fun cut hd => hr ⟨cut, hd⟩) hg]
  exact hw

/-- Settles O3: the resets and the grant write canonical memories, and nothing else writes frame memory. -/
theorem memoryStaysCanonical : Obligations.MemoryStaysCanonical := by
  intro s t hw h
  rcases step_cases h with rfl | ⟨c, rest, _, he⟩
  · exact hw
  · exact exec_mem_wf (s := s.withPending rest) hw he

end Sys2Proof.Machine
end

section
/-! R6 and R15 outside RUNNING (O8). -/

namespace Sys2Proof.Machine

open Sys2Proof

/-! ## The port's queues of one class when another class issues -/

@[simp] theorem State.issue_control_tile (s : State) (k : Fin 5) (ts : List Transfer) :
    (s.issue (.control k) ts).port.tile = s.port.tile := rfl
@[simp] theorem State.issue_control_capture (s : State) (k : Fin 5) (ts : List Transfer) :
    (s.issue (.control k) ts).port.capture = s.port.capture := rfl
@[simp] theorem State.setQueue_control_tile (s : State) (k : Fin 5) (ts : List Transfer) :
    (s.setQueue (.control k) ts).port.tile = s.port.tile := rfl
@[simp] theorem State.setQueue_control_capture (s : State) (k : Fin 5) (ts : List Transfer) :
    (s.setQueue (.control k) ts).port.capture = s.port.capture := rfl

/-! ## Quiet engines and inputs -/

/-- No tile output sends, no engine composes, and no tile or capture transfer waits (R6, R15). -/
def State.unitsQuiet (s : State) : Prop :=
  (∀ t : Fin 16, (s.engines[t]).output = .noSignal ∧ (s.engines[t]).composing = none ∧ s.port.tile[t] = []) ∧
    ∀ c : Fin 16, s.port.capture[c] = []

theorem State.quietOutsideRunning_iff (s : State) : s.quietOutsideRunning ↔ (s.control.part ≠ .running → s.unitsQuiet) :=
  Iff.rfl

/-- Quiet is a matter of the engines and of the tile and capture queues alone. -/
theorem State.unitsQuiet.congr {s t : State} (h : s.unitsQuiet) (he : t.engines = s.engines)
    (ht : t.port.tile = s.port.tile) (hc : t.port.capture = s.port.capture) : t.unitsQuiet := by
  simpa only [State.unitsQuiet, he, ht, hc] using h

theorem State.unitsQuiet.samePort {s t : State} (h : s.unitsQuiet) (he : t.engines = s.engines) (hp : t.port = s.port) :
    t.unitsQuiet := h.congr he (congrArg _ hp) (congrArg _ hp)

theorem State.unitsQuiet.issue {s : State} (h : s.unitsQuiet) (k : Fin 5) (ts : List Transfer) :
    (s.issue (.control k) ts).unitsQuiet := h.congr rfl rfl rfl

/-- Stopped engines with no transfer waiting are quiet. -/
theorem State.unitsQuiet.of_stopped {s : State} (he : ∀ t : Fin 16, ∃ late, s.engines[t] = TileEngine.stopped late)
    (ht : ∀ t : Fin 16, s.port.tile[t] = []) (hc : ∀ c : Fin 16, s.port.capture[c] = []) : s.unitsQuiet := by
  refine ⟨fun t => ?_, hc⟩
  obtain ⟨late, h⟩ := he t
  rw [h]
  exact ⟨rfl, rfl, ht t⟩

/-! ## The source unit and the view -/

/-- Engines that compose nothing take the view and issue nothing. -/
theorem State.unitsQuiet.tilesTakeView {s : State} (h : s.unitsQuiet) : s.tilesTakeView.unitsQuiet := by
  refine ⟨fun t => ?_, h.2⟩
  obtain ⟨ho, hc, hq⟩ := h.1 t
  have he : s.tilesTakeView.engines[t] = s.engines[t] := by
    simp only [State.tilesTakeView, State.withEngines_engines, mapBank_get, TileEngine.beginFetches, hc]
  have hp : s.tilesTakeView.port.tile[t] = s.port.tile[t] := by
    simp only [State.tilesTakeView, State.withEngines_port, State.withPort_port, mapBank_get, hc]
  rw [he, hp]
  exact ⟨ho, hc, hq⟩

theorem State.unitsQuiet.frameReady {s : State} (h : s.unitsQuiet) : s.frameReady.unitsQuiet :=
  h.tilesTakeView.congr (by simp [State.frameReady]) rfl rfl

theorem State.unitsQuiet.commitSources {s : State} (h : s.unitsQuiet) (items : List SourceItem) :
    (s.commitSources items).unitsQuiet := by
  have ht : (s.commitSources items).port.tile = s.port.tile := rfl
  refine ⟨by simpa only [State.commitSources_engines, ht] using h.1, fun c => ?_⟩
  simp only [State.commitSources, State.withPort_port, mapBank_get, h.2 c]
  split <;> rfl

@[simp] theorem State.frameSources_tile (s : State) : s.frameSources.port.tile = s.port.tile := rfl
@[simp] theorem State.frameSources_capture (s : State) : s.frameSources.port.capture = s.port.capture := rfl

theorem State.unitsQuiet.sourceStart {s : State} (h : s.unitsQuiet) (f : SourceFrame) : (s.sourceStart f).unitsQuiet := by
  refine (h.commitSources f.items).congr ?_ ?_ ?_ <;> simp [State.sourceStart]

theorem State.unitsQuiet.sourceRun (frames : List SourceFrame) {s : State} (h : s.unitsQuiet) :
    (State.sourceRun frames s).unitsQuiet := by
  induction frames generalizing s with
  | nil => exact h.samePort rfl rfl
  | cons f rest ih =>
    have hs : ((s.withSources { s.sources with frames := rest }).sourceStart f).unitsQuiet := by
      apply State.unitsQuiet.sourceStart
      exact h.samePort rfl rfl
    unfold State.sourceRun
    dsimp only
    split
    · split
      · split
        · exact hs.frameReady
        · exact ih hs
      · exact hs
    · exact h.samePort rfl rfl

theorem State.unitsQuiet.sourceAdvance {s : State} (h : s.unitsQuiet) : s.sourceAdvance.unitsQuiet := by
  unfold State.sourceAdvance
  split
  · exact h.sourceRun _
  · exact h

theorem State.unitsQuiet.handItems {s : State} (h : s.unitsQuiet) (items : List SourceItem) :
    (s.handItems items).unitsQuiet := by
  unfold State.handItems
  exact State.unitsQuiet.sourceAdvance (h.samePort rfl rfl)

/-! ## The ring processor -/

theorem State.unitsQuiet.lookIn {s : State} (h : s.unitsQuiet) (cause : LookCause) : (s.lookIn cause).unitsQuiet := by
  unfold State.lookIn
  split
  case h_4 | h_5 => exact h
  all_goals exact State.unitsQuiet.issue (s := s.withRing _) (h.samePort rfl rfl) _ _

theorem State.unitsQuiet.commitWith {s : State} (h : s.unitsQuiet) (n : Word) (found : List (Nat × Nat)) :
    (s.commitWith n found).unitsQuiet := by
  unfold State.commitWith
  apply State.unitsQuiet.handItems
  exact h.congr rfl rfl rfl

theorem State.unitsQuiet.ringTakesFrame {s : State} (h : s.unitsQuiet) (n : Word) : (s.ringTakesFrame n).unitsQuiet := by
  unfold State.ringTakesFrame
  split
  · exact (h.samePort (by simp) (by simp) : s.clearWork.1.unitsQuiet).commitWith n _
  · exact (h.lookIn _).handItems _

theorem State.unitsQuiet.takeLookEvent {s : State} (h : s.unitsQuiet) (ev : LookCause) : (s.takeLookEvent ev).unitsQuiet := by
  cases ev with
  | frame n => exact h.ringTakesFrame n
  | attend => exact h.lookIn _
  | atOnce => exact h.lookIn _

theorem State.unitsQuiet.takeKept {s : State} (h : s.unitsQuiet) (ev : LookCause) (more : Bool) :
    (s.takeKept ev more).unitsQuiet := by
  cases ev with
  | frame n =>
    unfold State.takeKept
    dsimp only
    have hf := h.takeLookEvent (.frame n)
    split
    · exact hf.samePort (by simp) (by simp)
    · exact hf.samePort (by simp) (by simp)
  | attend => exact h.takeLookEvent _
  | atOnce => exact h.takeLookEvent _

theorem State.unitsQuiet.serveKept (evs : List LookCause) {s : State} (h : s.unitsQuiet) :
    (State.serveKept evs s).unitsQuiet := by
  induction evs generalizing s with
  | nil => exact h.samePort rfl rfl
  | cons ev rest ih =>
    have ht : ((s.withRing { s.ring with kept := [] }).takeKept ev (rest.any LookCause.isFrame)).unitsQuiet := by
      apply State.unitsQuiet.takeKept
      exact h.samePort rfl rfl
    unfold State.serveKept
    dsimp only
    split
    · exact ih ht
    · exact ht.samePort rfl rfl

theorem State.unitsQuiet.abortGroup {s : State} (h : s.unitsQuiet) (extra : List Held) (code detail : Nat) (skip : Bool) :
    (s.abortGroup extra code detail skip).unitsQuiet := by
  unfold State.abortGroup State.settleLooks
  apply State.unitsQuiet.serveKept
  exact h.congr rfl rfl rfl

theorem State.unitsQuiet.failBuild {s : State} (h : s.unitsQuiet) (t : Fin 16) (code : Nat) :
    (s.failBuild t code).unitsQuiet := by
  have ha := State.unitsQuiet.abortGroup
    (s := s.withBuilder { s.builder with state := .idle, shadow := none, failed := satInc s.builder.failed })
    (h.samePort rfl rfl) [] resTooComplex (t.val + 256 * code) false
  unfold State.failBuild
  dsimp only
  split
  · exact ha
  · exact ha.samePort (by simp) (by simp)

/-! ## The grant -/

theorem roundRobin_none {n : Nat} (ptr : Fin n) {queues : Vector (List Transfer) n} (h : ∀ i : Fin n, queues[i] = []) :
    roundRobin ptr queues = none := by
  simp [roundRobin, List.find?_eq_none]
  intro i _
  exact h i

/-- With quiet units the port grants control requesters alone. -/
theorem State.unitsQuiet.choose {s : State} (h : s.unitsQuiet) :
    s.port.choose = (roundRobin s.port.controlPtr s.port.control).map .control := by
  unfold Port.choose
  rw [roundRobin_none _ fun t => (h.1 t).2.2, roundRobin_none _ h.2]

@[simp] theorem State.ringGranted_tile (s : State) (bytes : List Byte) : (s.ringGranted bytes).port.tile = s.port.tile := by
  unfold State.ringGranted
  dsimp only
  (repeat' split) <;> simp

@[simp] theorem State.ringGranted_capture (s : State) (bytes : List Byte) :
    (s.ringGranted bytes).port.capture = s.port.capture := by
  unfold State.ringGranted
  dsimp only
  (repeat' split) <;> simp

@[simp] theorem State.loadGranted_tile (s : State) (bytes : List Byte) : (s.loadGranted bytes).port.tile = s.port.tile := by
  unfold State.loadGranted
  dsimp only
  split <;> simp

@[simp] theorem State.loadGranted_capture (s : State) (bytes : List Byte) :
    (s.loadGranted bytes).port.capture = s.port.capture := by
  unfold State.loadGranted
  dsimp only
  split <;> simp

@[simp] theorem State.controlRead_tile (s : State) (k : Fin 5) (x : Transfer) (bytes : List Byte) :
    (s.controlRead k x bytes).port.tile = s.port.tile := by
  unfold State.controlRead
  (repeat' split) <;> simp

@[simp] theorem State.controlRead_capture (s : State) (k : Fin 5) (x : Transfer) (bytes : List Byte) :
    (s.controlRead k x bytes).port.capture = s.port.capture := by
  unfold State.controlRead
  (repeat' split) <;> simp

theorem State.unitsQuiet.respond_control {s : State} (h : s.unitsQuiet) (k : Fin 5) (x : Transfer) (bytes : List Byte) :
    (s.respond (.control k) x bytes).unitsQuiet := by
  unfold State.respond
  dsimp only
  split
  · exact h.congr (by simp) (by simp) (by simp)
  · exact h
  · exact h

theorem State.unitsQuiet.grant_control {s : State} (h : s.unitsQuiet) (k : Fin 5) : (s.grant (.control k)).unitsQuiet := by
  unfold State.grant
  split
  · exact h
  · apply State.unitsQuiet.respond_control
    exact h.congr rfl rfl rfl

theorem State.respond_part (s : State) (r : Requester) (x : Transfer) (bytes : List Byte) :
    (s.respond r x bytes).control.part = s.control.part := by
  unfold State.respond State.controlRead State.loadGranted
  dsimp only
  (repeat' split) <;> simp

theorem State.grant_part (s : State) (r : Requester) : (s.grant r).control.part = s.control.part := by
  unfold State.grant
  split
  · rfl
  · rw [State.respond_part]
    rfl

/-! ## Every step keeps the units quiet outside RUNNING (O8) -/

theorem State.unitsQuiet.unload {s t : State} (he : t.engines = s.unload.engines) (ht : t.port.tile = s.unload.port.tile)
    (hc : t.port.capture = s.unload.port.capture) : t.unitsQuiet := by
  refine State.unitsQuiet.congr (s := s.unload)
    (.of_stopped (fun k => ⟨(s.engines[k]).late, by simp [State.unload]⟩) (fun k => ?_) fun c => ?_) he ht hc
  · simp [State.unload, Port.withdrawWork]
  · simp [State.unload, Port.withdrawWork]

theorem State.reset_unitsQuiet {t : State} (he : t.engines = State.reset.engines) (hp : t.port = State.reset.port) :
    t.unitsQuiet :=
  State.unitsQuiet.samePort (s := State.reset)
    (.of_stopped (fun k => ⟨0, by simp [State.reset]⟩) (fun k => by simp [State.reset]) fun c => by simp [State.reset]) he hp

theorem exec_quiet {c : Instr} {s t : State} (hq : s.quietOutsideRunning) (h : exec c s = .next t) :
    t.quietOutsideRunning := by
  rw [State.quietOutsideRunning_iff] at hq ⊢
  intro hn
  by_cases hc : runningOnly c = true
  · obtain ⟨u, hu, ⟨hctl, _, _⟩, hidle⟩ := exec_runningOnly c hc s
    cases hu.symm.trans h
    rw [hctl] at hn
    rw [hidle (by simpa [State.running] using hn)]
    exact hq hn
  cases c with
  | powerOnReset dram => cases h; exact State.reset_unitsQuiet rfl rfl
  | resetPin cut => cases h; exact State.reset_unitsQuiet rfl rfl
  | pcieLinkReset lost => cases h; exact (hq hn).congr rfl rfl rfl
  | load start =>
    cases (exec_load start s).symm.trans h
    by_cases hl : s.canLoad = true
    · rw [if_pos hl]
      exact .unload (s := s) rfl rfl rfl
    · rw [if_neg hl] at hn ⊢
      exact (hq hn).samePort rfl rfl
  | start =>
    cases (exec_start s).symm.trans h
    by_cases hr : s.control.part = .ready
    · rw [if_pos hr] at hn
      exact absurd rfl hn
    · rw [if_neg hr] at hn ⊢
      exact (hq hn).samePort rfl rfl
  | stop load start => cases h; exact .unload (s := s) rfl rfl rfl
  | loadEnd =>
    rcases exec_loadEnd_cases s with g | ⟨hl, g | ⟨code, index, g⟩⟩ <;> cases g.symm.trans h
    · exact hq hn
    · have hs := hq (by simp [hl])
      exact .of_stopped (fun k => ⟨0, by simp [State.loadPassed]⟩) (fun k => (hs.1 k).2.2) hs.2
    · exact (hq (by simp [hl])).congr (by simp) rfl rfl
  | heldStart =>
    cases (exec_heldStart s).symm.trans h
    by_cases hr : s.control.part = .ready ∧ s.control.heldStart = true
    · rw [if_pos hr] at hn
      exact absurd rfl hn
    · rw [if_neg hr] at hn ⊢
      exact hq hn
  | causeClear w => cases h; exact (hq hn).samePort rfl rfl
  | causeEnableWrite w => cases h; exact (hq hn).samePort rfl rfl
  | areaBaseWrite w =>
    cases h
    unfold State.writeAreaBase at hn ⊢
    by_cases hh : s.control.part = .halted
    · rw [if_pos hh] at hn ⊢
      exact (hq hn).samePort rfl rfl
    · rw [if_neg hh] at hn ⊢
      exact (hq hn).samePort rfl rfl
  | attend w =>
    cases h
    have hs : s.running = false := by simpa [State.running] using hn
    have ht : s.writeAttend = s.refuse := by simp [State.writeAttend, hs]
    rw [ht] at hn ⊢
    exact (hq hn).samePort rfl rfl
  | resetReasonClear w => cases h; exact (hq hn).samePort rfl rfl
  | ignoredRegisterWrite offset w => cases h; exact hq hn
  | bar2Access op =>
    cases op with
    | read addr len =>
      rw [execBar2Access_read] at h
      split at h <;> cases h
      exact (hq hn).issue _ _
    | write addr data =>
      rw [execBar2Access_write] at h
      split at h <;> cases h
      exact (hq hn).issue _ _
  | transferGrant =>
    cases (exec_transferGrant s).symm.trans h
    have hs : s.unitsQuiet := hq (by split at hn <;> simpa [State.grant_part] using hn)
    rw [hs.choose]
    cases roundRobin s.port.controlPtr s.port.control with
    | none => exact hs
    | some k => exact hs.grant_control k
  | tileBuilt =>
    rcases exec_tileBuilt_cases s with g | ⟨kind, shadow, k, table, g⟩ | ⟨k, code, g⟩ <;> cases g.symm.trans h
    · exact hq hn
    · exact (hq (by simpa using hn)).samePort (by simp) (by simp)
    · exact (hq (by simpa using hn)).failBuild k code
  | _ => exact absurd rfl hc

/-- Settles O8: a command that only a RUNNING part acts on keeps the part state, and each other one keeps quiet units quiet or
makes them so. -/
theorem outputsQuietOutsideRunning : Obligations.OutputsQuietOutsideRunning := by
  intro s t hq h
  rcases step_cases h with rfl | ⟨c, rest, _, he⟩
  · exact hq
  · exact exec_quiet (s := s.withPending rest) hq he

end Sys2Proof.Machine
end

section
/-! Tile engines: the line start (O41) and the composed row (O42). -/

namespace Sys2Proof.Machine

open Sys2Proof

/-! ## The line start (R12 to R14) -/

/-- An engine as it begins a row, or none when the row is not below the tile's height. -/
def TileEngine.withRow (e : TileEngine) (height row : Nat) (begun into : Bool) : TileEngine :=
  if row < height then { e with into := into, composing := some (Composing.begin row begun) }
  else { e with composing := none }

/-- All that beginning a row changes: the engine, and its own transfers at the port. -/
theorem State.beginRow_eq (s : State) (k : Fin 16) (e : TileEngine) (row : Nat) (into : Bool) :
    s.beginRow k e row into =
      { s with
        engines := vset s.engines k (e.withRow (s.tile k).height row s.view.isSome into)
        port := s.port.setQueue (.tile k) (if row < (s.tile k).height then s.firstFetches k row else []) } := by
  unfold State.beginRow TileEngine.withRow
  split <;> rfl

/-- A row begun leaves the line buffer, the output, the line sent last and the counter as they are. -/
theorem TileEngine.withRow_keeps (e : TileEngine) (height row : Nat) (begun into : Bool) :
    (e.withRow height row begun into).output = e.output ∧ (e.withRow height row begun into).sending = e.sending ∧
      (e.withRow height row begun into).late = e.late ∧ (e.withRow height row begun into).line0 = e.line0 ∧
      (e.withRow height row begun into).line1 = e.line1 := by
  unfold TileEngine.withRow
  split <;> exact ⟨rfl, rfl, rfl, rfl, rfl⟩

theorem TileEngine.withRow_composing (e : TileEngine) (height row : Nat) (begun into : Bool) :
    (e.withRow height row begun into).composing = if row < height then some ⟨row, begun, false, []⟩ else none := by
  unfold TileEngine.withRow Composing.begin
  split <;> rfl

theorem TileEngine.withRow_into (e : TileEngine) (height row : Nat) (begun into : Bool) :
    (e.withRow height row begun into).into = if row < height then into else e.into := by
  unfold TileEngine.withRow
  split <;> rfl

/-- The fetches with which a row begins: none before the view is formed (R63), and none past the tile's height. -/
theorem State.firstFetches_below (s : State) (k : Fin 16) (row : Nat) :
    (if row < (s.tile k).height then s.firstFetches k row else []) =
      (match s.view with
        | some v => if row < (s.tile k).height then rowFetches s v k row else []
        | none => []) := by
  unfold State.firstFetches
  cases s.view <;> simp

/-- The engine of a late row before the next one begins (R13, R14). -/
def State.lateEngine (s : State) (k : Fin 16) (c : Composing) (e : TileEngine) : TileEngine :=
  { e with
    output := if c.row = 0 then .line (s.backgroundLine k) else e.output
    sending := if c.row = 0 then none else e.sending
    late := satInc e.late }

/-- The engine of a finished row as it sends it, before the next one begins (R12). -/
def TileEngine.sends (e : TileEngine) : TileEngine := { e with output := .line (e.line e.into), sending := some e.into }

theorem exec_lineStart_finished {s : State} {k : Fin 16} {c : Composing} (hr : s.control.part = .running)
    (he : (s.tile k).enable = true) (hc : (s.engines[k]).composing = some c) (hf : c.finished = true) :
    exec (.lineStart k) s = .next (s.beginRow k (s.engines[k]).sends (c.row + 1) (!(s.engines[k]).into)) := by
  simp only [Fin.getElem_fin] at hc
  simp [exec, execLineStart, State.lineStart, State.running, hr, he, hc, hf, TileEngine.sends]

theorem exec_lineStart_late {s : State} {k : Fin 16} {c : Composing} (hr : s.control.part = .running)
    (he : (s.tile k).enable = true) (hc : (s.engines[k]).composing = some c) (hf : c.finished = false) :
    exec (.lineStart k) s =
      .next ((s.beginRow k (s.lateEngine k c s.engines[k]) (c.row + 1) (s.engines[k]).into).raise causeLateLine) := by
  simp only [Fin.getElem_fin] at hc
  simp [exec, execLineStart, State.lineStart, State.running, hr, he, hc, hf, State.lateEngine]

/-- Settles O41: a finished row and a late one in turn, each by what beginning a row changes. -/
theorem lineStartSendsOrIsLate : Obligations.LineStartSendsOrIsLate := by
  intro s k c e hr he hc
  have hothers (f : TileEngine) (j : Fin 16) (hj : j ≠ k) : (vset s.engines k f)[j] = s.engines[j] := vset_get_of_ne _ _ hj
  by_cases hf : c.finished = true
  · refine ⟨_, exec_lineStart_finished hr he hc hf, ?_⟩
    obtain ⟨ho, hs, hl, h0, h1⟩ :=
      (s.engines[k]).sends.withRow_keeps (s.tile k).height (c.row + 1) s.view.isSome (!(s.engines[k]).into)
    rw [State.beginRow_eq, State.firstFetches_below, if_pos hf]
    rw [vset_get]
    refine ⟨hothers _, TileEngine.withRow_composing .., rfl, ⟨ho, hs, hl, fun hlt => ?_, rfl⟩, h0, h1⟩
    rw [TileEngine.withRow_into, if_pos hlt]
  · have hf' : c.finished = false := by simpa using hf
    refine ⟨_, exec_lineStart_late hr he hc hf', ?_⟩
    obtain ⟨ho, hs, hl, h0, h1⟩ :=
      (s.lateEngine k c s.engines[k]).withRow_keeps (s.tile k).height (c.row + 1) s.view.isSome (s.engines[k]).into
    rw [State.raise_eq, State.beginRow_eq, State.firstFetches_below, if_neg hf]
    rw [vset_get]
    refine ⟨hothers _, TileEngine.withRow_composing .., rfl, ⟨ho, hs, hl, ?_, rfl⟩, h0, h1⟩
    rw [TileEngine.withRow_into]
    split <;> rfl

/-! ## The composed row (R9, R10, R12) -/

theorem exec_rowComposed {s : State} {k : Fin 16} {c : Composing} {v : FrameView} (hr : s.control.part = .running)
    (hc : (s.engines[k]).composing = some c) (hb : c.begun = true) (hf : c.finished = false) (hv : s.view = some v)
    (hq : s.port.queue (.tile k) = []) :
    exec (.rowComposed k) s =
      .next (s.setEngine k
        { ((s.engines[k]).setLine (s.engines[k]).into (composeRow s v k c.fetched c.row)) with
          composing := some { c with finished := true } }) := by
  simp only [Fin.getElem_fin] at hc
  simp [exec, execRowComposed, State.rowComposed, State.running, hr, hc, hb, hf, hv, hq]

/-- The samples of a window, or none where its source shows nothing, where no scaler state is formed, or where its crop lies
outside the frame (R10). -/
theorem FrameView.sampled_colour (v : FrameView) (id : Fin 64) (w : WindowRec) (fill : Colour)
    (colour : Scaler → Axis → Axis → Colour) :
    (match v.sampled id w with
      | none => fill
      | some (sc, h, vt) => colour sc h vt) =
      (match v.scaler id with
        | none => fill
        | some sc =>
          match sc.axes with
          | none => fill
          | some (h, vt) => if sourcePresentation v.presentations w.source = .none then fill else colour sc h vt) := by
  unfold FrameView.sampled
  cases sourcePresentation v.presentations w.source <;> cases v.scaler id with
  | none => rfl
  | some sc => cases h : sc.axes <;> simp [h]

/-- Settles O42: the row is composed span by span into the line in hand, and the colour of a column is that of its span. -/
theorem rowComposedFillsTheLine : Obligations.RowComposedFillsTheLine := by
  intro s k c v e hr hc hb hf hv hq
  refine ⟨_, exec_rowComposed hr hc hb hf hv hq, fun j hj => vset_get_of_ne _ _ hj, ?_, ?_, rfl⟩
  · simp only [State.setEngine, State.withEngines_engines, vset_get, TileEngine.setLine]
    cases (s.engines[k]).into <;> simp [e]
  · have hline : ∀ px : List Colour,
        (if e.into then (e.setLine e.into px).line1 else (e.setLine e.into px).line0) = px := by
      intro px
      unfold TileEngine.setLine
      cases e.into <;> rfl
    simp only [State.setEngine, State.withEngines_engines, vset_get]
    refine (hline _).trans ?_
    unfold composeRow
    congr 1
    funext p
    congr 1
    funext n
    unfold spanColour
    cases p.1.kind with
    | background => rfl
    | border id => rfl
    | image id =>
      dsimp only
      cases s.live.records[id] with
      | none => rfl
      | some w => exact v.sampled_colour id w _ _

end Sys2Proof.Machine
end

section
/-! A BAR 2 access becomes transfers of the PCIe endpoint (O32). -/

namespace Sys2Proof.Machine

open Sys2Proof

/-! ## The pieces of an area (R15) -/

/-- Every piece has a byte, lies in one aligned block of 256, and begins no earlier than the area. -/
theorem pieces_within {fuel addr len : Nat} {p : Nat × Nat} (h : p ∈ pieces fuel addr len) :
    1 ≤ p.2 ∧ p.1 % 256 + p.2 ≤ 256 ∧ addr ≤ p.1 ∧ p.1 + p.2 ≤ addr + len := by
  induction fuel generalizing addr len with
  | zero => simp [pieces] at h
  | succ fuel ih =>
    simp only [pieces, Config.blockSize] at h
    split at h
    · simp at h
    · rcases List.mem_cons.mp h with rfl | h
      · dsimp only
        omega
      · have := ih h
        omega

/-- Pieces of an area of whole words are whole words. -/
theorem pieces_words {fuel addr len : Nat} {p : Nat × Nat} (ha : addr % 4 = 0) (hl : len % 4 = 0)
    (h : p ∈ pieces fuel addr len) : p.1 % 4 = 0 ∧ p.2 % 4 = 0 := by
  induction fuel generalizing addr len with
  | zero => simp [pieces] at h
  | succ fuel ih =>
    simp only [pieces, Config.blockSize] at h
    split at h
    · simp at h
    · rcases List.mem_cons.mp h with rfl | h
      · dsimp only
        omega
      · exact ih (by omega) (by omega) h

/-- With enough fuel the pieces cover the area once, in ascending order. -/
theorem pieces_cover (fuel addr len : Nat) (h : len = 0 ∨ len + addr % 256 ≤ 256 * fuel) :
    ((pieces fuel addr len).flatMap fun p => List.range' p.1 p.2) = List.range' addr len := by
  induction fuel generalizing addr len with
  | zero =>
    have : len = 0 := by omega
    simp [pieces, this]
  | succ fuel ih =>
    simp only [pieces, Config.blockSize]
    split
    · simp [*]
    · rw [List.flatMap_cons, ih _ _ (by omega), List.range'_append_1]
      congr 1
      omega

/-- The pieces of an area cover it once, in ascending order. -/
theorem areaPieces_cover (addr len : Nat) :
    ((areaPieces addr len).flatMap fun p => List.range' p.1 p.2) = List.range' addr len := by
  apply pieces_cover
  rw [Config.blockSize]
  omega

/-! ## The words of an access -/

theorem wordPieces_mem {addr len : Nat} {p : Nat × Nat} (h : p ∈ wordPieces addr len) :
    p.1 % 4 = 0 ∧ p.2 % 4 = 0 ∧ 4 ≤ p.2 ∧ p.1 % 256 + p.2 ≤ 256 ∧ addr ≤ p.1 + 3 ∧ p.1 < addr + len := by
  unfold wordPieces at h
  split at h
  · simp at h
  · obtain ⟨h1, h2, h3, h4⟩ := pieces_within h
    obtain ⟨w1, w2⟩ := pieces_words (by omega) (by omega) h
    omega

/-- A run of addresses cut at the two ends of a run inside it. -/
theorem range'_around {base size addr len : Nat} (hlo : base ≤ addr) (hhi : addr + len ≤ base + size) :
    List.range' base size =
      List.range' base (addr - base) ++ List.range' addr len ++ List.range' (addr + len) (base + size - (addr + len)) := by
  obtain ⟨k, rfl⟩ := Nat.exists_eq_add_of_le hlo
  rw [Nat.add_sub_cancel_left, List.range'_append_1, Nat.add_assoc, List.range'_append_1]
  congr 1
  omega

/-- The words of an access hold its bytes and, apart from them, only bytes outside it. -/
theorem wordPieces_cover (addr len : Nat) :
    ∃ before after, ((wordPieces addr len).flatMap fun p => List.range' p.1 p.2) =
        before ++ List.range' addr len ++ after ∧
      (∀ a ∈ before, a < addr) ∧ ∀ a ∈ after, addr + len ≤ a := by
  unfold wordPieces
  split
  · rename_i h
    exact ⟨[], [], by simp [h], by simp, by simp⟩
  · refine ⟨_, _, (areaPieces_cover _ _).trans (range'_around (addr := addr) (len := len) ?_ ?_), fun a ha => ?_,
      fun a ha => ?_⟩
    · omega
    · omega
    · rw [List.mem_range'_1] at ha
      omega
    · rw [List.mem_range'_1] at ha
      omega

/-- What a test keeps of the words of an access, when it keeps nothing outside the access. -/
theorem wordPieces_filterMap {α : Type} {addr len : Nat} {f : Nat → Option α}
    (hf : ∀ a, a < addr ∨ addr + len ≤ a → f a = none) :
    ((wordPieces addr len).flatMap fun p => (List.range' p.1 p.2).filterMap f) = (List.range' addr len).filterMap f := by
  obtain ⟨before, after, hcover, hb, ha⟩ := wordPieces_cover addr len
  have hb' : before.filterMap f = [] := List.filterMap_eq_nil_iff.mpr fun a h => hf a (.inl (hb a h))
  have ha' : after.filterMap f = [] := List.filterMap_eq_nil_iff.mpr fun a h => hf a (.inr (ha a h))
  rw [← List.filterMap_flatMap, hcover, List.filterMap_append, List.filterMap_append, hb', ha', List.nil_append,
    List.append_nil]

/-! ## Reads -/

/-- An address inside an access, as it is. -/
def insideAccess (addr len a : Nat) : Option Nat := if addr ≤ a ∧ a < addr + len then some a else none

theorem insideAccess_outside {addr len a : Nat} (h : a < addr ∨ addr + len ≤ a) : insideAccess addr len a = none :=
  if_neg (by omega)

/-- Addresses that all lie inside an access are all kept. -/
theorem filterMap_insideAccess {addr len : Nat} {xs : List Nat} (h : ∀ a ∈ xs, addr ≤ a ∧ a < addr + len) :
    xs.filterMap (insideAccess addr len) = xs := by
  have hsome : ∀ a ∈ xs, insideAccess addr len a = some a := fun a ha => if_pos (h a ha)
  rw [List.filterMap_congr hsome, List.filterMap_some]

/-- Of a run, the part inside an access that begins before it ends and ends after it begins. -/
theorem range'_inside {base size addr len : Nat} (hlo : addr < base + size) (hhi : base < addr + len) :
    ((List.range' base size).filterMap (insideAccess addr len)) =
      List.range' (max base addr) (min (base + size) (addr + len) - max base addr) := by
  rw [range'_around (addr := max base addr) (len := min (base + size) (addr + len) - max base addr) (by omega) (by omega),
    List.filterMap_append, List.filterMap_append]
  have hbefore : (List.range' base (max base addr - base)).filterMap (insideAccess addr len) = [] := by
    refine List.filterMap_eq_nil_iff.mpr fun a ha => insideAccess_outside ?_
    have := List.mem_range'_1.mp ha
    omega
  have hafter (n : Nat) (hn : max base addr + (min (base + size) (addr + len) - max base addr) + n ≤ base + size) :
      (List.range' (max base addr + (min (base + size) (addr + len) - max base addr)) n).filterMap
        (insideAccess addr len) = [] := by
    refine List.filterMap_eq_nil_iff.mpr fun a ha => insideAccess_outside ?_
    have := List.mem_range'_1.mp ha
    omega
  rw [hbefore, hafter _ (by omega), filterMap_insideAccess, List.nil_append, List.append_nil]
  intro a ha
  have := List.mem_range'_1.mp ha
  omega

/-- A transfer of a BAR 2 read, for one piece of the words of the access. -/
def bar2Read (addr len : Nat) (p : Nat × Nat) : Transfer :=
  ⟨p.1, .read p.2, (addr - p.1) + 4 * (min (p.1 + p.2) (addr + len) - (p.1 + (addr - p.1)))⟩

theorem bar2Reads_eq (addr len : Nat) : bar2Reads addr len = (wordPieces addr len).map (bar2Read addr len) := rfl

theorem bar2Read_addresses (addr len : Nat) (p : Nat × Nat) : (bar2Read addr len p).addresses = List.range' p.1 p.2 :=
  List.range'_eq_map_range.symm

/-- The bytes of a piece that the access asked for are those inside it. -/
theorem bar2Read_addressed {addr len : Nat} {p : Nat × Nat} (h : p ∈ wordPieces addr len) :
    (bar2Read addr len p).addressed (bar2Read addr len p).addresses =
      (List.range' p.1 p.2).filterMap (insideAccess addr len) := by
  obtain ⟨_, _, h4, _, hlo, hhi⟩ := wordPieces_mem h
  rw [bar2Read_addresses, range'_inside (by omega) hhi]
  simp only [Transfer.addressed, bar2Read, List.drop_range']
  rw [List.take_range'_of_length_ge (by omega)]
  congr 1 <;> omega

theorem bar2Reads_addressed (addr len : Nat) :
    ((bar2Reads addr len).flatMap fun x => x.addressed x.addresses) = (List.range len).map (addr + ·) := by
  rw [bar2Reads_eq, List.flatMap_map, List.flatMap_congr fun p hp => bar2Read_addressed hp,
    wordPieces_filterMap fun a ha => insideAccess_outside ha, ← List.range'_eq_map_range]
  exact filterMap_insideAccess fun a ha => List.mem_range'_1.mp ha

/-! ## Writes -/

/-- A transfer of a BAR 2 write, for one piece of the words of the access. -/
def bar2Write (addr : Nat) (data : List Byte) (p : Nat × Nat) : Transfer :=
  ⟨p.1, .merge ((List.range p.2).map fun k => bar2Byte addr data (p.1 + k)), 0⟩

theorem bar2Writes_eq (addr : Nat) (data : List Byte) :
    bar2Writes addr data = (wordPieces addr data.length).map (bar2Write addr data) := rfl

/-- The byte that a write brings to an address, with the address. -/
def bar2Store (addr : Nat) (data : List Byte) (a : Nat) : Option (Byte × Nat) := (bar2Byte addr data a).map fun b => (b, a)

theorem bar2Store_outside {addr : Nat} {data : List Byte} {a : Nat} (h : a < addr ∨ addr + data.length ≤ a) :
    bar2Store addr data a = none := by
  unfold bar2Store bar2Byte
  split
  · rw [List.getElem?_eq_none (by omega)]
    rfl
  · rfl

/-- Inside the access a write brings its data, in order. -/
theorem bar2Store_inside (addr : Nat) (data : List Byte) :
    (List.range' addr data.length).filterMap (bar2Store addr data) = data.zipIdx addr := by
  induction data generalizing addr with
  | nil => rfl
  | cons b rest ih =>
    have hfirst : bar2Store addr (b :: rest) addr = some (b, addr) := by simp [bar2Store, bar2Byte]
    have hrest : ∀ a ∈ List.range' (addr + 1) rest.length, bar2Store addr (b :: rest) a = bar2Store (addr + 1) rest a := by
      intro a ha
      have hle := (List.mem_range'_1.mp ha).1
      simp only [bar2Store, bar2Byte, if_pos hle, if_pos (show addr ≤ a by omega)]
      rw [show a - addr = a - (addr + 1) + 1 by omega, List.getElem?_cons_succ]
    rw [List.length_cons, List.range'_succ, List.filterMap_cons, hfirst, List.filterMap_congr hrest, ih]
    rfl

/-- What a piece of a write stores, with the addresses. -/
theorem bar2Write_stores (addr : Nat) (data : List Byte) (p : Nat × Nat) :
    (((bar2Write addr data p).stores.zipIdx (bar2Write addr data p).addr).filterMap fun q => q.1.map fun b => (b, q.2)) =
      (List.range' p.1 p.2).filterMap (bar2Store addr data) := by
  have hz : ∀ (n a : Nat), ((List.range n).map fun k => bar2Byte addr data (a + k)).zipIdx a =
      (List.range' a n).map fun k => (bar2Byte addr data k, k) := by
    intro n a
    rw [List.range'_eq_map_range, List.zipIdx_eq_zip_range', List.length_map, List.length_range, List.range'_eq_map_range,
      List.zip_map', List.map_map]
    rfl
  simp only [Transfer.stores, bar2Write]
  rw [hz, List.filterMap_map]
  rfl

theorem bar2Writes_stores (addr : Nat) (data : List Byte) :
    ((bar2Writes addr data).flatMap fun x => (x.stores.zipIdx x.addr).filterMap fun p => p.1.map fun b => (b, p.2)) =
      data.zipIdx addr := by
  rw [bar2Writes_eq, List.flatMap_map, List.flatMap_congr fun p _ => bar2Write_stores addr data p,
    wordPieces_filterMap fun a ha => bar2Store_outside ha, bar2Store_inside]

/-! ## The statement -/

/-- Transfers of one piece of the words of an access each lie within blocks (R15). -/
theorem wordPieces_withinBlocks {addr len : Nat} {transfer : Nat × Nat → Transfer}
    (hx : ∀ p, (transfer p).addr = p.1 ∧ (transfer p).addresses.length = p.2) :
    allWithinBlocks ((wordPieces addr len).map transfer) := by
  intro x hm
  obtain ⟨p, hp, rfl⟩ := List.mem_map.mp hm
  obtain ⟨_, _, h4, hb, _, _⟩ := wordPieces_mem hp
  rw [(hx p).1, (hx p).2]
  omega

/-- Settles O32: the pieces of the words of the access, each as a read or as a write with byte enables. -/
theorem bar2AccessBecomesTransfers : Obligations.Bar2AccessBecomesTransfers := by
  intro s addr
  refine ⟨fun len hin => ⟨bar2Reads addr len, ?_, ?_, ?_, bar2Reads_addressed addr len⟩,
    fun data hin => ⟨bar2Writes addr data, ?_, ?_, ?_, bar2Writes_stores addr data⟩⟩
  · rw [execBar2Access_read, if_pos hin]
    rfl
  · exact wordPieces_withinBlocks (transfer := bar2Read addr len) fun p =>
      ⟨rfl, by rw [bar2Read_addresses, List.length_range']⟩
  · intro x hx
    obtain ⟨p, hp, rfl⟩ := List.mem_map.mp hx
    obtain ⟨w1, w2, _⟩ := wordPieces_mem hp
    exact ⟨p.2, rfl, w1, w2⟩
  · rw [execBar2Access_write, if_pos hin]
    rfl
  · exact wordPieces_withinBlocks fun p => ⟨rfl, by simp [Transfer.addresses]⟩
  · intro x hx
    obtain ⟨p, hp, rfl⟩ := List.mem_map.mp hx
    obtain ⟨w1, w2, _⟩ := wordPieces_mem hp
    exact ⟨_, rfl, w1, by simpa using w2⟩

end Sys2Proof.Machine
end

section
/-! A row composed from its fetches shows frame memory (O43). -/

namespace Sys2Proof.Machine

open Sys2Proof

/-! ## Bytes fetched from frame memory -/

/-- Every cell holds what frame memory holds at its address. -/
def cellsAgree (cells : List Host.Cell) (m : Memory) : Prop := ∀ c ∈ cells, c.2 = m.read c.1

/-- A listed address of cells that agree with frame memory reads as frame memory does. -/
theorem cellsAgree.read {cells : List Host.Cell} {m : Memory} (h : cellsAgree cells m) {a : Nat}
    (ha : a ∈ cells.map Prod.fst) : Memory.read cells a = m.read a := by
  induction cells with
  | nil => simp at ha
  | cons c rest ih =>
    obtain ⟨k, v⟩ := c
    have hk : v = m.read k := h (k, v) (List.mem_cons_self ..)
    rw [Memory.read]
    split
    · rename_i he
      rw [hk, he]
    · rename_i hne
      refine ih (fun c hc => h c (List.mem_cons_of_mem _ hc)) ?_
      rw [List.map_cons, List.mem_cons] at ha
      exact ha.resolve_left (Ne.symm hne)

theorem cellsFrom_readBytes (m : Memory) (a n : Nat) :
    cellsFrom a (m.readBytes a n) = (List.range' a n).map fun k => (k, m.read k) := by
  induction n generalizing a with
  | zero => rfl
  | succ n ih => rw [Memory.readBytes, cellsFrom, ih, List.range'_succ, List.map_cons]

/-- The cells that a fetch brings from a frame memory. -/
def Transfer.cells (x : Transfer) (m : Memory) : List Host.Cell := cellsFrom x.addr (x.returned m)

theorem Transfer.cells_agree (x : Transfer) (m : Memory) : cellsAgree (x.cells m) m := by
  intro c hc
  unfold Transfer.cells Transfer.returned at hc
  split at hc
  · rw [cellsFrom_readBytes] at hc
    obtain ⟨k, _, rfl⟩ := List.mem_map.mp hc
    rfl
  all_goals simp [cellsFrom] at hc

/-- The fetches of an area list every address of it. -/
theorem readTransfers_cells {base len tag a : Nat} (m : Memory) (ha : a ∈ List.range' base len) :
    ∃ x ∈ readTransfers base len tag, a ∈ (x.cells m).map Prod.fst := by
  rw [← areaPieces_cover, List.mem_flatMap] at ha
  obtain ⟨p, hp, hap⟩ := ha
  refine ⟨⟨p.1, .read p.2, tag⟩, List.mem_map.mpr ⟨p, hp, rfl⟩, ?_⟩
  simp only [Transfer.cells, Transfer.returned, cellsFrom_readBytes, List.map_map]
  exact List.mem_map.mpr ⟨a, hap, rfl⟩

/-! ## The fetches of a span -/

theorem foldl_min_le {ks : List Nat} {k x : Nat} (h : x ∈ k :: ks) : ks.foldl min k ≤ x := by
  induction ks generalizing k x with
  | nil => simp_all
  | cons q ks ih =>
    have hstart : ks.foldl min (min k q) ≤ min k q := ih (List.mem_cons_self ..)
    rw [List.foldl_cons]
    rcases List.mem_cons.mp h with rfl | h
    · omega
    · rcases List.mem_cons.mp h with rfl | h
      · omega
      · exact ih (List.mem_cons_of_mem _ h)

theorem le_foldl_max {ks : List Nat} {k x : Nat} (h : x ∈ k :: ks) : x ≤ ks.foldl max k := by
  induction ks generalizing k x with
  | nil => simp_all
  | cons q ks ih =>
    have hstart : max k q ≤ ks.foldl max (max k q) := ih (List.mem_cons_self ..)
    rw [List.foldl_cons]
    rcases List.mem_cons.mp h with rfl | h
    · omega
    · rcases List.mem_cons.mp h with rfl | h
      · omega
      · exact ih (List.mem_cons_of_mem _ h)

/-- The run of a source row holds the bytes of every pixel that a column needs. -/
theorem runFetches_cells {sc : Scaler} {columns : List Nat} {row span k b : Nat} (m : Memory) (hk : k ∈ columns)
    (hb : b < 4) :
    ∃ x ∈ runFetches sc columns row span, pixelAddr sc.base sc.wf k row + b ∈ (x.cells m).map Prod.fst := by
  cases columns with
  | nil => simp at hk
  | cons q ks =>
    apply readTransfers_cells
    have hlo := foldl_min_le hk
    have hhi := le_foldl_max hk
    rw [List.mem_range'_1]
    unfold pixelAddr
    omega

theorem runFetches_tag {sc : Scaler} {columns : List Nat} {row span : Nat} {x : Transfer}
    (hx : x ∈ runFetches sc columns row span) : x.tag = span := by
  cases columns with
  | nil => simp [runFetches] at hx
  | cons q ks =>
    obtain ⟨p, _, rfl⟩ := List.mem_map.mp hx
    rfl

/-- The fetches of a span carry its number. -/
theorem spanFetches_tag {s : State} {v : FrameView} {t : Fin 16} {r : Nat} {sp : Span} {span : Nat} {x : Transfer}
    (hx : x ∈ spanFetches s v t r sp span) : x.tag = span := by
  unfold spanFetches at hx
  split at hx
  · simp at hx
  · simp at hx
  · split at hx
    · simp at hx
    · split at hx
      · simp at hx
      · obtain ⟨m, _, hm⟩ := List.mem_flatMap.mp hx
        exact runFetches_tag hm

/-- The fetches of an IMAGE span that shows samples: a run for each source row it needs. -/
theorem spanFetches_image {s : State} {v : FrameView} {t : Fin 16} {r : Nat} {sp : Span} {span : Nat} {id : Fin 64}
    {w : WindowRec} {sc : Scaler} {h vt : Axis} (hk : sp.kind = .image id) (hw : s.live.records[id] = some w)
    (hs : v.sampled id w = some (sc, h, vt)) :
    spanFetches s v t r sp span =
      (vt.needed (interiorRow (s.tile t) w r)).flatMap fun m =>
        runFetches sc ((List.range sp.len).flatMap fun k => h.needed (interiorColumn (s.tile t) w (sp.start + k))) m span := by
  simp only [Fin.getElem_fin] at hw
  simp [spanFetches, hk, hw, hs]

/-! ## The cells of a span -/

/-- What the fetches of a row bring from a frame memory, each with the number of its span. -/
def broughtBy (xs : List Transfer) (m : Memory) : List (Nat × List Host.Cell) := xs.map fun x => (x.tag, x.cells m)

theorem broughtBy_agree (xs : List Transfer) (m : Memory) (span : Nat) : cellsAgree (cellsOf (broughtBy xs m) span) m := by
  intro c hc
  obtain ⟨p, hp, hcp⟩ := List.mem_flatMap.mp hc
  obtain ⟨x, _, rfl⟩ := List.mem_map.mp (List.mem_filter.mp hp).1
  exact x.cells_agree m c hcp

/-- An address that a fetch of a span lists is listed among the cells of the span. -/
theorem broughtBy_lists {xs : List Transfer} {x : Transfer} {m : Memory} {span a : Nat} (hx : x ∈ xs) (ht : x.tag = span)
    (ha : a ∈ (x.cells m).map Prod.fst) : a ∈ (cellsOf (broughtBy xs m) span).map Prod.fst := by
  obtain ⟨c, hc, rfl⟩ := List.mem_map.mp ha
  refine List.mem_map.mpr ⟨c, List.mem_flatMap.mpr ⟨(x.tag, x.cells m), ?_, hc⟩, rfl⟩
  exact List.mem_filter.mpr ⟨List.mem_map.mpr ⟨x, hx, rfl⟩, by simpa using ht⟩

theorem fetchedPixel_eq {cells : List Host.Cell} {m : Memory} (h : cellsAgree cells m) {a : Nat}
    (ha : ∀ b < 4, a + b ∈ cells.map Prod.fst) : fetchedPixel cells a = fetchedPixel m a := by
  unfold fetchedPixel
  rw [h.read (a := a) (ha 0 (by omega)), h.read (ha 1 (by omega)), h.read (ha 2 (by omega))]

/-! ## A sample needs the pixels of R77 alone -/

theorem rowResult_congr {p q : Nat → Nat → Colour} {h : Axis} {i m : Nat} (hpq : ∀ k ∈ h.needed i, p k m = q k m) :
    rowResult p h i m = rowResult q h i m := by
  unfold rowResult
  unfold Axis.needed at hpq
  dsimp only at hpq ⊢
  split
  · rw [hpq _ (by simp [*])]
  · rw [hpq _ (by simp [*]), hpq (h.neighbour _) (by simp [*])]

/-- Two pictures that agree on the pixels that a column and a row need give the same sample. -/
theorem sample_congr {p q : Nat → Nat → Colour} {h v : Axis} {i j : Nat}
    (hpq : ∀ k ∈ h.needed i, ∀ m ∈ v.needed j, p k m = q k m) : sample p h v i j = sample q h v i j := by
  have hrow : ∀ m ∈ v.needed j, rowResult p h i m = rowResult q h i m :=
    fun m hm => rowResult_congr fun k hk => hpq k hk m hm
  unfold Axis.needed at hrow
  unfold sample
  dsimp only at hrow ⊢
  split
  · rw [hrow _ (by simp [*])]
  · rw [hrow _ (by simp [*]), hrow (v.neighbour _) (by simp [*])]

/-! ## The colours of a span -/

/-- The colour of a column of a span is the same from cells that agree with frame memory and list what its fetches list. -/
theorem spanColour_fetched {s : State} {v : FrameView} {t : Fin 16} {r n span : Nat} {sp : Span} {cells : List Host.Cell}
    (hn : n < sp.len) (hagree : cellsAgree cells s.mem)
    (hlist : ∀ x ∈ spanFetches s v t r sp span, ∀ a ∈ (x.cells s.mem).map Prod.fst, a ∈ cells.map Prod.fst) :
    spanColour s v t cells sp.kind r (sp.start + n) = spanColour s v t s.mem sp.kind r (sp.start + n) := by
  cases hkind : sp.kind with
  | background => rfl
  | border id => rfl
  | image id =>
    unfold spanColour
    dsimp only
    cases hw : s.live.records[id] with
    | none => rfl
    | some w =>
      dsimp only
      cases hs : v.sampled id w with
      | none => rfl
      | some axes =>
        obtain ⟨sc, h, vt⟩ := axes
        refine sample_congr fun k hk m hm => fetchedPixel_eq hagree fun b hb => ?_
        rw [spanFetches_image hkind hw hs] at hlist
        have hcol : k ∈ (List.range sp.len).flatMap fun k => h.needed (interiorColumn (s.tile t) w (sp.start + k)) :=
          List.mem_flatMap.mpr ⟨n, List.mem_range.mpr hn, hk⟩
        obtain ⟨x, hx, ha⟩ := runFetches_cells (sc := sc) (row := m) (span := span) s.mem hcol hb
        exact hlist x (List.mem_flatMap.mpr ⟨m, hm, hx⟩) _ ha

/-- Settles O43: span by span, each pixel that a column needs is among the cells fetched for its span. -/
theorem fetchedRowShowsFrameMemory : Obligations.FetchedRowShowsFrameMemory := by
  intro s v k r
  show composeRow s v k (broughtBy (rowFetches s v k r) s.mem) r = _
  have hspans (f : Span → List Colour) (l : List Span) : l.flatMap f = l.zipIdx.flatMap fun p => f p.1 := by
    conv_lhs => rw [← List.zipIdx_map_fst 0 l, List.flatMap_map]
  rw [hspans]
  refine List.flatMap_congr fun p hp => List.map_congr_left fun n hn => ?_
  refine spanColour_fetched (span := p.2) (List.mem_range.mp hn) (broughtBy_agree _ _ _) fun x hx a ha => ?_
  exact broughtBy_lists (List.mem_flatMap.mpr ⟨p, hp, hx⟩) (spanFetches_tag hx) ha

end Sys2Proof.Machine
end

section
/-! The grant: the requester that the port chooses, and what a granted read brings (O34). -/

namespace Sys2Proof.Machine

open Sys2Proof

/-! ## The cyclic order of a class (R17) -/

/-- The requester that stands `k` places after the pointer. -/
def afterPointer {n : Nat} (ptr : Fin n) (k : Nat) : Fin n :=
  ⟨(ptr.val + 1 + k) % n, Nat.mod_lt _ (Nat.lt_of_le_of_lt (Nat.zero_le _) ptr.isLt)⟩

theorem cyclicAfter_eq {n : Nat} (ptr : Fin n) : cyclicAfter ptr = (List.range n).map (afterPointer ptr) := rfl

theorem placesAfter_lt {n : Nat} (ptr i : Fin n) : placesAfter ptr i < n :=
  Nat.mod_lt _ (Nat.lt_of_le_of_lt (Nat.zero_le _) ptr.isLt)

/-- The sum of two numbers, the first not above and the second below `n`, modulo `n`. -/
theorem add_mod_cases {a b n : Nat} (ha : a ≤ n) (hb : b < n) : (a + b) % n = if a + b < n then a + b else a + b - n := by
  split
  · exact Nat.mod_eq_of_lt ‹_›
  · rw [Nat.mod_eq_sub_mod (by omega), Nat.mod_eq_of_lt (by omega)]

theorem placesAfter_eq {n : Nat} (ptr i : Fin n) :
    placesAfter ptr i = if ptr.val < i.val then i.val - ptr.val - 1 else i.val + n - ptr.val - 1 := by
  have hp := ptr.isLt
  have hi := i.isLt
  unfold placesAfter
  rw [show i.val + n - ptr.val - 1 = (n - ptr.val - 1) + i.val by omega, add_mod_cases (by omega) hi]
  split <;> split <;> omega

theorem afterPointer_placesAfter {n : Nat} (ptr i : Fin n) : afterPointer ptr (placesAfter ptr i) = i := by
  have hp := ptr.isLt
  have hi := i.isLt
  apply Fin.ext
  show (ptr.val + 1 + placesAfter ptr i) % n = i.val
  rw [add_mod_cases (by omega) (placesAfter_lt ptr i), placesAfter_eq]
  split <;> split <;> omega

theorem placesAfter_afterPointer {n : Nat} (ptr : Fin n) {k : Nat} (hk : k < n) : placesAfter ptr (afterPointer ptr k) = k := by
  have hp := ptr.isLt
  rw [placesAfter_eq]
  show (if ptr.val < (ptr.val + 1 + k) % n then _ else (ptr.val + 1 + k) % n + n - ptr.val - 1) = k
  simp only [afterPointer]
  rw [add_mod_cases (by omega) hk]
  split <;> split <;> omega

/-- The first waiting requester after the pointer is the one that is granted. -/
theorem roundRobin_of_firstAfter {n : Nat} {ptr i : Fin n} {queues : Vector (List Transfer) n} (h : firstAfter ptr i queues) :
    roundRobin ptr queues = some i := by
  obtain ⟨hi, hfirst⟩ := h
  unfold roundRobin
  rw [cyclicAfter_eq, List.find?_map]
  have : (List.range n).find? ((fun j => !(queues[j]).isEmpty) ∘ afterPointer ptr) = some (placesAfter ptr i) := by
    rw [List.find?_range_eq_some]
    refine ⟨?_, List.mem_range.mpr (placesAfter_lt ptr i), fun j hj => ?_⟩
    · rw [Function.comp_apply, afterPointer_placesAfter]
      simpa using hi
    · have hjn : j < n := Nat.lt_trans hj (placesAfter_lt ptr i)
      rw [Function.comp_apply, Bool.not_not, List.isEmpty_iff]
      by_contra hne
      have hle := hfirst (afterPointer ptr j) hne
      rw [placesAfter_afterPointer ptr hjn] at hle
      omega
  rw [this, Option.map_some, afterPointer_placesAfter]

/-- The port grants the requester that R16 and R17 name. -/
theorem Port.choose_of_next {p : Port} {r : Requester} (h : p.next r) : p.choose = some r := by
  cases r with
  | tile t =>
    unfold Port.choose
    rw [roundRobin_of_firstAfter h]
  | capture c =>
    obtain ⟨ht, hc⟩ := h
    unfold Port.choose
    rw [roundRobin_none _ ht, roundRobin_of_firstAfter hc]
  | control k =>
    obtain ⟨ht, hc, hk⟩ := h
    unfold Port.choose
    rw [roundRobin_none _ ht, roundRobin_none _ hc, roundRobin_of_firstAfter hk]
    rfl

theorem Port.choose_none {p : Port} (h : ∀ r, p.queue r = []) : p.choose = none := by
  unfold Port.choose
  rw [roundRobin_none _ fun t => h (.tile t), roundRobin_none _ fun c => h (.capture c),
    roundRobin_none _ fun k => h (.control k)]
  rfl

/-! ## The port after a grant -/

@[simp] theorem Port.pointAt_queue (p : Port) (r q : Requester) : (p.pointAt r).queue q = p.queue q := by
  cases r <;> cases q <;> rfl

@[simp] theorem Port.granted_queue (p : Port) (r : Requester) : (p.granted r).queue r = (p.queue r).tail := by
  simp [Port.granted]

theorem Port.granted_queue_of_ne (p : Port) {r q : Requester} (h : q ≠ r) : (p.granted r).queue q = p.queue q := by
  rw [Port.granted, Port.pointAt_queue, Port.setQueue_queue_of_ne _ _ h]

/-- An entry of a bank replaced by itself. -/
@[simp] theorem vset_self {α : Type} {n : Nat} (v : Vector α n) (i : Fin n) : vset v i v[i] = v := by
  refine bank_ext fun j => ?_
  rw [vset_get_eq]
  split
  · rename_i h
    rw [h]
  · rfl

@[simp] theorem Port.setQueue_self (p : Port) (r : Requester) : p.setQueue r (p.queue r) = p := by
  cases r <;> simp only [Port.setQueue, Port.queue, vset_self]

@[simp] theorem Port.issue_nil (p : Port) (r : Requester) : p.issue r [] = p := by
  rw [Port.issue, List.append_nil, Port.setQueue_self]

/-- The state in which a requester acts on its granted transfer. -/
def State.carriedOut (s : State) (r : Requester) (x : Transfer) : State :=
  (s.withPort (s.port.granted r)).withMem (x.applied s.mem)

theorem exec_grant {s : State} {r : Requester} {x : Transfer} {rest : List Transfer} (hn : s.port.next r)
    (hq : s.port.queue r = x :: rest) :
    exec .transferGrant s = .next ((s.carriedOut r x).respond r x (x.returned s.mem)) := by
  rw [exec_transferGrant, Port.choose_of_next hn]
  simp only [State.grant, hq]
  rfl

theorem State.carriedOut_queue {s : State} {r : Requester} {x : Transfer} {rest : List Transfer}
    (hq : s.port.queue r = x :: rest) : (s.carriedOut r x).port.queue r = rest := by
  show (s.port.granted r).queue r = rest
  rw [Port.granted_queue, hq, List.tail_cons]

/-- A read leaves frame memory alone. -/
theorem State.carriedOut_read {s : State} {r : Requester} {x : Transfer} {n : Nat} (hx : x.op = .read n) :
    s.carriedOut r x = { s with port := s.port.granted r } := by
  simp only [State.carriedOut, State.withPort, State.withMem, Transfer.applied, hx]

theorem readBytes_eq_map (m : Memory) (a n : Nat) : m.readBytes a n = (List.range n).map fun k => m.read (a + k) := by
  induction n generalizing a with
  | zero => rfl
  | succ n ih =>
    rw [Memory.readBytes, ih, List.range_succ_eq_map, List.map_cons, List.map_map]
    congr 2
    funext k
    show m.read (a + 1 + k) = m.read (a + (k + 1))
    congr 1
    omega

theorem Transfer.returned_read {x : Transfer} {n : Nat} (hx : x.op = .read n) (m : Memory) :
    x.returned m = (List.range n).map fun k => m.read (x.addr + k) := by
  simp only [Transfer.returned, hx, readBytes_eq_map]

/-! ## What each requester does with the bytes -/

theorem cellsFrom_eq_zipIdx (a : Nat) (bytes : List Byte) :
    cellsFrom a bytes = bytes.zipIdx.map fun p => (a + p.2, p.1) := by
  have h : ∀ (bs : List Byte) (k : Nat), cellsFrom (a + k) bs = (bs.zipIdx k).map fun p => (a + p.2, p.1) := by
    intro bs
    induction bs with
    | nil => intro k; rfl
    | cons b rest ih =>
      intro k
      rw [cellsFrom, List.zipIdx_cons, List.map_cons, ← ih]
      rfl
  exact h bytes 0

/-- A tile engine keeps the bytes with the row it composes (R11). -/
theorem State.tileGranted_eq (s : State) (k : Fin 16) (x : Transfer) (bytes : List Byte) :
    s.tileGranted k x bytes =
      { s with
        engines := vset s.engines k
          { s.engines[k] with
            composing := (s.engines[k]).composing.map fun c =>
              { c with fetched := c.fetched ++ [(x.tag, bytes.zipIdx.map fun p => (x.addr + p.2, p.1))] } } } := by
  unfold State.tileGranted
  dsimp only
  rw [← cellsFrom_eq_zipIdx]
  cases hc : (s.engines[k]).composing with
  | none =>
    have hsame : { s.engines[k] with composing := none } = s.engines[k] := by rw [← hc]
    rw [Option.map_none, hsame, vset_self]
  | some c => rfl

theorem State.captureGranted_only (s : State) (c : Fin 16) (tag : Nat) : captureOnly c s (s.captureGranted c tag) := by
  unfold State.captureGranted
  dsimp only
  split
  · exact (captureOnly.setInput c s _).trans (State.captureIssue_only _ c)
  · exact State.captureIssue_only s c

theorem State.controlRead_pcie (s : State) (x : Transfer) (bytes : List Byte) :
    s.controlRead pcieEndpoint x bytes = { s with link := { s.link with bar2Data := x.addressed bytes } } := rfl

theorem State.controlRead_ring (s : State) (x : Transfer) (bytes : List Byte) :
    s.controlRead ringProcessor x bytes = s.ringGranted bytes := rfl

theorem State.controlRead_statusWriter (s : State) (x : Transfer) (bytes : List Byte) :
    s.controlRead statusWriter x bytes = s := rfl

theorem State.controlRead_source (s : State) (x : Transfer) (bytes : List Byte) :
    s.controlRead sourceUnit x bytes = s.sourceGranted x bytes := rfl

theorem State.controlRead_load (s : State) (x : Transfer) (bytes : List Byte) :
    s.controlRead loadSequence x bytes = s.loadGranted bytes := rfl

/-- A header is kept with its source; a read for no source is dropped. -/
theorem State.sourceGranted_rest (s : State) (x : Transfer) (bytes : List Byte) :
    ∃ headers, s.sourceGranted x bytes = { s with sources := { s.sources with headers := headers } } := by
  unfold State.sourceGranted
  split
  · exact ⟨_, rfl⟩
  · exact ⟨s.sources.headers, rfl⟩

theorem State.sourceGranted_header (s : State) (x : Transfer) (bytes : List Byte) (src : Fin 32) (hx : x.tag = src.val + 1) :
    s.sourceGranted x bytes = { s with sources := { s.sources with headers := s.sources.headers ++ [(src, bytes)] } } := by
  have h : 0 < x.tag ∧ x.tag ≤ 32 := by omega
  have hsrc : (⟨x.tag - 1, by omega⟩ : Fin 32) = src := Fin.ext (by simp [hx])
  simp only [State.sourceGranted, dif_pos h, State.withSources, hsrc]

/-- The load sequence keeps the bytes and reads on unless a check has failed or all bytes are there (R180). -/
theorem State.loadGranted_eq (s : State) (bytes : List Byte) :
    s.loadGranted bytes =
      { s with
        control := { s.control with loadBytes := s.control.loadBytes ++ bytes }
        port := s.port.issue (.control loadSequence)
          (if loadVerdict s.link.areaBase.toNat (s.control.loadBytes ++ bytes) = .more ∧
              (s.control.loadBytes ++ bytes).length < 1376 then
            [⟨s.link.areaBase.toNat + (s.control.loadBytes ++ bytes).length,
              .read (min 256 (1376 - (s.control.loadBytes ++ bytes).length)), 0⟩]
          else []) } := by
  unfold State.loadGranted
  dsimp only
  cases hv : loadVerdict s.link.areaBase.toNat (s.control.loadBytes ++ bytes) with
  | more =>
    simp only [nextLoadRead, Config.configBytes, Config.blockSize, true_and]
    rfl
  | pass =>
    rw [if_neg (by simp), Port.issue_nil]
    rfl
  | fail code index =>
    rw [if_neg (by simp), Port.issue_nil]
    rfl

/-! ## The ring processor's look -/

theorem slotPosted_iff (slot : List Byte) : slotPosted slot = true ↔ slot.getD 0 0 ≠ 0 := by
  simp [slotPosted, enableAt, byteAt]

/-- The processor once its look has read a slot: a posted slot found in IDLE has started a group (R144). -/
def State.ringFound (s : State) (bytes : List Byte) : Ring :=
  if bytes.getD 0 0 ≠ 0 ∧ s.ring.state = .idle then s.groupStarted else s.ring

theorem State.groupFound_eq (s : State) (bytes : List Byte) : s.groupFound bytes = { s with ring := s.ringFound bytes } := by
  unfold State.ringFound
  split
  · rename_i h
    exact s.groupFound_idle bytes ((slotPosted_iff bytes).mpr h.1) h.2
  · rename_i h
    refine s.groupFound_other bytes ?_
    by_cases hp : slotPosted bytes = true
    · exact .inr fun hi => h ⟨(slotPosted_iff bytes).mp hp, hi⟩
    · exact .inl (by simpa using hp)

theorem State.wantsScene_iff (s : State) (bytes : List Byte) :
    s.wantsScene bytes = true ↔
      (bytes.getD 2 0).toNat = 1 ∧ (bytes.getD 16 0).toNat ≤ 15 ∧ s.ring.held.length < min 32 (2 ^ s.cfg.ringCode / 2) := by
  simp [State.wantsScene, slotKind, slotByte, byteAt, State.groupLimit, State.ringLength, and_assoc]

/-- A slot found posted in SKIPPING is returned by itself (R149). -/
theorem State.ringGranted_skip {s : State} {cause : LookCause} {bytes : List Byte} (hl : s.ring.look = .reading cause)
    (hp : bytes.getD 0 0 ≠ 0) (hs : s.ring.state = .skipping) :
    s.ringGranted bytes =
      { s with
        ring := { s.ring with look := .skip cause bytes }
        port := s.port.issue (.control ringProcessor) (s.returns [⟨s.ring.next, 0, 2, 0⟩] 0) } := by
  simp only [State.ringGranted, hl, (slotPosted_iff bytes).mpr hp, hs]
  rfl

/-- A TAKE_SCENE slot of a group below its limit has its scene read (R166). -/
theorem State.ringGranted_scene {s : State} {cause : LookCause} {bytes : List Byte} (hl : s.ring.look = .reading cause)
    (hp : bytes.getD 0 0 ≠ 0) (hs : s.ring.state ≠ .skipping) (hk : (bytes.getD 2 0).toNat = 1)
    (hn : (bytes.getD 16 0).toNat ≤ 15) (hroom : (s.ringFound bytes).held.length < min 32 (2 ^ s.cfg.ringCode / 2)) :
    s.ringGranted bytes =
      { s with
        ring := { s.ringFound bytes with look := .scene cause bytes [] }
        port := s.port.issue (.control ringProcessor)
          (readTransfers (s.cfg.sceneBase + 4096 * (bytes.getD 16 0).toNat) 4096 0) } := by
  have hw : ({ s with ring := s.ringFound bytes } : State).wantsScene bytes = true :=
    (State.wantsScene_iff _ _).mpr ⟨hk, hn, hroom⟩
  simp only [State.ringGranted, hl, (slotPosted_iff bytes).mpr hp, State.groupFound_eq, hw]
  simp [hs]
  rfl

/-- Any other slot is found (R139). -/
theorem State.ringGranted_found {s : State} {cause : LookCause} {bytes : List Byte} (hl : s.ring.look = .reading cause)
    (h : bytes.getD 0 0 = 0 ∨ (s.ring.state ≠ .skipping ∧ ((bytes.getD 2 0).toNat ≠ 1 ∨ 15 < (bytes.getD 16 0).toNat ∨
      ¬ (s.ringFound bytes).held.length < min 32 (2 ^ s.cfg.ringCode / 2)))) :
    s.ringGranted bytes = { s with ring := { s.ringFound bytes with look := .found cause bytes } } := by
  have hskip : (slotPosted bytes && s.ring.state == .skipping) = false := by
    rcases h with h | h
    · have hp : ¬ slotPosted bytes = true := fun hp => (slotPosted_iff bytes).mp hp h
      simp [hp]
    · simp [h.1]
  have hscene : (slotPosted bytes && ({ s with ring := s.ringFound bytes } : State).wantsScene bytes) = false := by
    rw [Bool.eq_false_iff, ne_eq, Bool.and_eq_true, slotPosted_iff, State.wantsScene_iff]
    rintro ⟨hp, hk, hn, hroom⟩
    rcases h with h | ⟨_, h | h | h⟩
    · exact hp h
    · exact h hk
    · omega
    · exact h hroom
  simp only [State.ringGranted, hl, hskip, State.groupFound_eq, hscene]
  rfl

theorem State.ringGranted_more {s : State} {cause : LookCause} {slot scene : List Byte} (bytes : List Byte)
    (hl : s.ring.look = .scene cause slot scene) :
    s.ringGranted bytes = { s with ring := { s.ring with look := .scene cause slot (scene ++ bytes) } } := by
  simp only [State.ringGranted, hl]
  rfl

theorem State.ringGranted_idle {s : State} (bytes : List Byte) (hr : ∀ cause, s.ring.look ≠ .reading cause)
    (hs : ∀ cause slot scene, s.ring.look ≠ .scene cause slot scene) : s.ringGranted bytes = s := by
  unfold State.ringGranted
  split
  · exact absurd ‹_› (hr _)
  · exact absurd ‹_› (hs _ _ _)
  all_goals rfl

/-- The processor once it has found a slot is the one before, or the one that has started a group. -/
theorem State.ringFound_cases (s : State) (bytes : List Byte) (look : Look) :
    { s.ringFound bytes with look := look } = { s.ring with look := look } ∨
      s.ring.state = .idle ∧ { s.ringFound bytes with look := look } = { s.groupStarted with look := look } := by
  unfold State.ringFound
  split
  · rename_i h
    exact .inr ⟨h.2, rfl⟩
  · exact .inl rfl

/-- All that a granted read of the ring processor does: the look goes on, with a group started where it was a read in IDLE, and
the processor may issue transfers of its own. -/
theorem State.ringGranted_cases (s : State) (bytes : List Byte) :
    ∃ (look : Look) (g : Ring) (ts : List Transfer),
      s.ringGranted bytes = { s with ring := { g with look := look }, port := s.port.issue (.control ringProcessor) ts } ∧
        ({ g with look := look } = { s.ring with look := look } ∨
          s.ring.state = .idle ∧ (∃ cause, s.ring.look = .reading cause) ∧
            { g with look := look } = { s.groupStarted with look := look }) := by
  by_cases hr : ∃ cause, s.ring.look = .reading cause
  · obtain ⟨cause, hl⟩ := hr
    have hfound (look : Look) : _ ∨ s.ring.state = .idle ∧ (∃ cause, s.ring.look = .reading cause) ∧ _ :=
      (s.ringFound_cases bytes look).imp_right fun h => ⟨h.1, ⟨cause, hl⟩, h.2⟩
    by_cases hskip : bytes.getD 0 0 ≠ 0 ∧ s.ring.state = .skipping
    · exact ⟨_, s.ring, _, State.ringGranted_skip hl hskip.1 hskip.2, .inl rfl⟩
    · by_cases hscene : bytes.getD 0 0 ≠ 0 ∧ (bytes.getD 2 0).toNat = 1 ∧ (bytes.getD 16 0).toNat ≤ 15 ∧
          (s.ringFound bytes).held.length < min 32 (2 ^ s.cfg.ringCode / 2)
      · obtain ⟨hp, hk, hn, hroom⟩ := hscene
        exact ⟨_, s.ringFound bytes, _, State.ringGranted_scene hl hp (fun hs => hskip ⟨hp, hs⟩) hk hn hroom, hfound _⟩
      · refine ⟨_, s.ringFound bytes, [], (State.ringGranted_found hl ?_).trans (by rw [Port.issue_nil]), hfound _⟩
        by_cases hp : bytes.getD 0 0 = 0
        · exact .inl hp
        · refine .inr ⟨fun hs => hskip ⟨hp, hs⟩, ?_⟩
          by_contra hno
          push Not at hno
          exact hscene ⟨hp, hno⟩
  · have hnil : s = { s with port := s.port.issue (.control ringProcessor) [] } := by rw [Port.issue_nil]
    by_cases hs : ∃ cause slot scene, s.ring.look = .scene cause slot scene
    · obtain ⟨cause, slot, scene, hl⟩ := hs
      exact ⟨_, s.ring, [], (State.ringGranted_more bytes hl).trans (by rw [Port.issue_nil]), .inl rfl⟩
    · push Not at hr hs
      exact ⟨s.ring.look, s.ring, [], (State.ringGranted_idle bytes hr hs).trans hnil, .inl rfl⟩

/-! ## The statement -/

/-- Settles O34: the requester that R16 and R17 name gets the bytes, and what it does with them is the lemma of its kind. -/
theorem grantedReadReachesItsRequester : Obligations.GrantedReadReachesItsRequester := by
  intro s r x rest n hn hq hx bytes
  have hrest := State.carriedOut_queue hq
  refine ⟨_, exec_grant hn hq, ?_⟩
  rw [Transfer.returned_read hx]
  show State.mem (State.respond _ r x bytes) = _ ∧ _
  rw [State.carriedOut_read hx] at hrest ⊢
  refine ⟨by simp, ?_⟩
  cases r with
  | tile u =>
    have ht : ({ s with port := s.port.granted (.tile u) } : State).respond (.tile u) x bytes = _ :=
      State.tileGranted_eq _ u x bytes
    rw [ht]
    exact ⟨fun j hj => vset_get_of_ne _ _ fun h => hj (h ▸ rfl), fun c _ => rfl, ⟨hrest, rfl⟩, vset_get _ _ _⟩
  | capture c =>
    obtain ⟨hin, _, hall⟩ := State.captureGranted_only { s with port := s.port.granted (.capture c) } c x.tag
    have ht : ({ s with port := s.port.granted (.capture c) } : State).respond (.capture c) x bytes =
      State.captureGranted { s with port := s.port.granted (.capture c) } c x.tag := rfl
    rw [ht]
    refine ⟨fun u _ => by simp, fun j hj => hin j fun h => hj (h ▸ rfl), ?_⟩
    conv_lhs => rw [hall]
  | control k =>
    generalize hu : ({ s with port := s.port.granted (.control k) } : State) = u at hrest ⊢
    have ht : u.respond (.control k) x bytes = u.controlRead k x bytes := by simp only [State.respond, hx]
    rw [ht]
    refine ⟨fun j _ => by simp [← hu], fun j _ => by simp [← hu], ?_, ?_, ?_, ?_, ?_, ?_, ?_⟩
    · rintro rfl
      rw [State.controlRead_pcie]
      subst hu
      exact ⟨rfl, hrest⟩
    · rintro rfl
      rw [State.controlRead_statusWriter]
      subst hu
      exact ⟨rfl, hrest⟩
    · rintro rfl
      rw [State.controlRead_source]
      refine ⟨?_, fun src hsrc => ?_⟩
      · obtain ⟨headers, hh⟩ := u.sourceGranted_rest x bytes
        rw [hh]
        subst hu
        rfl
      · rw [State.sourceGranted_header u x bytes src hsrc]
        subst hu
        exact ⟨rfl, hrest⟩
    · rintro rfl
      rw [State.controlRead_load, State.loadGranted_eq]
      subst hu
      refine ⟨rfl, ?_⟩
      rw [Port.issue_queue, hrest]
    · rintro rfl
      rw [State.controlRead_ring]
      obtain ⟨look, g, ts, hg, hring⟩ := u.ringGranted_cases bytes
      rw [hg]
      subst hu
      refine ⟨rfl, fun hl => ?_⟩
      rcases hring with hring | ⟨_, ⟨cause, hc⟩, _⟩
      · exact hring
      · exact absurd hc (hl cause)
    · rintro rfl cause hl
      rw [State.controlRead_ring]
      have hl' : u.ring.look = .reading cause := by rw [← hu]; exact hl
      refine ⟨fun hp hs => ?_, fun h => ?_, fun hp hs hk hn hroom => ?_⟩
      · rw [State.ringGranted_skip hl' hp (by rw [← hu]; exact hs), Port.issue_queue, hrest]
        subst hu
        exact ⟨rfl, rfl⟩
      · rw [State.ringGranted_found hl' (by rw [← hu]; exact h)]
        refine ⟨?_, hrest⟩
        subst hu
        rfl
      · rw [State.ringGranted_scene hl' hp (by rw [← hu]; exact hs) hk hn (by rw [← hu]; exact hroom), Port.issue_queue,
          hrest]
        subst hu
        exact ⟨rfl, rfl⟩
    · rintro rfl cause slot scene hl
      rw [State.controlRead_ring, State.ringGranted_more bytes (by rw [← hu]; exact hl)]
      refine ⟨?_, hrest⟩
      subst hu
      rfl

end Sys2Proof.Machine
end

section
/-! The grant (O33): the bytes it writes, the pointers, and what it leaves alone. -/

namespace Sys2Proof.Machine

open Sys2Proof

/-! ## Bytes written, with no bound on the address -/

namespace Memory

/-- What a byte reads after a write of one byte at any address: an address past the end of frame memory names no byte. -/
theorem write_read_any {m : Memory} (h : m.wf = true) (a : Nat) (x : Byte) (b : Nat) :
    (m.write a x).read b = if b = a ∧ a < 4294967296 then x else m.read b := by
  by_cases ha : a < 4294967296
  · simpa [ha] using write_read h (a := a) ha x b
  · have hsame : m.write a x = m := if_pos (by rw [Config.memSize]; omega)
    rw [hsame, if_neg (by omega)]

/-- The byte that a write with byte enables brings to an address, when it brings one. -/
def broughtTo (a : Nat) (bs : List (Option Byte)) (b : Nat) : Option Byte :=
  if a ≤ b ∧ b < 4294967296 then (bs[b - a]?).join else none

theorem broughtTo_cons_of_ne {a b : Nat} (x : Option Byte) (bs : List (Option Byte)) (h : b ≠ a) :
    broughtTo a (x :: bs) b = broughtTo (a + 1) bs b := by
  unfold broughtTo
  by_cases hl : a + 1 ≤ b ∧ b < 4294967296
  · rw [if_pos hl, if_pos (by omega), show b - a = b - (a + 1) + 1 by omega, List.getElem?_cons_succ]
  · rw [if_neg hl, if_neg (by omega)]

theorem broughtTo_succ_self (a : Nat) (bs : List (Option Byte)) : broughtTo (a + 1) bs a = none := if_neg (by omega)

/-- What a byte reads after a write with byte enables, wherever it lies. -/
theorem writeEnabled_read_any {m : Memory} (h : m.wf = true) (a : Nat) (bs : List (Option Byte)) (b : Nat) :
    (m.writeEnabled a bs).read b = (broughtTo a bs b).getD (m.read b) := by
  induction bs generalizing m a with
  | nil => simp [writeEnabled, broughtTo]
  | cons x bs ih =>
    by_cases hb : b = a
    · subst hb
      cases x with
      | none => simp [writeEnabled, ih h, broughtTo]
      | some x =>
        rw [writeEnabled, ih (write_wf h b x), broughtTo_succ_self, write_read_any h]
        by_cases hin : b < 4294967296 <;> simp [broughtTo, hin]
    · rw [broughtTo_cons_of_ne x bs hb]
      cases x with
      | none => rw [writeEnabled, ih h]
      | some x => rw [writeEnabled, ih (write_wf h a x), write_read_other h x hb]

theorem writeBytes_eq_writeEnabled (m : Memory) (a : Nat) (bs : List Byte) :
    m.writeBytes a bs = m.writeEnabled a (bs.map some) := by
  induction bs generalizing m a with
  | nil => rfl
  | cons b bs ih => rw [writeBytes, List.map_cons, writeEnabled, ih]

end Memory

theorem Transfer.applied_eq (x : Transfer) (m : Memory) : x.applied m = m.writeEnabled x.addr x.stores := by
  unfold Transfer.applied Transfer.stores
  cases x.op with
  | read n => rfl
  | write data => exact Memory.writeBytes_eq_writeEnabled m x.addr data
  | merge data => rfl

/-- What a byte reads after a transfer. -/
theorem Transfer.applied_read {m : Memory} (h : m.wf = true) (x : Transfer) (a : Nat) :
    (x.applied m).read a =
      match x.stores[a - x.addr]? with
      | some (some b) => if x.addr ≤ a ∧ a < 4294967296 then b else m.read a
      | _ => m.read a := by
  rw [Transfer.applied_eq, Memory.writeEnabled_read_any h]
  unfold Memory.broughtTo
  by_cases hin : x.addr ≤ a ∧ a < 4294967296
  · simp only [if_pos hin]
    cases x.stores[a - x.addr]? with
    | none => rfl
    | some b => cases b <;> rfl
  · simp only [if_neg hin]
    cases x.stores[a - x.addr]? with
    | none => rfl
    | some b => cases b <;> rfl

/-! ## What a requester leaves alone -/

theorem Port.setQueue_pointers (p : Port) (r : Requester) (ts : List Transfer) :
    (p.setQueue r ts).tilePtr = p.tilePtr ∧ (p.setQueue r ts).capturePtr = p.capturePtr ∧
      (p.setQueue r ts).controlPtr = p.controlPtr := by
  cases r <;> exact ⟨rfl, rfl, rfl⟩

/-- All that a requester may change as it acts on a granted transfer: the queues and pointers it leaves, the units that it does
not touch, and the rest of the state. -/
structure State.answersAlone (s t : State) (r : Requester) : Prop where
  queues : ∀ q, q ≠ r → t.port.queue q = s.port.queue q
  pointers : t.port.tilePtr = s.port.tilePtr ∧ t.port.capturePtr = s.port.capturePtr ∧ t.port.controlPtr = s.port.controlPtr
  units : ∀ k, r = .control k →
    (k ≠ loadSequence → t.control = s.control) ∧ (k ≠ pcieEndpoint → t.link = s.link) ∧
      (k ≠ ringProcessor → t.ring = s.ring) ∧ (k ≠ sourceUnit → t.sources = s.sources)
  engines : ∀ u : Fin 16, r ≠ .tile u → t.engines[u] = s.engines[u]
  inputs : ∀ c : Fin 16, r ≠ .capture c → t.inputs[c] = s.inputs[c]
  noUnit : (∀ k, r ≠ .control k) → t.control = s.control ∧ t.link = s.link ∧ t.ring = s.ring ∧ t.sources = s.sources
  rest : t = { s with
    port := t.port
    control := { s.control with loadBytes := t.control.loadBytes }
    link := { s.link with bar2Data := t.link.bar2Data }
    ring := t.ring
    sources := { s.sources with headers := t.sources.headers }
    inputs := t.inputs, engines := t.engines }
  ring : t.ring = { s.ring with look := t.ring.look } ∨
    s.ring.state = .idle ∧ (∃ cause, s.ring.look = .reading cause) ∧
      t.ring = { s.groupStarted with look := t.ring.look }

/-- A requester that does nothing touches nothing. -/
theorem State.answersAlone.refl (s : State) (r : Requester) : s.answersAlone s r :=
  ⟨fun _ _ => rfl, ⟨rfl, rfl, rfl⟩, fun _ _ => ⟨fun _ => rfl, fun _ => rfl, fun _ => rfl, fun _ => rfl⟩, fun _ _ => rfl,
    fun _ _ => rfl, fun _ => ⟨rfl, rfl, rfl, rfl⟩, rfl, .inl rfl⟩

theorem State.tileGranted_alone (s : State) (k : Fin 16) (x : Transfer) (bytes : List Byte) :
    s.answersAlone (s.tileGranted k x bytes) (.tile k) := by
  rw [State.tileGranted_eq]
  exact ⟨fun _ _ => rfl, ⟨rfl, rfl, rfl⟩, fun _ h => (nomatch h),
    fun u hu => vset_get_of_ne _ _ fun h => hu (h ▸ rfl), fun _ _ => rfl, fun _ => ⟨rfl, rfl, rfl, rfl⟩, rfl, .inl rfl⟩

theorem State.captureGranted_alone (s : State) (c : Fin 16) (tag : Nat) :
    s.answersAlone (s.captureGranted c tag) (.capture c) := by
  obtain ⟨hin, hqueues, hall⟩ := State.captureGranted_only s c tag
  generalize s.captureGranted c tag = t at hin hqueues hall
  refine ⟨hqueues, ?_, fun _ h => (nomatch h), fun u _ => ?_, fun j hj => hin j fun h => hj (h ▸ rfl), fun _ => ?_, ?_,
    .inl ?_⟩ <;>
    rw [hall]
  · exact ⟨rfl, rfl, rfl⟩
  · exact ⟨rfl, rfl, rfl, rfl⟩

theorem Port.issue_pointers (p : Port) (r : Requester) (ts : List Transfer) :
    (p.issue r ts).tilePtr = p.tilePtr ∧ (p.issue r ts).capturePtr = p.capturePtr ∧
      (p.issue r ts).controlPtr = p.controlPtr := p.setQueue_pointers r _

theorem State.controlRead_alone (s : State) (k : Fin 5) (x : Transfer) (bytes : List Byte) :
    s.answersAlone (s.controlRead k x bytes) (.control k) := by
  have hcases : k = pcieEndpoint ∨ k = ringProcessor ∨ k = statusWriter ∨ k = sourceUnit ∨ k = loadSequence := by
    revert k
    decide
  rcases hcases with rfl | rfl | rfl | rfl | rfl
  · rw [State.controlRead_pcie]
    exact ⟨fun _ _ => rfl, ⟨rfl, rfl, rfl⟩, fun k hk => by cases hk; simp, fun _ _ => rfl, fun _ _ => rfl,
      fun h => absurd rfl (h _), rfl, .inl rfl⟩
  · obtain ⟨look, g, ts, hg, hring⟩ := s.ringGranted_cases bytes
    rw [State.controlRead_ring, hg]
    exact ⟨fun _ hq => Port.issue_queue_of_ne _ _ hq, Port.issue_pointers .., fun k hk => by cases hk; simp,
      fun _ _ => rfl, fun _ _ => rfl, fun h => absurd rfl (h _), rfl, hring⟩
  · rw [State.controlRead_statusWriter]
    exact .refl s _
  · obtain ⟨headers, hh⟩ := s.sourceGranted_rest x bytes
    rw [State.controlRead_source, hh]
    exact ⟨fun _ _ => rfl, ⟨rfl, rfl, rfl⟩, fun k hk => by cases hk; simp, fun _ _ => rfl, fun _ _ => rfl,
      fun h => absurd rfl (h _), rfl, .inl rfl⟩
  · rw [State.controlRead_load, State.loadGranted_eq]
    exact ⟨fun _ hq => Port.issue_queue_of_ne _ _ hq, Port.issue_pointers .., fun k hk => by cases hk; simp,
      fun _ _ => rfl, fun _ _ => rfl, fun h => absurd rfl (h _), rfl, .inl rfl⟩

/-- A granted write of a control requester asks nothing more of it. -/
theorem State.respond_control_write (s : State) (k : Fin 5) {x : Transfer} (bytes : List Byte) (hx : ∀ n, x.op ≠ .read n) :
    s.respond (.control k) x bytes = s := by
  simp only [State.respond]
  split
  · exact absurd ‹_› (hx _)
  all_goals rfl

theorem State.respond_alone (s : State) (r : Requester) (x : Transfer) (bytes : List Byte) :
    s.answersAlone (s.respond r x bytes) r := by
  cases r with
  | tile k => exact s.tileGranted_alone k x bytes
  | capture c => exact s.captureGranted_alone c x.tag
  | control k =>
    by_cases hx : ∃ n, x.op = .read n
    · obtain ⟨n, hx⟩ := hx
      have ht : s.respond (.control k) x bytes = s.controlRead k x bytes := by simp only [State.respond, hx]
      rw [ht]
      exact s.controlRead_alone k x bytes
    · rw [s.respond_control_write k bytes fun n hn => hx ⟨n, hn⟩]
      exact .refl s _

/-! ## The statement -/

/-- Settles O33: the grant carries the transfer out and the requester answers it alone. -/
theorem grantFollowsClassAndPointer : Obligations.GrantFollowsClassAndPointer := by
  intro s hw
  refine ⟨fun hnone => ?_, fun r x rest hn hq => ?_⟩
  · rw [exec_transferGrant, Port.choose_none hnone]
  obtain ⟨hqueues, ⟨hp1, hp2, hp3⟩, hunits, hengines, hinputs, hnoUnit, hall, hring⟩ :=
    (s.carriedOut r x).respond_alone r x (x.returned s.mem)
  refine ⟨_, exec_grant hn hq, ?_, ?_, ?_, ?_, ?_, hunits, hengines, hinputs, hnoUnit, ?_, hring⟩
  · intro a
    rw [State.respond_mem]
    exact Transfer.applied_read hw x a
  · rintro u rfl
    rw [← State.carriedOut_queue hq]
    simp [State.respond]
  · rintro k rfl hx
    rw [State.respond_control_write _ k _ hx]
    exact ⟨State.carriedOut_queue hq, rfl⟩
  · cases r with
    | tile u => exact ⟨hp1, hp2, hp3⟩
    | capture c => exact ⟨hp1, hp2, hp3⟩
    | control k => exact ⟨hp1, hp2, hp3⟩
  · intro q hne
    rw [hqueues q hne]
    exact Port.granted_queue_of_ne _ hne
  · conv_lhs => rw [hall]
    rw [State.respond_mem]
    rfl

end Sys2Proof.Machine
end

section
/-! The wall frame start with no bank to swap and no group that commits (O36). -/

namespace Sys2Proof.Machine

open Sys2Proof

/-! ## The wall frame start alone -/

theorem exec_wallFrameStart_alone {order : FrameOrder} {s : State} (hi : order.interval = none)
    (hr : s.control.part = .running) :
    exec (.wallFrameStart order) s = .next (s.frameAlone order.setFirst order.lastTile) := by
  show Host.Outcome.next (if s.running then s.takeFrame order else s) = _
  rw [if_pos (by simp [State.running, hr]), s.takeFrame_alone order hi]

theorem State.swapKind_none {s : State} (h : ∀ kind, s.builder.state ≠ .donePending kind) : s.swapKind = none := by
  unfold State.swapKind
  split
  · exact absurd ‹_› (h _)
  all_goals rfl

theorem State.swap_none {s : State} (h : s.swapKind = none) : s.swap = s := by
  simp only [State.swap, h]

theorem State.groupCommits_eq (s : State) : s.groupCommits = true ↔ s.builder.state = .donePending .group := by
  unfold State.groupCommits State.swapKind
  cases hb : s.builder.state with
  | idle => simp
  | building kind n => simp
  | donePending kind => simp

theorem State.awaitsFrame_eq (s : State) :
    s.awaitsFrame = true ↔ s.ring.state = .awaitingCommit ∧ s.ring.edits = false := by
  simp [State.awaitsFrame]

/-- The state in which the blocks take a wall frame start: its number has come and the source unit knows of it. -/
def State.frameBegun (s : State) : State := (s.withFrameNo (s.frameNo + 1)).pushFrame

/-- A wall frame start at which no group commits: the blocks take it, and then the ring processor. -/
theorem State.frameAlone_noCommit {s : State} (hg : s.groupCommits = false) (ha : s.awaitsFrame = false)
    (setFirst lastTile : Bool) : s.frameAlone setFirst lastTile = (s.frameBegun.blocksTakeFrame lastTile).ringFrame := by
  simp [State.frameAlone, hg, ha, State.frameBegun]

/-- A processor that looks or has no group without edits in hand takes a wall frame start as a look event. -/
theorem State.ringFrame_looks {s : State} (hl : s.ring.look = .none) (ha : s.awaitsFrame = false) :
    s.ringFrame = (s.lookIn (.frame s.frameNo)).handItems [] := by
  simp [State.ringFrame, State.lookEvent, hl, State.takeLookEvent, State.ringTakesFrame, ha]

theorem State.lookIn_reads {s : State} (cause : LookCause)
    (h : s.ring.state = .idle ∨ s.ring.state = .collecting ∨ s.ring.state = .skipping) :
    s.lookIn cause = s.startLook cause := by
  rcases h with h | h | h <;> simp [State.lookIn, h]

/-! ## What the source unit's work leaves alone -/

/-- The engines are as they were, or have issued the fetches of the rows they had begun without. -/
def fetchesBegun (before after : Vector TileEngine 16) : Prop :=
  after = before ∨ after = mapBank before fun _ e => e.beginFetches

theorem State.setQueue_control_of_ne (s : State) {j k : Fin 5} (ts : List Transfer) (h : k ≠ j) :
    (s.setQueue (.control j) ts).port.control[k] = s.port.control[k] := vset_get_of_ne _ _ h

theorem State.issue_control_of_ne (s : State) {j k : Fin 5} (ts : List Transfer) (h : k ≠ j) :
    (s.issue (.control j) ts).port.control[k] = s.port.control[k] := vset_get_of_ne _ _ h

theorem State.frameReady_engines (s : State) : s.frameReady.engines = mapBank s.engines fun _ e => e.beginFetches := rfl

theorem State.frameReady_controlQueue (s : State) {k : Fin 5} (h : k ≠ statusWriter) :
    s.frameReady.port.control[k] = s.port.control[k] :=
  (s.tilesTakeView.setQueue_control_of_ne _ h).trans rfl

theorem State.sourceStart_controlQueue (s : State) (f : SourceFrame) {k : Fin 5} (h : k ≠ sourceUnit) :
    (s.sourceStart f).port.control[k] = s.port.control[k] := by
  have hf (t : State) : t.frameSources.port.control[k] = t.port.control[k] := State.issue_control_of_ne _ _ h
  unfold State.sourceStart
  dsimp only
  rw [State.withSources_port, State.statusTakeSources_port, State.raiseIf_port, hf, State.raiseIf_port,
    State.statusResetInputs_port]
  rfl

theorem State.sourceRun_controlQueue (frames : List SourceFrame) (s : State) {k : Fin 5} (hs : k ≠ sourceUnit)
    (hw : k ≠ statusWriter) : (State.sourceRun frames s).port.control[k] = s.port.control[k] := by
  induction frames generalizing s with
  | nil => rfl
  | cons f rest ih =>
    have hstart : ((s.withSources { s.sources with frames := rest }).sourceStart f).port.control[k] = s.port.control[k] :=
      State.sourceStart_controlQueue _ f hs
    unfold State.sourceRun
    dsimp only
    split
    · split
      · split
        · rw [State.frameReady_controlQueue _ hw, hstart]
        · rw [ih, hstart]
      · exact hstart
    · rfl

theorem State.sourceRun_fetchesBegun (frames : List SourceFrame) (s : State) :
    fetchesBegun s.engines (State.sourceRun frames s).engines := by
  induction frames generalizing s with
  | nil => exact .inl rfl
  | cons f rest ih =>
    have hstart : ((s.withSources { s.sources with frames := rest }).sourceStart f).engines = s.engines := by simp
    unfold State.sourceRun
    dsimp only
    split
    · split
      · split
        · rw [State.frameReady_engines, hstart]
          exact .inr rfl
        · rw [← hstart]
          exact ih _
      · exact .inl hstart
    · exact .inl rfl

theorem State.sourceAdvance_controlQueue (s : State) {k : Fin 5} (hs : k ≠ sourceUnit) (hw : k ≠ statusWriter) :
    s.sourceAdvance.port.control[k] = s.port.control[k] := by
  unfold State.sourceAdvance
  split
  · exact State.sourceRun_controlQueue _ s hs hw
  · rfl

theorem State.sourceAdvance_fetchesBegun (s : State) : fetchesBegun s.engines s.sourceAdvance.engines := by
  unfold State.sourceAdvance
  split
  · exact State.sourceRun_fetchesBegun _ s
  · exact .inl rfl

theorem State.handItems_controlQueue (s : State) (items : List SourceItem) {k : Fin 5} (hs : k ≠ sourceUnit)
    (hw : k ≠ statusWriter) : (s.handItems items).port.control[k] = s.port.control[k] := by
  unfold State.handItems
  dsimp only
  rw [State.sourceAdvance_controlQueue _ hs hw]
  rfl

theorem State.handItems_fetchesBegun (s : State) (items : List SourceItem) :
    fetchesBegun s.engines (s.handItems items).engines := by
  unfold State.handItems
  exact State.sourceAdvance_fetchesBegun _

/-- Issuing the fetches of a row changes nothing of an engine but the mark that they have been issued. -/
theorem fetchesBegun.engine {before after : Vector TileEngine 16} (h : fetchesBegun before after) (k : Fin 16) :
    after[k] = before[k] ∨ after[k] = (before[k]).beginFetches := by
  rcases h with rfl | rfl
  · exact .inl rfl
  · exact .inr (mapBank_get _ _ k)

theorem TileEngine.beginFetches_keeps (e : TileEngine) :
    e.beginFetches = { e with composing := e.composing.map fun c => { c with begun := true } } := by
  unfold TileEngine.beginFetches
  cases h : e.composing with
  | none =>
    show e = { e with composing := none }
    rw [← h]
  | some c => rfl

/-! ## The blocks at a wall frame start with no bank to swap -/

/-- The builder's part of a wall frame start with no bank to swap: a build that completes right after it, or nothing (R58). -/
def State.lateBuild (s : State) (lastTile : Bool) : State := if lastTile then s.completeLate else s

theorem State.blocksTakeFrame_noSwap {s : State} (h : s.swapKind = none) (lastTile : Bool) :
    s.blocksTakeFrame lastTile = (s.lateBuild lastTile).statusNewFrame.tilesNewFrame := by
  simp only [State.blocksTakeFrame, State.swap_none h, State.lateBuild]

/-- A build that completes changes the builder's state and shadow alone. -/
theorem State.lateBuild_eq (s : State) (lastTile : Bool) :
    s.lateBuild lastTile =
      s.withBuilder
        { s.builder with
          state := (s.lateBuild lastTile).builder.state, shadow := (s.lateBuild lastTile).builder.shadow } := by
  unfold State.lateBuild
  split
  · rcases s.completeLate_cases with h | ⟨kind, t, table, _, _, _, h⟩ <;> rw [h] <;> rfl
  · rfl

theorem State.tilesNewFrame_engine (s : State) (k : Fin 16) :
    s.tilesNewFrame.engines[k] = if (s.tile k).enable then (s.engines[k]).newFrame else s.engines[k] :=
  mapBank_get _ _ k

/-- A tile's record is the loaded configuration's. -/
theorem State.tile_congr {s t : State} (h : t.config = s.config) (k : Fin 16) : t.tile k = s.tile k := by
  simp only [State.tile, State.cfg, h]

theorem State.blocksTakeFrame_engine (s : State) (lastTile : Bool) (k : Fin 16) :
    (s.blocksTakeFrame lastTile).engines[k] = if (s.tile k).enable then (s.engines[k]).newFrame else s.engines[k] := by
  unfold State.blocksTakeFrame
  rw [State.tilesNewFrame_engine]
  split
  · rw [State.tile_congr (s := s) (by simp)]
    simp
  · rw [State.tile_congr (s := s) (by simp)]
    simp

/-- What is left of an engine's frame once the source unit has issued the fetches of the rows that waited: all but the mark
that they have been issued. -/
theorem TileEngine.newFrame_then {e e' : TileEngine} (h : e' = e.newFrame ∨ e' = e.newFrame.beginFetches) :
    (e'.late = e.late ∧ e'.line0 = e.line0 ∧ e'.line1 = e.line1 ∧ e'.sending = e.sending) ∧
      e'.output = .frameStart ∧ e'.into = e.freeLine ∧
        ∃ c, e'.composing = some c ∧ c.row = 0 ∧ c.finished = false ∧ c.fetched = [] := by
  rcases h with rfl | rfl
  · exact ⟨⟨rfl, rfl, rfl, rfl⟩, rfl, rfl, _, rfl, rfl, rfl, rfl⟩
  · exact ⟨⟨rfl, rfl, rfl, rfl⟩, rfl, rfl, _, rfl, rfl, rfl, rfl⟩

theorem TileEngine.same_then {e e' : TileEngine} (h : e' = e ∨ e' = e.beginFetches) :
    (e'.late = e.late ∧ e'.line0 = e.line0 ∧ e'.line1 = e.line1 ∧ e'.sending = e.sending) ∧
      e'.output = e.output ∧ e'.into = e.into := by
  rcases h with rfl | rfl
  · exact ⟨⟨rfl, rfl, rfl, rfl⟩, rfl, rfl⟩
  · rw [e.beginFetches_keeps]
    exact ⟨⟨rfl, rfl, rfl, rfl⟩, rfl, rfl⟩

/-- Settles O36: the blocks take the start, the processor begins its look, and the source unit's work after it touches
neither. -/
theorem wallFrameStartBeginsTheFrame : Obligations.WallFrameStartBeginsTheFrame := by
  intro order s hi hr hb hl hstate
  have hk : s.frameBegun.swapKind = none := State.swapKind_none hb
  have hg : s.groupCommits = false := by simp [State.groupCommits, State.swapKind_none hb]
  have ha : s.awaitsFrame = false := by
    rcases hstate with h | h | h <;> simp [State.awaitsFrame, h]
  obtain ⟨u, hu⟩ : ∃ u, u = s.frameBegun.blocksTakeFrame order.lastTile := ⟨_, rfl⟩
  have hulate := hu.trans (State.blocksTakeFrame_noSwap hk _)
  have hring : u.ring = s.ring := by simp [hu, State.frameBegun]
  have hno : u.frameNo = s.frameNo + 1 := by simp [hu, State.frameBegun]
  have hbuilder : u.builder = (s.frameBegun.lateBuild order.lastTile).builder := by simp [hulate]
  have ht : exec (.wallFrameStart order) s = .next ((u.startLook (.frame (s.frameNo + 1))).handItems []) := by
    rw [exec_wallFrameStart_alone hi hr, State.frameAlone_noCommit hg ha, ← hu, State.ringFrame_looks,
      State.lookIn_reads _ (by rw [hring]; exact hstate), hno]
    · rw [hring, hl]
    · simpa only [State.awaitsFrame, hring] using ha
  refine ⟨_, ht, ⟨?_, ?_, ?_, ?_, ?_, ?_⟩, ⟨?_, ?_⟩, fun k => ?_, ?_, ?_, ?_, ?_⟩
  · simp [hno]
  · rw [State.handItems_live, State.startLook_live, hulate, State.tilesNewFrame_live, State.statusNewFrame_live,
      State.lateBuild_eq]
    rfl
  · simp [hu, State.frameBegun]
  · simp [hu, State.frameBegun]
  · intro hlast
    rw [State.handItems_builder, State.startLook_builder, hbuilder, hlast]
    rfl
  · rw [State.handItems_builder, State.startLook_builder, hbuilder, State.lateBuild_eq]
    rfl
  · rw [State.handItems_ring, State.startLook, State.issue_ring, State.withRing_ring, hring]
  · have hq : u.port.queue (.control ringProcessor) = s.port.queue (.control ringProcessor) := by
      rw [hulate, State.lateBuild_eq]
      exact State.setQueue_control_of_ne _ [] (by decide)
    refine (State.handItems_controlQueue _ [] (by decide) (by decide)).trans ?_
    refine (Port.issue_queue u.port (.control ringProcessor) _).trans ?_
    rw [hq, State.slotAddr, hring]
    simp [hu, State.cfg, State.frameBegun]
  · have he := (State.handItems_fetchesBegun (u.startLook (.frame (s.frameNo + 1))) []).engine k
    have hue : u.engines[k] = if (s.tile k).enable then (s.engines[k]).newFrame else s.engines[k] := by
      rw [hu, State.blocksTakeFrame_engine]
      rfl
    rw [State.startLook_engines, hue] at he
    by_cases hen : (s.tile k).enable = true
    · rw [if_pos hen] at he
      obtain ⟨⟨h1, h2, h3, h4⟩, ho, hinto, hc⟩ := TileEngine.newFrame_then (e := s.engines[k]) he
      exact ⟨h1, h2, h3, h4, fun _ => ⟨ho, hinto, hc⟩, fun h => absurd hen (by simp [h])⟩
    · rw [if_neg hen] at he
      obtain ⟨⟨h1, h2, h3, h4⟩, ho, hinto⟩ := TileEngine.same_then (e := s.engines[k]) he
      exact ⟨h1, h2, h3, h4, fun h => absurd h hen, fun _ => ⟨ho, hinto⟩⟩
  all_goals simp [hu, State.frameBegun]

end Sys2Proof.Machine
end

section
/-! A millisecond interval as the alarm contact unit, the source unit and the capture inputs take it (R98, R113, R125 to R133). -/

namespace Sys2Proof.Machine

open Sys2Proof

/-! ## The alarm contact unit -/

theorem State.raiseIf_eq (s : State) (b : Bool) (bits : BitVec 8) :
    s.raiseIf b bits = if b then { s with link := s.link.withCausesSet bits } else s := by
  rw [State.raiseIf, State.raise_eq]

theorem State.raisedChanged_eq (s : State) :
    s.raisedChanged = { s with builder := s.builder.restarted (raisedSet s.alarms) } := by
  unfold State.raisedChanged Builder.restarted
  cases h : s.builder.state <;> rfl

/-- The moves of the alarm contact unit: the inputs, and a change of the raised set that reaches the builder (R131). -/
theorem State.makeMoves_eq (s : State) (alarms : Vector AlarmInput 8) :
    s.makeMoves alarms =
      { s with alarms := alarms, builder := s.builder.afterRaised (raisedSet s.alarms) (raisedSet alarms) } := by
  unfold State.makeMoves Builder.afterRaised
  dsimp only
  split
  · rfl
  · rw [State.raisedChanged_eq]
    rfl

/-- A sample changes the debounced level exactly when it settles the input (R126). -/
theorem AlarmInput.sampled_level (a : AlarmInput) (level : Bool) :
    (a.sampled level).level ≠ a.level ↔ a.settles level = true := by
  have hs : a.settles level = true ↔ a.config.enable = true ∧ level ≠ a.level ∧ a.config.debounce ≤ a.count + 1 := by
    simp only [AlarmInput.settles, Bool.and_eq_true, bne_iff_ne, ne_eq, decide_eq_true_eq, and_assoc]
  rw [hs, AlarmInput.sampled_eq]
  by_cases he : a.config.enable = false
  · simp [he]
  · rw [if_neg he]
    by_cases hl : level = a.level
    · simp [hl]
    · rw [if_neg hl]
      by_cases hc : a.count + 1 < a.config.debounce
      · simp [hc]
      · rw [if_neg hc]
        simp only [ne_eq, hl, not_false_eq_true, true_and, true_iff]
        exact ⟨by simpa using he, by omega⟩

/-- A piece of work changes a level exactly when it moves an alarm state (R127). -/
theorem AlarmStep.moves_iff (alarms : Vector AlarmInput 8) (step : AlarmStep) :
    levelsMoved alarms (step.applied alarms) ↔ step.moves alarms = true := by
  cases step with
  | interval high =>
    rw [AlarmStep.moves, someSettles, anyBank_eq_true]
    refine exists_congr fun i => ?_
    rw [AlarmStep.applied, sampledAll, mapBank_get]
    exact AlarmInput.sampled_level _ _
  | change i level =>
    rw [AlarmStep.moves, AlarmStep.applied]
    constructor
    · rintro ⟨j, hj⟩
      by_contra hs
      exact hj (by rw [if_neg hs])
    · intro hs
      refine ⟨i, ?_⟩
      rw [if_pos hs, vset_get]
      simp only [AlarmInput.settles, Bool.and_eq_true, bne_iff_ne] at hs
      exact hs.1.2

/-- What a piece of work makes of the state: the moves, and ALARM_EVENT when there is one (R131, R133). -/
theorem State.alarmStep_movedInto (s : State) (step : AlarmStep) : s.movedInto (s.alarmStep step) true := by
  have ha : (s.alarmStep step).alarms = step.applied s.alarms := by simp [State.alarmStep, State.alarmWork]
  unfold State.movedInto
  rw [ha, AlarmStep.moves_iff]
  unfold State.alarmStep State.alarmWork
  rw [State.makeMoves_eq, State.raiseIf_eq]
  by_cases hm : step.moves s.alarms = true
  · simp [hm, causeAlarmEvent]
  · simp [hm]

theorem State.alarmStep_alarms (s : State) (step : AlarmStep) : (s.alarmStep step).alarms = step.applied s.alarms := by
  simp [State.alarmStep, State.alarmWork]

theorem State.sampleContacts_sampledInto (s : State) (high : Groups) : s.sampledInto (s.sampleContacts high) high := by
  refine ⟨?_, s.alarmStep_movedInto _⟩
  rw [State.sampleContacts, State.alarmStep_alarms]
  exact AlarmStep.applied_turns s.alarms (.interval high)

/-- While a wall frame start is kept, a piece of work sets ALARM_EVENT as it comes and waits (R133). -/
theorem State.alarmTakes_keptForLater (s : State) (step : AlarmStep) : s.keptForLater (s.alarmTakes step) step := by
  intro older steps hl
  refine ⟨s.alarmsAhead, step.applied s.alarmsAhead, alarmsTurn_applied _ _, AlarmStep.applied_turns _ _, ?_⟩
  rw [AlarmStep.moves_iff, s.alarmTakes_append step older steps hl, State.raiseIf_eq]
  by_cases hm : step.moves s.alarmsAhead = true
  · simp [hm, causeAlarmEvent]
  · simp [hm]

theorem State.alarmTakes_given (s : State) (high : Groups) : s.alarmsGiven (s.alarmTakes (.interval high)) high := by
  refine ⟨fun hl => ?_, s.alarmTakes_keptForLater _⟩
  rw [s.alarmTakes_nil _ hl]
  exact s.sampleContacts_sampledInto high

/-! ## The source unit -/

theorem Source.slotWith_isSome (c : Source) (r : Role) : (c.slotWith r).isSome = true ↔ ∃ k : Fin 3, c.roles[k] = some r := by
  simp [Source.slotWith, List.find?_isSome]

theorem Source.aged_eq_older (c : Source) : c.aged = c.older 1 := by
  unfold Source.aged Source.older
  have hcond : (c.desc.enable && (c.slotWith .shown).isSome && !c.frozen) = true ↔
      c.desc.enable = true ∧ (∃ k : Fin 3, c.roles[k] = some .shown) ∧ c.frozen = false := by
    rw [← c.slotWith_isSome]
    simp [and_assoc]
  by_cases h : (c.desc.enable && (c.slotWith .shown).isSome && !c.frozen) = true
  · rw [if_pos h, if_pos (hcond.mp h)]
    congr 1
    unfold Config.maxAge
    split <;> omega
  · rw [if_neg h, if_neg fun g => h (hcond.mpr g)]

/-- What one interval leaves of the source unit besides the channels, the list of frames and the count owed. -/
theorem State.withSources_of_rest (s : State) {u : SourceUnit} (hj : u.toJudge = s.sources.toJudge)
    (hh : u.headers = s.sources.headers) :
    s.withSources u =
      { s with sources := { s.sources with channels := u.channels, frames := u.frames, owed := u.owed } } := by
  unfold State.withSources
  dsimp only
  rw [← hj, ← hh]

theorem State.ageSources_idle {s : State} (h : s.sources.frames = []) :
    s.ageSources = s.withSources (s.sources.intervals 1) := by
  rw [State.ageSources, h, List.isEmpty_nil, if_pos rfl]

theorem State.ageSources_busy {s : State} (h : s.sources.frames ≠ []) :
    s.ageSources = s.withSources { s.sources with frames := intervalAfter s.sources.frames } := by
  rw [State.ageSources, if_neg (by simpa using h)]

theorem State.ageSources_agedInto (s : State) : s.agedInto s.ageSources := by
  unfold State.agedInto State.channel
  by_cases hf : s.sources.frames = []
  · rw [State.ageSources_idle hf]
    refine ⟨fun src => ?_, ⟨?_, fun _ => ?_, fun older last h => ?_⟩, ?_⟩
    · rw [State.withSources_sources, SourceUnit.intervals_channel]
      by_cases hj : src ∈ s.sources.toJudge
      · rw [if_pos hj, if_neg fun h => h.2 hj]
      · rw [if_neg hj, if_pos ⟨hf, hj⟩]
        exact Source.aged_eq_older _
    · by_cases hj : s.sources.toJudge = []
      · simp [SourceUnit.intervals, hj]
      · simp [SourceUnit.intervals, hj, hf]
    · rw [State.withSources_sources, SourceUnit.intervals, hf]
    · simp [hf] at h
    · have hj : (s.sources.intervals 1).toJudge = s.sources.toJudge := by rw [SourceUnit.intervals_rest]
      have hh : (s.sources.intervals 1).headers = s.sources.headers := by rw [SourceUnit.intervals_rest]
      generalize s.sources.intervals 1 = u at hj hh ⊢
      exact State.withSources_of_rest s hj hh
  · rw [State.ageSources_busy hf]
    refine ⟨fun src => ?_, ⟨?_, fun h => absurd h hf, fun older last h => ?_⟩, ?_⟩
    · rw [if_neg fun h => hf h.1, State.withSources_sources]
    · rw [if_neg fun h => hf h.1, State.withSources_sources]
    · rw [State.withSources_sources, h, intervalAfter_append]
    · exact State.withSources_of_rest s rfl rfl

/-! ## The capture inputs -/

theorem CaptureInput.losing_iff (i : CaptureInput) : i.losing = true ↔ i.state ≠ .noSignal ∧ 250 ≤ i.loss + 1 := by
  simp [CaptureInput.losing, Config.lossLimit]

theorem CaptureInput.ticked_losing {i : CaptureInput} (h : i.losing = true) :
    i.ticked = { CaptureInput.initial with report := i.report } := by
  have hs : i.state ≠ .noSignal := ((CaptureInput.losing_iff i).mp h).1
  simp [CaptureInput.ticked, h, hs, CaptureInput.lost]

theorem CaptureInput.ticked_other {i : CaptureInput} (h : i.losing = false) :
    i.ticked = if i.state = .noSignal then i else { i with loss := i.loss + 1 } := by
  simp [CaptureInput.ticked, h]

theorem State.tickInputs_eq (s : State) (which : BitVec 16) :
    s.tickInputs which =
      { s with
        inputs := mapBank s.inputs fun c i => if which.getLsbD c.val then i.ticked else i
        port := { s.port with
          capture := mapBank s.port.capture fun c ts =>
            if which.getLsbD c.val && (s.inputs[c]).losing then orphan ts else ts }
        link := if anyBank s.inputs fun c i => which.getLsbD c.val && i.losing then s.link.withCausesSet causeSourceEvent
          else s.link } := by
  unfold State.tickInputs
  dsimp only
  rw [State.raiseIf_eq]
  cases anyBank s.inputs fun c i => which.getLsbD c.val && i.losing
  · simp only [Bool.false_eq_true, if_false, State.withInputs, State.withPort]
  · simp only [if_true, State.withInputs, State.withPort]

theorem State.tickInputs_tickedInto (s : State) (which : BitVec 16) : s.tickedInto (s.tickInputs which) which := by
  have hloses (k : Fin 16) : (which.getLsbD k.val && (s.inputs[k]).losing) = true ↔
      which.getLsbD k.val = true ∧ (s.inputs[k]).state ≠ .noSignal ∧ 250 ≤ (s.inputs[k]).loss + 1 := by
    rw [Bool.and_eq_true, CaptureInput.losing_iff]
  rw [State.tickInputs_eq]
  refine ⟨fun k => ⟨fun h => ?_, fun h => ?_⟩, fun ⟨k, hk⟩ => ?_, fun h => ?_, rfl⟩
  · have hl := (hloses k).mpr h
    simp only [mapBank_get]
    rw [if_pos hl, if_pos h.1]
    rw [Bool.and_eq_true] at hl
    exact ⟨CaptureInput.ticked_losing hl.2, rfl⟩
  · have hl : ¬ (which.getLsbD k.val && (s.inputs[k]).losing) = true := fun g => h ((hloses k).mp g)
    simp only [mapBank_get]
    rw [if_neg hl]
    refine ⟨rfl, ?_⟩
    by_cases hw : which.getLsbD k.val = true
    · have hn : (s.inputs[k]).losing = false := by simpa [hw] using hl
      rw [if_pos hw, CaptureInput.ticked_other hn]
      simp only [hw, Bool.true_eq_false, false_or]
    · rw [if_neg hw, if_pos (.inl (by simpa using hw))]
  · exact if_pos ((anyBank_eq_true _ _).mpr ⟨k, (hloses k).mpr hk⟩)
  · exact if_neg fun g => by
      obtain ⟨k, hk⟩ := (anyBank_eq_true _ _).mp g
      exact h k ((hloses k).mp hk)

/-! ## The interval -/

/-- The source unit and the capture inputs of a set take the interval, and the alarm contact unit has not to. -/
theorem State.unitsTick_tookInterval (s : State) (high : Groups) (sources : Bool) (inputs : BitVec 16) :
    s.tookInterval (s.unitsTick sources inputs) high false sources inputs := by
  refine ⟨s, if sources then s.ageSources else s, rfl, ?_, State.tickInputs_tickedInto _ _⟩
  cases sources
  · rfl
  · exact s.ageSources_agedInto

/-- The alarm contact unit takes the interval too. -/
theorem State.alarmTakes_tookInterval (s : State) (high : Groups) (sources : Bool) (inputs : BitVec 16) :
    s.tookInterval ((s.alarmTakes (.interval high)).unitsTick sources inputs) high true sources inputs := by
  obtain ⟨u, v, hu, hv, ht⟩ := (s.alarmTakes (.interval high)).unitsTick_tookInterval high sources inputs
  have hu' : u = s.alarmTakes (.interval high) := hu
  subst hu'
  exact ⟨_, v, s.alarmTakes_given high, hv, ht⟩

end Sys2Proof.Machine
end

section
/-! Cause bits, and the millisecond interval of the source unit and the capture inputs, which come in any order with the alarm
contact unit's (R3, R186, R187). -/

namespace Sys2Proof.Machine

open Sys2Proof

/-! ## Cause bits (R186, R187) -/

/-- Setting bits one set after another is setting them together: one MSI is sent at most. -/
theorem Link.withCausesSet_withCausesSet (l : Link) (a b : BitVec 8) :
    (l.withCausesSet a).withCausesSet b = l.withCausesSet (a ||| b) := by
  have hor (x y : BitVec 8) : (x ||| y) &&& l.causeEnable = 0 ↔ x &&& l.causeEnable = 0 ∧ y &&& l.causeEnable = 0 := by
    rw [BitVec.and_comm, BitVec.and_or_distrib_left, BitVec.and_comm, BitVec.and_comm (x := l.causeEnable)]
    exact BitVec.or_eq_zero_iff
  simp only [Link.withCausesSet, Link.withCauses, BitVec.or_assoc, List.append_assoc, ne_eq, hor]
  congr 2
  by_cases hc : l.cause &&& l.causeEnable = 0#8
  · by_cases ha : a &&& l.causeEnable = 0#8
    · simp [hc, ha]
    · simp [hc, ha]
  · simp [hc]

theorem Link.withCausesSet_comm (l : Link) (a b : BitVec 8) :
    (l.withCausesSet a).withCausesSet b = (l.withCausesSet b).withCausesSet a := by
  rw [l.withCausesSet_withCausesSet, l.withCausesSet_withCausesSet, BitVec.or_comm]

@[simp] theorem Link.withCausesSet_zero (l : Link) : l.withCausesSet 0#8 = l := by
  unfold Link.withCausesSet Link.withCauses
  by_cases h : l.cause &&& l.causeEnable = 0#8
  · simp [h]
  · simp [h]

/-- The bits that are set when something holds. -/
def causesIf (b : Bool) (bits : BitVec 8) : BitVec 8 := if b then bits else 0#8

theorem State.raiseIf_causes (s : State) (b : Bool) (bits : BitVec 8) :
    s.raiseIf b bits = s.withLink (s.link.withCausesSet (causesIf b bits)) := by
  rw [State.raiseIf_eq]
  cases b
  · simp [causesIf, State.withLink]
  · rfl

/-! ## The interval of the source unit and the capture inputs -/

/-- The source unit once it has taken an interval, when `sources` says so. -/
def SourceUnit.agedIf (u : SourceUnit) (sources : Bool) : SourceUnit :=
  if sources then (if u.frames.isEmpty then u.intervals 1 else { u with frames := intervalAfter u.frames }) else u

/-- The capture inputs once those of a set have taken an interval (R113). -/
def tickedInputs (inputs : Vector CaptureInput 16) (which : BitVec 16) : Vector CaptureInput 16 :=
  mapBank inputs fun c i => if which.getLsbD c.val then i.ticked else i

/-- Their transfers: one that waits for an input that loses its signal has nothing follow it. -/
def tickedQueues (inputs : Vector CaptureInput 16) (queues : Vector (List Transfer) 16) (which : BitVec 16) :
    Vector (List Transfer) 16 :=
  mapBank queues fun c ts => if which.getLsbD c.val && (inputs[c]).losing then orphan ts else ts

/-- Some input of the set loses its signal. -/
def someLoses (inputs : Vector CaptureInput 16) (which : BitVec 16) : Bool :=
  anyBank inputs fun c i => which.getLsbD c.val && i.losing

/-- All that the interval does to the source unit, the capture inputs, their transfers and the cause bits. -/
theorem State.unitsTick_eq (s : State) (sources : Bool) (which : BitVec 16) :
    s.unitsTick sources which =
      { s with
        sources := s.sources.agedIf sources
        inputs := tickedInputs s.inputs which
        port := { s.port with capture := tickedQueues s.inputs s.port.capture which }
        link := s.link.withCausesSet (causesIf (someLoses s.inputs which) causeSourceEvent) } := by
  unfold State.unitsTick State.tickInputs
  dsimp only
  rw [State.raiseIf_causes]
  cases sources
  · simp only [Bool.false_eq_true, if_false, State.withLink, State.withPort, State.withInputs, SourceUnit.agedIf,
      tickedInputs, tickedQueues, someLoses]
  · simp only [if_true, State.ageSources, State.withSources, State.withLink, State.withPort, State.withInputs,
      SourceUnit.agedIf, tickedInputs, tickedQueues, someLoses]

theorem State.unitsTick_raiseIf (s : State) (sources : Bool) (which : BitVec 16) (b : Bool) (bits : BitVec 8) :
    (s.raiseIf b bits).unitsTick sources which = (s.unitsTick sources which).raiseIf b bits := by
  rw [State.raiseIf_causes, State.raiseIf_causes, State.unitsTick_eq, State.unitsTick_eq]
  dsimp only [State.withLink]
  rw [Link.withCausesSet_comm]

theorem State.unitsTick_makeMoves (s : State) (sources : Bool) (which : BitVec 16) (alarms : Vector AlarmInput 8) :
    (s.makeMoves alarms).unitsTick sources which = (s.unitsTick sources which).makeMoves alarms := by
  rw [State.makeMoves_eq, State.makeMoves_eq, State.unitsTick_eq, State.unitsTick_eq]

theorem State.unitsTick_withAlarmsLater (s : State) (sources : Bool) (which : BitVec 16) (later : List (List AlarmStep)) :
    (s.withAlarmsLater later).unitsTick sources which = (s.unitsTick sources which).withAlarmsLater later := by
  rw [State.unitsTick_eq, State.unitsTick_eq]
  rfl

/-- The alarm contact unit and the other units take an interval in either order. -/
theorem State.unitsTick_alarmTakes (s : State) (sources : Bool) (which : BitVec 16) (step : AlarmStep) :
    (s.alarmTakes step).unitsTick sources which = (s.unitsTick sources which).alarmTakes step := by
  have hahead : (s.unitsTick sources which).alarmsAhead = s.alarmsAhead := by simp [State.alarmsAhead]
  unfold State.alarmTakes State.alarmStep State.alarmWork
  rw [hahead, State.unitsTick_alarmsLater, State.unitsTick_alarms]
  split
  · rw [State.unitsTick_makeMoves, State.unitsTick_raiseIf]
  · rw [State.unitsTick_raiseIf, State.unitsTick_withAlarmsLater]

end Sys2Proof.Machine
end

section
/-! What the ring processor's and the source unit's part of a wall frame start does not read: the cause bits, how far a
build has come, and the status writer's copy of it with the page it makes (R59, R62, R92, R191). Two states that differ in
these alone differ in these alone once the start has been taken. -/

namespace Sys2Proof.Machine

open Sys2Proof

/-! ## Values laid over a state -/

/-- Cause bits to set, the state and the shadow of the builder, and what the status writer has of them: its copy of the
builder's state, and the page it writes. -/
structure Overlay where
  causes : BitVec 8
  state : BuilderState
  shadow : Option Bank
  shown : BuilderState
  page : List Transfer

/-- A state with these values in it. -/
def State.under (s : State) (o : Overlay) : State :=
  { s with
    link := s.link.withCausesSet o.causes
    builder := { s.builder with state := o.state, shadow := o.shadow }
    status := { s.status with builder := o.shown }
    port := s.port.setQueue (.control statusWriter) o.page }

theorem vset_vset {α : Type} {n : Nat} (v : Vector α n) (i : Fin n) (x y : α) : vset (vset v i x) i y = vset v i y := by
  simp [vset]

theorem vset_comm {α : Type} {n : Nat} (v : Vector α n) {i j : Fin n} (h : i ≠ j) (x y : α) :
    vset (vset v i x) j y = vset (vset v j y) i x :=
  Vector.set_comm x y (fun e => h (Fin.ext e))

/-! ## Work that reads none of them -/

theorem State.raiseIf_under (s : State) (o : Overlay) (b : Bool) (bits : BitVec 8) :
    (s.under o).raiseIf b bits = (s.raiseIf b bits).under o := by
  rw [State.raiseIf_causes, State.raiseIf_causes]
  unfold State.under State.withLink
  dsimp only
  rw [Link.withCausesSet_comm]

theorem State.issue_under (s : State) (o : Overlay) {k : Fin 5} (h : k ≠ statusWriter) (ts : List Transfer) :
    (s.under o).issue (.control k) ts = (s.issue (.control k) ts).under o := by
  have hq : (vset s.port.control statusWriter o.page)[k] = s.port.control[k] := vset_get_of_ne _ _ h
  unfold State.issue State.under State.withPort Port.issue Port.setQueue Port.queue
  dsimp only
  rw [hq, vset_comm _ (Ne.symm h)]

theorem State.withSources_under (s : State) (o : Overlay) (u : SourceUnit) :
    (s.under o).withSources u = (s.withSources u).under o := rfl

theorem State.commitSources_under (s : State) (o : Overlay) (items : List SourceItem) :
    (s.under o).commitSources items = (s.commitSources items).under o := rfl

theorem State.statusResetInputs_under (s : State) (o : Overlay) (items : List SourceItem) :
    (s.under o).statusResetInputs items = (s.statusResetInputs items).under o := rfl

theorem State.statusTakeSources_under (s : State) (o : Overlay) (done : Fin 32 → Bool) :
    (s.under o).statusTakeSources done = (s.statusTakeSources done).under o := rfl

theorem State.tilesTakeView_under (s : State) (o : Overlay) : (s.under o).tilesTakeView = s.tilesTakeView.under o := rfl

theorem State.frameSources_under (s : State) (o : Overlay) : (s.under o).frameSources = s.frameSources.under o := by
  unfold State.frameSources
  dsimp only
  rw [State.withSources_under, State.issue_under _ _ (by decide)]
  rfl

theorem State.sourceStart_under (s : State) (o : Overlay) (f : SourceFrame) :
    (s.under o).sourceStart f = (s.sourceStart f).under o := by
  unfold State.sourceStart
  dsimp only
  rw [State.commitSources_under, State.statusResetInputs_under, show (s.under o).inputs = s.inputs from rfl,
    State.raiseIf_under, State.frameSources_under]
  obtain ⟨t, ht⟩ : ∃ t, t = ((s.commitSources f.items).statusResetInputs f.items).raiseIf (resetEvent s.inputs f.items)
    causeSourceEvent := ⟨_, rfl⟩
  rw [← ht, show (t.under o).frameSourcesEvent = t.frameSourcesEvent from rfl, State.raiseIf_under,
    show (fun src => !((t.under o).channel src).readsHeader src) = fun src => !(t.channel src).readsHeader src from rfl,
    State.statusTakeSources_under]
  rfl

theorem State.sourceStart_shown (s : State) (f : SourceFrame) : (s.sourceStart f).status.builder = s.status.builder := by
  unfold State.sourceStart State.statusTakeSources
  dsimp only
  simp [State.withStatus, State.statusResetInputs]

/-! ## States that differ in them alone -/

/-- The two states differ by what is laid over the first, but for the page; when `same` holds, not in what the status
writer has. -/
def State.twin (o : Overlay) (same : Prop) (s t : State) : Prop :=
  ∃ page, t = s.under { o with page := page } ∧ (same → o.shown = s.status.builder ∧ page = s.port.control[statusWriter])

theorem State.twin.sources {o : Overlay} {same : Prop} {s t : State} (h : s.twin o same t) : t.sources = s.sources := by
  obtain ⟨page, rfl, -⟩ := h
  rfl

theorem State.twin.ring {o : Overlay} {same : Prop} {s t : State} (h : s.twin o same t) : t.ring = s.ring := by
  obtain ⟨page, rfl, -⟩ := h
  rfl

/-- Work that reads nothing of what is laid over, and leaves what the status writer has of it, keeps two states alike. -/
theorem State.twin.map {o : Overlay} {same : Prop} {s t : State} (h : s.twin o same t) (f : State → State)
    (hf : ∀ page, f (s.under { o with page := page }) = (f s).under { o with page := page })
    (hb : (f s).status.builder = s.status.builder)
    (hq : (f s).port.control[statusWriter] = s.port.control[statusWriter]) : (f s).twin o same (f t) := by
  obtain ⟨page, rfl, hsame⟩ := h
  exact ⟨page, hf page, fun hs => by rw [hb, hq]; exact hsame hs⟩

theorem Port.setQueue_setQueue (p : Port) (r : Requester) (ts us : List Transfer) :
    (p.setQueue r ts).setQueue r us = p.setQueue r us := by
  cases r <;> simp [Port.setQueue, vset_vset]

theorem State.cfg_of_config {s t : State} (h : t.config = s.config) : t.cfg = s.cfg := by rw [State.cfg, h, State.cfg]

theorem State.statusWrite_under (s : State) (o : Overlay) :
    (s.under o).statusWrite =
      s.statusWrite.under { o with page := pageTransfers s.cfg.statusBase { s.status with builder := o.shown } } := by
  unfold State.statusWrite State.setQueue State.withPort State.under
  generalize pageTransfers = pageOf
  dsimp only
  rw [Port.setQueue_setQueue, Port.setQueue_setQueue]
  rfl

theorem State.frameReady_page (s : State) :
    s.frameReady.port.control[statusWriter] = pageTransfers s.cfg.statusBase s.status := by
  have hpage : s.frameReady.port.control[statusWriter] = pageTransfers s.tilesTakeView.cfg.statusBase s.tilesTakeView.status :=
    Port.setQueue_queue _ (.control statusWriter) _
  rw [hpage, State.tilesTakeView_status, State.cfg_of_config s.tilesTakeView_config]

/-- Once the source unit has done its work, the page is written from what the status writer has. -/
theorem State.twin.frameReady {o : Overlay} {same : Prop} {s t : State} (h : s.twin o same t) :
    s.frameReady.twin o same t.frameReady := by
  obtain ⟨page, rfl, hsame⟩ := h
  refine ⟨pageTransfers s.cfg.statusBase { s.status with builder := o.shown }, ?_, fun hs => ⟨(hsame hs).1, ?_⟩⟩
  · rw [State.frameReady, State.frameReady, State.tilesTakeView_under, State.statusWrite_under, State.tilesTakeView_status,
      State.cfg_of_config s.tilesTakeView_config]
  · rw [(hsame hs).1, State.frameReady_page]

theorem State.twin.withSources {o : Overlay} {same : Prop} {s t : State} (h : s.twin o same t) (u : SourceUnit) :
    (s.withSources u).twin o same (t.withSources u) :=
  h.map (fun v => v.withSources u) (fun _ => rfl) rfl rfl

theorem State.twin.sourceStart {o : Overlay} {same : Prop} {s t : State} (h : s.twin o same t) (f : SourceFrame) :
    (s.sourceStart f).twin o same (t.sourceStart f) :=
  h.map (fun u => u.sourceStart f) (fun _ => s.sourceStart_under _ f) (s.sourceStart_shown f)
    (s.sourceStart_controlQueue f (by decide))

theorem State.twin.sourceRun (frames : List SourceFrame) {o : Overlay} {same : Prop} {s t : State} (h : s.twin o same t) :
    (State.sourceRun frames s).twin o same (State.sourceRun frames t) := by
  induction frames generalizing s t with
  | nil =>
    unfold State.sourceRun
    rw [h.sources]
    exact h.withSources _
  | cons f rest ih =>
    have hstart : ((s.withSources { s.sources with frames := rest }).sourceStart f).twin o same
        ((t.withSources { t.sources with frames := rest }).sourceStart f) := by
      rw [h.sources]
      exact (h.withSources _).sourceStart f
    have hjudge : ((t.withSources { t.sources with frames := rest }).sourceStart f).sources.toJudge =
        ((s.withSources { s.sources with frames := rest }).sourceStart f).sources.toJudge := by
      rw [hstart.sources]
    unfold State.sourceRun
    dsimp only
    rw [hjudge]
    split
    · split
      · split
        · exact hstart.frameReady
        · exact ih hstart
      · exact hstart
    · rw [h.sources]
      exact h.withSources _

theorem State.twin.sourceAdvance {o : Overlay} {same : Prop} {s t : State} (h : s.twin o same t) :
    s.sourceAdvance.twin o same t.sourceAdvance := by
  unfold State.sourceAdvance
  rw [h.sources]
  split
  · exact h.sourceRun _
  · exact h

theorem State.twin.handItems {o : Overlay} {same : Prop} {s t : State} (h : s.twin o same t) (items : List SourceItem) :
    (s.handItems items).twin o same (t.handItems items) := by
  have htaken : s.statusTakeRing.twin o same t.statusTakeRing :=
    h.map (fun u => u.statusTakeRing) (fun _ => rfl) rfl rfl
  unfold State.handItems
  dsimp only
  rw [htaken.sources]
  exact (htaken.withSources _).sourceAdvance

theorem State.twin.issue {o : Overlay} {same : Prop} {s t : State} (h : s.twin o same t) {k : Fin 5} (hk : k ≠ statusWriter)
    (ts : List Transfer) : (s.issue (.control k) ts).twin o same (t.issue (.control k) ts) :=
  h.map (fun u => u.issue (.control k) ts) (fun _ => State.issue_under _ _ hk ts) rfl (State.issue_control_of_ne s ts hk.symm)

theorem State.twin.withRing {o : Overlay} {same : Prop} {s t : State} (h : s.twin o same t) (ring : Ring) :
    (s.withRing ring).twin o same (t.withRing ring) :=
  h.map (fun u => u.withRing ring) (fun _ => rfl) rfl rfl

theorem State.twin.lookIn {o : Overlay} {same : Prop} {s t : State} (h : s.twin o same t) (cause : LookCause) :
    (s.lookIn cause).twin o same (t.lookIn cause) := by
  have hring := h.ring
  have hslot (i : Nat) : t.slotAddr i = s.slotAddr i := by
    obtain ⟨page, rfl, -⟩ := h
    rfl
  have hlook : (s.startLook cause).twin o same (t.startLook cause) := by
    unfold State.startLook
    rw [hring, hslot]
    exact (h.withRing _).issue (k := ringProcessor) (by decide) _
  unfold State.lookIn
  rw [hring]
  cases s.ring.state with
  | idle => exact hlook
  | collecting => exact hlook
  | skipping => exact hlook
  | awaitingCommit => exact h
  | writingBack => exact h

theorem State.twin.commitWith {o : Overlay} {same : Prop} {s t : State} (h : s.twin o same t) (n : Word)
    (found : List (Nat × Nat)) : (s.commitWith n found).twin o same (t.commitWith n found) := by
  have hring := h.ring
  have hslots : t.committedSlots found = s.committedSlots found := by
    obtain ⟨page, rfl, -⟩ := h
    rfl
  have hwrites (held : List Held) : t.writeBack held n = s.writeBack held n := by
    obtain ⟨page, rfl, -⟩ := h
    rfl
  unfold State.commitWith
  dsimp only
  rw [hring, hslots, hwrites]
  exact ((h.withRing _).issue (k := ringProcessor) (by decide) _).handItems _

end Sys2Proof.Machine
end

section
/-! The alarm contact unit's moves and the blocks' part of a wall frame start, in either order (R59, R129, R130). -/

namespace Sys2Proof.Machine

open Sys2Proof

/-! ## Cause bits and alarm inputs beside the blocks' work -/

/-- A state with cause bits set and other alarm inputs: what the alarm contact unit's work leaves, but for the builder. -/
def State.noted (s : State) (causes : BitVec 8) (alarms : Vector AlarmInput 8) : State :=
  { s with link := s.link.withCausesSet causes, alarms := alarms }

theorem State.alarmWork_eq (s : State) (alarms : Vector AlarmInput 8) (moved : Bool) :
    s.alarmWork alarms moved =
      (s.withBuilder (s.builder.afterRaised (raisedSet s.alarms) (raisedSet alarms))).noted
        (causesIf moved causeAlarmEvent) alarms := by
  rw [State.alarmWork, State.makeMoves_eq, State.raiseIf_causes]
  rfl

theorem State.swap_noted (s : State) (causes : BitVec 8) (alarms : Vector AlarmInput 8) :
    (s.noted causes alarms).swap = s.swap.noted causes alarms := by
  unfold State.swap
  rw [show (s.noted causes alarms).swapKind = s.swapKind from rfl]
  cases s.swapKind with
  | none => rfl
  | some kind =>
    dsimp only
    rw [State.raiseIf_causes, State.raiseIf_causes]
    cases kind with
    | group =>
      unfold State.withLink State.noted
      dsimp only
      rw [Link.withCausesSet_comm]
      rfl
    | alarm =>
      unfold State.withLink State.noted
      dsimp only
      rw [Link.withCausesSet_comm]
      rfl

theorem State.completeLate_noted (s : State) (causes : BitVec 8) (alarms : Vector AlarmInput 8) :
    (s.noted causes alarms).completeLate = s.completeLate.noted causes alarms := by
  unfold State.completeLate
  rw [show (s.noted causes alarms).tileInHand = s.tileInHand from rfl]
  cases s.tileInHand with
  | none => rfl
  | some p =>
    dsimp only
    rw [show (s.noted causes alarms).tileResult = s.tileResult from rfl,
      show (s.noted causes alarms).cfg = s.cfg from rfl]
    split
    · rfl
    · rfl
    · rfl

/-- The blocks take a wall frame start without reading the cause bits or the alarm inputs. -/
theorem State.blocksTakeFrame_noted (s : State) (causes : BitVec 8) (alarms : Vector AlarmInput 8) (lastTile : Bool) :
    (s.noted causes alarms).blocksTakeFrame lastTile = (s.blocksTakeFrame lastTile).noted causes alarms := by
  unfold State.blocksTakeFrame
  rw [State.swap_noted, State.completeLate_noted]
  cases lastTile
  · rfl
  · rfl

/-! ## Cause bits beside the ring processor's part -/

/-- What is laid over a state of which only the cause bits differ. -/
def State.own (s : State) (causes : BitVec 8) : Overlay :=
  ⟨causes, s.builder.state, s.builder.shadow, s.status.builder, s.port.control[statusWriter]⟩

theorem State.under_own (s : State) (causes : BitVec 8) : s.under (s.own causes) = s.noted causes s.alarms := by
  unfold State.under State.own Port.setQueue State.noted
  dsimp only
  rw [vset_self]

theorem State.twin_noted (s : State) (causes : BitVec 8) : s.twin (s.own causes) True (s.noted causes s.alarms) :=
  ⟨_, s.under_own causes ▸ rfl, fun _ => ⟨rfl, rfl⟩⟩

/-- Two states that differ by cause bits alone before work that leaves the builder do so after it. -/
theorem State.twin.of_noted {s u v : State} {causes : BitVec 8} (h : u.twin (s.own causes) True v) (hb : u.builder = s.builder) :
    v = u.noted causes u.alarms := by
  obtain ⟨page, rfl, hsame⟩ := h
  obtain ⟨hshown, hpage⟩ := hsame trivial
  rw [← State.under_own]
  unfold State.own at hshown ⊢
  rw [hb, hpage, ← hshown]

theorem State.commitWith_noted (s : State) (causes : BitVec 8) (n : Word) (found : List (Nat × Nat)) :
    (s.noted causes s.alarms).commitWith n found =
      (s.commitWith n found).noted causes (s.commitWith n found).alarms :=
  ((s.twin_noted causes).commitWith n found).of_noted (by simp)

theorem State.ringFrame_noted (s : State) (causes : BitVec 8) (hl : s.ring.look = .none) (ha : s.awaitsFrame = false) :
    (s.noted causes s.alarms).ringFrame = s.ringFrame.noted causes s.ringFrame.alarms := by
  rw [State.ringFrame_looks (s := s.noted causes s.alarms) hl ha, State.ringFrame_looks hl ha]
  exact (((s.twin_noted causes).lookIn _).handItems []).of_noted (by simp)

/-! ## The interval that the alarm unit takes once the builder has heard of it -/

theorem State.unitsTick_withBuilder (s : State) (sources : Bool) (which : BitVec 16) (b : Builder) :
    (s.withBuilder b).unitsTick sources which = (s.unitsTick sources which).withBuilder b := by
  rw [State.unitsTick_eq, State.unitsTick_eq]
  rfl

theorem State.unitsTick_under (s : State) (sources : Bool) (which : BitVec 16) (o : Overlay) :
    (s.under o).unitsTick sources which = (s.unitsTick sources which).under o := by
  rw [State.unitsTick_eq, State.unitsTick_eq]
  unfold State.under Port.setQueue
  dsimp only
  rw [Link.withCausesSet_comm]

theorem State.withBuilder_back {s : State} {b : Builder} (h : s.builder = b) (c : Builder) :
    (s.withBuilder c).withBuilder b = s := by
  subst h
  rfl

/-- The alarm contact unit's interval, of which the builder has heard already. -/
theorem State.alarmTakes_heard {s : State} (hl : s.alarmsLater = []) (high : Groups) (sources : Bool) (which : BitVec 16) :
    ((s.alarmTakes (.interval high)).unitsTick sources which).withBuilder s.builder =
      (s.noted (causesIf (someSettles s.alarms high) causeAlarmEvent) (sampledAll s.alarms high)).unitsTick sources which := by
  have hbuilder (b : Builder) (causes : BitVec 8) (alarms : Vector AlarmInput 8) :
      (s.withBuilder b).noted causes alarms = (s.noted causes alarms).withBuilder b := rfl
  rw [State.alarmTakes_nil _ _ hl, State.alarmStep, State.alarmWork_eq, hbuilder, State.unitsTick_withBuilder]
  exact State.withBuilder_back (State.unitsTick_builder _ _ _) _

end Sys2Proof.Machine
end

section
/-! A wall frame start and a millisecond interval that arrive together (O38). -/

namespace Sys2Proof.Machine

open Sys2Proof

/-! ## Which order the operand asks for -/

theorem State.frameAndInterval_first {s : State} {order : FrameOrder} {x : TogetherInterval} (ha : x.alarmsFirst = true)
    (hb : x.builderFirst = true ∨ s.alarmsLater ≠ []) :
    s.frameAndInterval order x = (s.alarmTakes (.interval x.high)).frameAlone order.setFirst order.lastTile := by
  have hcond : (x.builderFirst || !s.alarmsLater.isEmpty) = true := by simpa using hb
  unfold State.frameAndInterval
  dsimp only
  rw [if_pos ha, if_pos hcond]

theorem State.frameAndInterval_after {s : State} {order : FrameOrder} {x : TogetherInterval} (ha : x.alarmsFirst = true)
    (hb : x.builderFirst = false) (hl : s.alarmsLater = []) :
    s.frameAndInterval order x = s.frameChangeAfter x.high order.lastTile := by
  simp [State.frameAndInterval, ha, hb, hl]

theorem State.frameAndInterval_before {s : State} {order : FrameOrder} {x : TogetherInterval} (ha : x.alarmsFirst = false)
    (hb : x.builderFirst = true) (hl : s.ring.look = .none ∧ s.alarmsLater = []) :
    s.frameAndInterval order x = s.frameChangeBefore x.high order.lastTile := by
  simp [State.frameAndInterval, ha, hb, hl]

theorem State.frameAndInterval_second {s : State} {order : FrameOrder} {x : TogetherInterval} (ha : x.alarmsFirst = false)
    (hb : x.builderFirst = false ∨ ¬ (s.ring.look = .none ∧ s.alarmsLater = [])) :
    s.frameAndInterval order x = (s.frameAlone order.setFirst order.lastTile).alarmTakes (.interval x.high) := by
  have hcond : ¬ (x.builderFirst && (s.ring.look == .none && s.alarmsLater.isEmpty)) = true := by
    rw [Bool.and_eq_true, Bool.and_eq_true, beq_iff_eq, List.isEmpty_iff]
    rintro ⟨h, hl⟩
    rcases hb with hb | hb
    · simp [hb] at h
    · exact hb hl
  unfold State.frameAndInterval
  dsimp only
  rw [if_neg (by simp [ha]), if_neg hcond]

/-! ## The change that reaches the builder after its swap -/

/-- The cause bits that an interval of the alarm contact unit sets. -/
@[irreducible] def State.intervalCauses (s : State) (high : Groups) : BitVec 8 :=
  causesIf (someSettles s.alarms high) causeAlarmEvent

/-- The builder once it has heard of an interval of the alarm contact unit. -/
@[irreducible] def State.builderAfter (s : State) (high : Groups) : Builder :=
  s.builder.afterRaised (raisedSet s.alarms) (raisedSet (sampledAll s.alarms high))

theorem State.sampleContacts_eq (s : State) (high : Groups) :
    s.sampleContacts high =
      (s.withBuilder (s.builderAfter high)).noted (s.intervalCauses high) (sampledAll s.alarms high) := by
  unfold State.sampleContacts State.alarmStep AlarmStep.applied AlarmStep.moves State.builderAfter State.intervalCauses
  dsimp only
  generalize someSettles s.alarms high = moved, sampledAll s.alarms high = alarms
  exact s.alarmWork_eq alarms moved

theorem State.sampleContacts_builder (s : State) (high : Groups) : (s.sampleContacts high).builder = s.builderAfter high := by
  rw [State.sampleContacts_eq]
  rfl

theorem State.frameChangeAfter_eq (s : State) (high : Groups) (lastTile : Bool) :
    let u := s.alarmStep (.interval high)
    let v := (u.withBuilder s.builder).frameAlone false lastTile
    s.frameChangeAfter high lastTile =
      v.withBuilder
        (if raisedSet u.alarms = raisedSet s.alarms then v.builder else v.builder.restarted (raisedSet v.alarms)) := by
  have hmoved : (s.withAlarms (sampledAll s.alarms high)).raiseIf (someSettles s.alarms high) causeAlarmEvent =
      (s.alarmStep (.interval high)).withBuilder s.builder := by
    rw [← State.sampleContacts, State.sampleContacts_eq, State.raiseIf_causes, ← State.intervalCauses]
    generalize s.builderAfter high = b
    rfl
  dsimp only
  unfold State.frameChangeAfter
  dsimp only
  rw [hmoved, State.withBuilder_alarms]
  generalize State.frameAlone _ false lastTile = t
  split
  · rfl
  · exact t.raisedChanged_eq

/-! ## The change that reaches the builder before its swap -/

theorem State.frameChangeBefore_group {s : State} {high : Groups} (ha : s.awaitsFrame = false)
    (hg : (s.sampleContacts high).groupCommits = true) (setFirst lastTile : Bool) :
    s.frameChangeBefore high lastTile = (s.frameAlone setFirst lastTile).alarmTakes (.interval high) := by
  have horder : s.frameAlone true lastTile = s.frameAlone setFirst lastTile := by simp [State.frameAlone, ha]
  simp [State.frameChangeBefore, ha, hg, horder]

/-- The blocks take the start with the builder that has heard of the interval, and a page shows the alarm inputs before it. -/
theorem State.sampled_blocksTakeFrame (s : State) (high : Groups) (lastTile : Bool) :
    let w := (s.withBuilder (s.builderAfter high)).frameBegun.blocksTakeFrame lastTile
    ((s.sampleContacts high).frameBegun.blocksTakeFrame lastTile).withAlarms s.alarms =
      w.noted (s.intervalCauses high) w.alarms := by
  have hbegun : (s.sampleContacts high).frameBegun =
      (s.withBuilder (s.builderAfter high)).frameBegun.noted (s.intervalCauses high) (sampledAll s.alarms high) := by
    rw [s.sampleContacts_eq]
    generalize sampledAll s.alarms high = alarms
    rfl
  dsimp only
  rw [hbegun, State.blocksTakeFrame_noted, State.blocksTakeFrame_alarms]
  rfl

/-- A processor that takes the start as a look event: the interval's moves go past its work. -/
theorem State.frameChangeBefore_looks {s : State} {high : Groups} (hl : s.ring.look = .none) (ha : s.awaitsFrame = false)
    (hg : (s.sampleContacts high).groupCommits = false) (setFirst lastTile : Bool) :
    s.frameChangeBefore high lastTile =
      ((s.withBuilder (s.builderAfter high)).frameAlone setFirst lastTile).noted
        (s.intervalCauses high) (sampledAll s.alarms high) := by
  have hg' : (s.withBuilder (s.builderAfter high)).groupCommits = false := by
    rw [← hg, s.sampleContacts_eq]
    generalize s.builderAfter high = b
    rfl
  have ha' : (s.withBuilder (s.builderAfter high)).awaitsFrame = false := ha
  rw [State.frameAlone_noCommit hg' ha']
  have hbegun : ((s.sampleContacts high).withFrameNo (s.frameNo + 1)).pushFrame = (s.sampleContacts high).frameBegun := by
    rw [s.sampleContacts_eq]
    rfl
  have hblocks := s.sampled_blocksTakeFrame high lastTile
  obtain ⟨w, hw⟩ : ∃ w, w = (s.withBuilder (s.builderAfter high)).frameBegun.blocksTakeFrame lastTile := ⟨_, rfl⟩
  have hwring : w.ring = s.ring := by simp [hw, State.frameBegun]
  have hlook : w.ring.look = .none := by rw [hwring, hl]
  have hawait : w.awaitsFrame = false := by rw [State.awaitsFrame, hwring]; exact ha
  have halarms : (s.sampleContacts high).alarms = sampledAll s.alarms high := by rw [s.sampleContacts_eq]; rfl
  unfold State.frameChangeBefore
  simp only [ha, Bool.false_eq_true, if_false, hg]
  rw [hbegun, hblocks, ← hw, State.ringFrame_noted _ _ hlook hawait, halarms]
  rfl

end Sys2Proof.Machine
end

section
/-! A wall frame start and a millisecond interval that arrive together while a group without edits awaits its commit (O38). -/

namespace Sys2Proof.Machine

open Sys2Proof

/-! ## The commit of a group without edits -/

/-- The alarm inputs once the clears of the group in hand have acted. -/
@[irreducible] def State.clearedAlarms (s : State) : Vector AlarmInput 8 := (applyClears s.ring.pendingClears s.alarms).1

theorem State.clearWork_eq (s : State) :
    s.clearWork.1 =
      (s.withBuilder (s.builder.afterRaised (raisedSet s.alarms) (raisedSet s.clearedAlarms))).noted
        (causesIf (applyClears s.ring.pendingClears s.alarms).2.1 causeAlarmEvent) s.clearedAlarms := by
  unfold State.clearWork State.clearedAlarms
  exact s.alarmWork_eq _ _

theorem State.clearWork_alarms (s : State) : s.clearWork.1.alarms = s.clearedAlarms := by
  rw [State.clearWork_eq]
  rfl

theorem State.clearWork_builder (s : State) :
    s.clearWork.1.builder = s.builder.afterRaised (raisedSet s.alarms) (raisedSet s.clearedAlarms) := by
  rw [State.clearWork_eq]
  rfl

theorem State.frameBegun_clearWork (s : State) : s.frameBegun.clearWork.1 = s.clearWork.1.frameBegun := by
  have halarms : s.frameBegun.clearedAlarms = s.clearedAlarms := by
    unfold State.clearedAlarms
    rfl
  rw [State.clearWork_eq, State.clearWork_eq, halarms]
  rfl

/-- The wall frame start at which a group without edits commits, its clears before the swap (R53, R152). -/
theorem State.frameAlone_commits {s : State} (hg : s.groupCommits = false) (ha : s.awaitsFrame = true) (lastTile : Bool) :
    s.frameAlone true lastTile =
      (s.clearWork.1.frameBegun.blocksTakeFrame lastTile).commitWith (s.frameNo + 1) s.clearWork.2 := by
  rw [← State.frameBegun_clearWork]
  unfold State.frameAlone
  simp only [hg, ha, Bool.and_true, Bool.false_eq_true, if_true, if_false]
  rfl

theorem State.frameChangeBefore_commits {s : State} {high : Groups} (ha : s.awaitsFrame = true)
    (hg : (s.clearWork.1.sampleContacts high).groupCommits = false) (lastTile : Bool) :
    let c := s.clearWork.1
    s.frameChangeBefore high lastTile =
      ((((c.sampleContacts high).frameBegun.blocksTakeFrame lastTile).withAlarms c.alarms).commitWith (s.frameNo + 1)
        s.clearWork.2).withAlarms (sampledAll c.alarms high) := by
  have hno : (s.clearWork.1.sampleContacts high).frameNo = s.frameNo := by simp [State.clearWork]
  have halarms : (s.clearWork.1.sampleContacts high).alarms = sampledAll s.clearWork.1.alarms high := by
    rw [State.sampleContacts_eq]
    rfl
  have hbegun : ((s.clearWork.1.sampleContacts high).withFrameNo (s.frameNo + 1)).pushFrame =
      (s.clearWork.1.sampleContacts high).frameBegun := by
    rw [State.frameBegun, hno]
  dsimp only
  unfold State.frameChangeBefore
  simp only [ha, if_true, hg, Bool.false_eq_true, if_false]
  rw [hbegun, halarms, State.withAlarms_frameNo, State.blocksTakeFrame_frameNo, State.frameBegun, State.pushFrame_frameNo,
    State.withFrameNo_frameNo, hno]

theorem Builder.afterRaised_same (b : Builder) (raised : Groups) : b.afterRaised raised raised = b := by
  rw [Builder.afterRaised, if_pos rfl]

theorem Builder.afterRaised_not_group {b : Builder} (h : b.state ≠ .donePending .group) (old new : Groups) :
    (b.afterRaised old new).state ≠ .donePending .group := by
  unfold Builder.afterRaised
  split
  · exact h
  · exact fun g => by cases g

theorem State.clearWork_no_groupCommit {s : State} (hb : s.builder.state ≠ .donePending .group) (high : Groups) :
    (s.clearWork.1.sampleContacts high).groupCommits = false := by
  rw [Bool.eq_false_iff, ne_eq, State.groupCommits_eq, State.sampleContacts_builder]
  unfold State.builderAfter
  rw [State.clearWork_builder]
  exact Builder.afterRaised_not_group (Builder.afterRaised_not_group hb _ _) _ _

/-! ## Clears that leave the raised set as it was -/

/-- The interval's moves go past the commit, and its change of the raised set is heard before the swap. -/
theorem State.frameChangeBefore_sameRaised {s : State} {high : Groups} (ha : s.awaitsFrame = true)
    (hb : s.builder.state ≠ .donePending .group) (hr : raisedSet s.clearedAlarms = raisedSet s.alarms) (lastTile : Bool) :
    let c := s.clearWork.1
    s.frameChangeBefore high lastTile =
      ((s.withBuilder (c.builderAfter high)).frameAlone true lastTile).noted (c.intervalCauses high)
        (sampledAll c.alarms high) := by
  dsimp only
  have hbuilder : s.clearWork.1.builder = s.builder := by
    rw [State.clearWork_builder, hr, Builder.afterRaised_same]
  have hg' : (s.withBuilder (s.clearWork.1.builderAfter high)).groupCommits = false := by
    rw [← State.clearWork_no_groupCommit hb high, s.clearWork.1.sampleContacts_eq]
    rfl
  have hclear : (s.withBuilder (s.clearWork.1.builderAfter high)).clearWork.1 =
      s.clearWork.1.withBuilder (s.clearWork.1.builderAfter high) := by
    have halarms : (s.withBuilder (s.clearWork.1.builderAfter high)).clearedAlarms = s.clearedAlarms := by
      unfold State.clearedAlarms
      rfl
    rw [State.clearWork_eq, halarms, State.withBuilder_alarms, hr, Builder.afterRaised_same]
    generalize s.clearWork.1.builderAfter high = b
    rw [State.clearWork_eq]
    rfl
  rw [State.frameChangeBefore_commits ha (State.clearWork_no_groupCommit hb high), State.sampled_blocksTakeFrame,
    State.commitWith_noted, State.frameAlone_commits hg' ha, hclear]
  rfl

end Sys2Proof.Machine
end

section
/-! A wall frame start and a millisecond interval that arrive together when the clears that commit there change the raised
set, and the obligation that gathers the orders (O38). -/

namespace Sys2Proof.Machine

open Sys2Proof

/-! ## Clears that change the raised set -/

theorem Builder.afterRaised_rest (b : Builder) (old new : Groups) (state : BuilderState) (shadow : Option Bank) :
    { b.afterRaised old new with state := state, shadow := shadow } = { b with state := state, shadow := shadow } := by
  unfold Builder.afterRaised
  split
  · rfl
  · rfl

theorem State.builderAfter_rest (s : State) (high : Groups) (state : BuilderState) (shadow : Option Bank) :
    { s.builderAfter high with state := state, shadow := shadow } = { s.builder with state := state, shadow := shadow } := by
  unfold State.builderAfter
  exact Builder.afterRaised_rest _ _ _ _ _

/-- The status writer copies how far a build has come. -/
theorem State.statusNewFrame_under (s : State) (state : BuilderState) (shadow : Option Bank) (causes : BitVec 8)
    (alarms : Vector AlarmInput 8) :
    ((s.withBuilder { s.builder with state := state, shadow := shadow }).noted causes alarms).statusNewFrame.withAlarms s.alarms =
      s.statusNewFrame.under ⟨causes, state, shadow, state, []⟩ := by
  have hpage : s.statusNewFrame.port.setQueue (.control statusWriter) [] = s.statusNewFrame.port := by
    rw [show s.statusNewFrame.port = s.port.setQueue (.control statusWriter) [] from rfl, Port.setQueue_setQueue]
  unfold State.under
  rw [hpage]
  rfl

theorem State.tilesNewFrame_under (s : State) (o : Overlay) : (s.under o).tilesNewFrame = s.tilesNewFrame.under o := rfl

theorem State.frameBegun_builder (s : State) : s.frameBegun.builder = s.builder := rfl

/-- The builder once it has heard of an interval of the alarm contact unit, and a build that completes then has (R58). -/
def State.lateBuilder (s : State) (high : Groups) (lastTile : Bool) : Builder :=
  ((s.sampleContacts high).frameBegun.lateBuild lastTile).builder

theorem State.lateBuilder_false (s : State) (high : Groups) : s.lateBuilder high false = s.builderAfter high := by
  rw [State.lateBuilder, State.lateBuild, if_neg Bool.false_ne_true, State.frameBegun_builder, State.sampleContacts_builder]

/-- With no bank to swap, the interval heard before the start changes how far the build has come, and nothing more of the
blocks. -/
theorem State.sampled_blocksTakeFrame_noSwap {s : State} {high : Groups}
    (hs : (s.sampleContacts high).frameBegun.swapKind = none) (lastTile : Bool) :
    let b := s.lateBuilder high lastTile
    ((s.sampleContacts high).frameBegun.blocksTakeFrame lastTile).withAlarms s.alarms =
      (s.frameBegun.statusNewFrame.tilesNewFrame).under ⟨s.intervalCauses high, b.state, b.shadow, b.state, []⟩ := by
  have hlate := (s.sampleContacts high).frameBegun.lateBuild_eq lastTile
  have hrest := s.builderAfter_rest high ((s.sampleContacts high).frameBegun.lateBuild lastTile).builder.state
    ((s.sampleContacts high).frameBegun.lateBuild lastTile).builder.shadow
  unfold State.lateBuilder
  dsimp only
  rw [State.blocksTakeFrame_noSwap hs]
  generalize (s.sampleContacts high).frameBegun.lateBuild lastTile = late at hlate hrest ⊢
  rw [← State.tilesNewFrame_under, ← State.statusNewFrame_under _ _ _ _ (sampledAll s.alarms high),
    show s.frameBegun.builder = s.builder from rfl, ← hrest]
  refine congrArg (fun t => State.withAlarms (State.tilesNewFrame (State.statusNewFrame t)) s.alarms) (hlate.trans ?_)
  rw [s.sampleContacts_eq]
  generalize sampledAll s.alarms high = alarms
  rfl

/-- What the alarm contact unit's interval leaves, with how far the build has come laid over it. -/
theorem State.under_after_interval {s t : State} {high : Groups} (ha : t.alarms = s.alarms) (o : Overlay) :
    (t.under { o with causes := s.intervalCauses high }).withAlarms (sampledAll s.alarms high) =
      (t.sampleContacts high).under { o with causes := 0#8 } := by
  have hcauses : s.intervalCauses high = t.intervalCauses high := by
    unfold State.intervalCauses
    rw [ha]
  have hrest := t.builderAfter_rest high o.state o.shadow
  rw [hcauses, ← ha, t.sampleContacts_eq]
  generalize t.builderAfter high = b at hrest ⊢
  generalize sampledAll t.alarms high = alarms
  unfold State.under State.noted State.withBuilder State.withAlarms
  dsimp only at hrest ⊢
  rw [hrest, Link.withCausesSet_zero]

theorem State.under_self {s : State} {state : BuilderState} {shadow : Option Bank} {shown : BuilderState}
    {page : List Transfer} (hs : state = s.builder.state) (hw : shadow = s.builder.shadow) (hb : shown = s.status.builder)
    (hp : page = s.port.control[statusWriter]) : s.under ⟨0#8, state, shadow, shown, page⟩ = s := by
  subst hs hw hb hp
  refine (s.under_own 0#8).trans ?_
  unfold State.noted
  rw [Link.withCausesSet_zero]

theorem State.builderAfter_building {s : State} {kind : BuildKind} (h : s.builder.state = .building kind 0) (high : Groups) :
    (s.builderAfter high).state = .building kind 0 := by
  unfold State.builderAfter Builder.afterRaised
  split
  · exact h
  · simp [Builder.restarted, h]

theorem State.swapKind_building {s : State} {kind : BuildKind} (h : s.builder.state = .building kind 0) : s.swapKind = none :=
  State.swapKind_none fun _ g => by
    rw [h] at g
    cases g

theorem State.blocksTakeFrame_building {s : State} {kind : BuildKind} (h : s.builder.state = .building kind 0) :
    s.blocksTakeFrame false = s.statusNewFrame.tilesNewFrame :=
  State.blocksTakeFrame_noSwap (State.swapKind_building h) false

theorem State.builderAfter_congr {s t : State} (ha : t.alarms = s.alarms) (hb : t.builder = s.builder) (high : Groups) :
    t.builderAfter high = s.builderAfter high := by
  unfold State.builderAfter
  rw [ha, hb]

/-- While a build has just started, the interval heard before a wall frame start or after it makes no difference to the
blocks but how far the build has come. -/
theorem State.sampled_blocksTakeFrame_twin {s : State} {kind : BuildKind} (hb : s.builder.state = .building kind 0)
    (high : Groups) (lastTile : Bool) :
    let b := s.lateBuilder high lastTile
    (s.frameBegun.blocksTakeFrame false).twin ⟨s.intervalCauses high, b.state, b.shadow, b.state, []⟩ (lastTile = false)
      (((s.sampleContacts high).frameBegun.blocksTakeFrame lastTile).withAlarms s.alarms) := by
  have hheard : (s.sampleContacts high).frameBegun.builder.state = .building kind 0 := by
    rw [State.frameBegun_builder, State.sampleContacts_builder, State.builderAfter_building hb]
  have hfalse : s.frameBegun.blocksTakeFrame false = s.frameBegun.statusNewFrame.tilesNewFrame :=
    State.blocksTakeFrame_building hb
  have hshown : s.frameBegun.statusNewFrame.tilesNewFrame.status.builder = .building kind 0 := by
    rw [State.tilesNewFrame_status]
    exact hb
  refine ⟨[], ?_, fun h => ⟨?_, ?_⟩⟩
  · rw [hfalse]
    exact State.sampled_blocksTakeFrame_noSwap (State.swapKind_building hheard) lastTile
  · dsimp only
    rw [hfalse, hshown, h, State.lateBuilder_false, State.builderAfter_building hb]
  · rw [hfalse]
    exact (vset_get _ _ _).symm

/-- The commit of a group without edits with the interval heard before it differs from the interval after it by how far the
build has come, and by nothing when no build completes between (R53, R58, R59). -/
theorem State.frameChangeBefore_raisedChanged {s : State} {high : Groups} (ha : s.awaitsFrame = true)
    (hb : s.builder.state ≠ .donePending .group) (hr : raisedSet s.clearedAlarms ≠ raisedSet s.alarms) (lastTile : Bool) :
    ∃ state shadow page,
      let t := (s.frameAlone true false).sampleContacts high
      let t' := t.under ⟨0#8, state, shadow, state, page⟩
      s.frameChangeBefore high lastTile = t' ∧ (lastTile = false → t' = t) := by
  have hg : s.groupCommits = false := by rw [Bool.eq_false_iff, ne_eq, State.groupCommits_eq]; exact hb
  have hchange := State.frameChangeBefore_commits ha (State.clearWork_no_groupCommit hb high) lastTile
  obtain ⟨kind, hbuilding⟩ : ∃ kind, s.clearWork.1.builder.state = .building kind 0 := by
    rw [State.clearWork_builder, Builder.afterRaised, if_neg hr]
    exact ⟨_, rfl⟩
  rw [State.frameAlone_commits hg ha false]
  dsimp only at hchange
  generalize s.clearWork.1 = c at *
  obtain ⟨page, hv, hsame⟩ :=
    (State.sampled_blocksTakeFrame_twin hbuilding high lastTile).commitWith (s.frameNo + 1) s.clearWork.2
  rw [hv] at hchange
  have halarms : ((c.frameBegun.blocksTakeFrame false).commitWith (s.frameNo + 1) s.clearWork.2).alarms = c.alarms := by
    simp [State.frameBegun]
  have hbuilder : ((c.frameBegun.blocksTakeFrame false).commitWith (s.frameNo + 1) s.clearWork.2).builder = c.builder := by
    rw [State.blocksTakeFrame_building (s := c.frameBegun) hbuilding]
    simp [State.frameBegun]
  generalize (c.frameBegun.blocksTakeFrame false).commitWith (s.frameNo + 1) s.clearWork.2 = v at *
  refine ⟨(c.lateBuilder high lastTile).state, (c.lateBuilder high lastTile).shadow, page, ?_, fun h => ?_⟩
  · rw [hchange]
    exact State.under_after_interval halarms
      ⟨c.intervalCauses high, (c.lateBuilder high lastTile).state, (c.lateBuilder high lastTile).shadow,
        (c.lateBuilder high lastTile).state, page⟩
  · obtain ⟨hshown, hpage⟩ := hsame h
    have hlate : c.lateBuilder high lastTile = (v.sampleContacts high).builder := by
      rw [h, State.lateBuilder_false, State.sampleContacts_builder, State.builderAfter_congr halarms hbuilder]
    refine State.under_self (congrArg _ hlate) (congrArg _ hlate) ?_ ?_
    · rw [State.sampleContacts_eq]
      exact hshown
    · rw [State.sampleContacts_eq]
      exact hpage

end Sys2Proof.Machine
end

section
/-! A millisecond interval of its own, or together with a wall frame start (O38). -/

namespace Sys2Proof.Machine

open Sys2Proof

theorem exec_millisecondInterval {s : State} (hr : s.control.part = .running) (high : Groups) :
    exec (.millisecondInterval high) s = .next ((s.alarmTakes (.interval high)).unitsTick true (BitVec.allOnes 16)) := by
  show (if s.running then _ else _) = _
  rw [if_pos (by simp [State.running, hr])]

theorem exec_millisecondInterval_idle {s : State} (hr : s.control.part ≠ .running) (high : Groups) :
    exec (.millisecondInterval high) s = .next s := by
  show (if s.running then _ else _) = _
  rw [if_neg (by simp [State.running, hr])]

theorem exec_wallFrameStart_idle {s : State} (hr : s.control.part ≠ .running) (order : FrameOrder) :
    exec (.wallFrameStart order) s = .next s := by
  show Host.Outcome.next (if s.running then s.takeFrame order else s) = _
  rw [if_neg (by simp [State.running, hr])]

/-- The state when an interval that arrives with a wall frame start has reached the units that take it first. -/
def State.unitsBefore (s : State) (x : TogetherInterval) : State := s.unitsTick x.sourcesFirst x.inputsFirst

@[simp] theorem State.unitsBefore_control (s : State) (x : TogetherInterval) : (s.unitsBefore x).control = s.control :=
  s.unitsTick_control _ _
@[simp] theorem State.unitsBefore_builder (s : State) (x : TogetherInterval) : (s.unitsBefore x).builder = s.builder :=
  s.unitsTick_builder _ _
@[simp] theorem State.unitsBefore_alarms (s : State) (x : TogetherInterval) : (s.unitsBefore x).alarms = s.alarms :=
  s.unitsTick_alarms _ _
@[simp] theorem State.unitsBefore_alarmsLater (s : State) (x : TogetherInterval) :
    (s.unitsBefore x).alarmsLater = s.alarmsLater := s.unitsTick_alarmsLater _ _
@[simp] theorem State.unitsBefore_ring (s : State) (x : TogetherInterval) : (s.unitsBefore x).ring = s.ring :=
  s.unitsTick_ring _ _

theorem State.unitsBefore_awaitsFrame (s : State) (x : TogetherInterval) : (s.unitsBefore x).awaitsFrame = s.awaitsFrame := by
  simp [State.awaitsFrame]

theorem State.unitsBefore_builderAfter (s : State) (x : TogetherInterval) (high : Groups) :
    (s.unitsBefore x).builderAfter high = s.builderAfter high := by
  unfold State.builderAfter
  rw [State.unitsBefore_builder, State.unitsBefore_alarms]

/-- The state when it has reached the others. -/
def State.unitsAfter (s : State) (x : TogetherInterval) : State := s.unitsTick (!x.sourcesFirst) (~~~x.inputsFirst)

theorem exec_wallFrameStart_together {order : FrameOrder} {x : TogetherInterval} {s : State} (hi : order.interval = some x)
    (hr : s.control.part = .running) :
    exec (.wallFrameStart order) s = .next (((s.unitsBefore x).frameAndInterval order x).unitsAfter x) := by
  show Host.Outcome.next (if s.running then s.takeFrame order else s) = _
  rw [if_pos (by simp [State.running, hr]), State.takeFrame, hi]
  rfl

section
variable {order : FrameOrder} {x : TogetherInterval} {s : State}

/-- The wall frame start of the operand without its interval. -/
def State.takesStart (u : State) (o : FrameOrder) (v : State) : Prop :=
  exec (.wallFrameStart { o with interval := none }) u = .next v

theorem State.takesStart_frameAlone {u : State} (hr : u.control.part = .running) (o : FrameOrder) :
    u.takesStart o (u.frameAlone o.setFirst o.lastTile) :=
  exec_wallFrameStart_alone (order := { o with interval := none }) rfl hr

theorem State.tookBefore (s : State) (x : TogetherInterval) :
    s.tookInterval (s.unitsBefore x) x.high false x.sourcesFirst x.inputsFirst :=
  s.unitsTick_tookInterval _ _ _

theorem State.tookAfter (s : State) (x : TogetherInterval) :
    s.tookInterval (s.unitsAfter x) x.high false (!x.sourcesFirst) (~~~x.inputsFirst) :=
  s.unitsTick_tookInterval _ _ _

theorem State.alarmsTookBefore (s : State) (x : TogetherInterval) :
    s.tookInterval ((s.unitsBefore x).alarmTakes (.interval x.high)) x.high true x.sourcesFirst x.inputsFirst := by
  rw [State.unitsBefore, ← State.unitsTick_alarmTakes]
  exact s.alarmTakes_tookInterval _ _ _

theorem State.alarmsTookAfter (s : State) (x : TogetherInterval) :
    s.tookInterval ((s.alarmTakes (.interval x.high)).unitsAfter x) x.high true (!x.sourcesFirst) (~~~x.inputsFirst) :=
  s.alarmTakes_tookInterval _ _ _

/-- The alarm contact unit takes the interval and the start whole, one before the other. -/
theorem together_apart (hi : order.interval = some x) (hr : s.control.part = .running)
    (ho : x.alarmsFirst = true ∧ (x.builderFirst = true ∨ s.alarmsLater ≠ []) ∨
      x.alarmsFirst = false ∧ (x.builderFirst = false ∨ ¬ (s.ring.look = .none ∧ s.alarmsLater = []))) :
    ∃ u v t, s.tookInterval u x.high x.alarmsFirst x.sourcesFirst x.inputsFirst ∧ u.takesStart order v ∧
      v.tookInterval t x.high (!x.alarmsFirst) (!x.sourcesFirst) (~~~x.inputsFirst) ∧
      exec (.wallFrameStart order) s = .next t := by
  rw [exec_wallFrameStart_together hi hr]
  rcases ho with ⟨ha, hb⟩ | ⟨ha, hb⟩
  · rw [ha, State.frameAndInterval_first ha (by simpa using hb)]
    exact ⟨_, _, _, s.alarmsTookBefore x, State.takesStart_frameAlone (by simp [hr]) _, State.tookAfter _ x, rfl⟩
  · rw [ha, State.frameAndInterval_second ha (by simpa using hb)]
    exact ⟨_, _, _, s.tookBefore x, State.takesStart_frameAlone (by simp [hr]) _, State.alarmsTookAfter _ x, rfl⟩

/-- The alarm contact unit takes the interval first, and the builder hears of it after its swap. -/
theorem together_heardAfter (hi : order.interval = some x) (hr : s.control.part = .running) (ha : x.alarmsFirst = true)
    (hb : x.builderFirst = false) (hl : s.alarmsLater = []) :
    ∃ u v t, s.tookInterval u x.high true x.sourcesFirst x.inputsFirst ∧
      (u.withBuilder s.builder).takesStart { order with setFirst := false } v ∧
      State.tookInterval (v.withBuilder
          (if raisedSet u.alarms = raisedSet s.alarms then v.builder
            else v.builder.restarted (raisedSet v.alarms))) t x.high false (!x.sourcesFirst) (~~~x.inputsFirst) ∧
      exec (.wallFrameStart order) s = .next t := by
  have hlater : (s.unitsBefore x).alarmsLater = [] := by simp [hl]
  have hchange := (s.unitsBefore x).frameChangeAfter_eq x.high order.lastTile
  dsimp only at hchange
  rw [← State.alarmTakes_nil _ _ hlater] at hchange
  rw [exec_wallFrameStart_together hi hr, State.frameAndInterval_after ha hb hlater, hchange]
  rw [State.unitsBefore_builder, State.unitsBefore_alarms]
  exact ⟨_, _, _, s.alarmsTookBefore x, State.takesStart_frameAlone (by simp [hr]) _, State.tookAfter _ x, rfl⟩

/-! ### The builder hears of the interval before its swap -/

theorem State.frameAlone_looks_alarms {s : State} (hg : s.groupCommits = false) (hl : s.ring.look = .none)
    (ha : s.awaitsFrame = false) (setFirst lastTile : Bool) :
    (s.frameAlone setFirst lastTile).alarms = s.alarms ∧ (s.frameAlone setFirst lastTile).alarmsLater = s.alarmsLater := by
  obtain ⟨w, hw⟩ : ∃ w, w = s.frameBegun.blocksTakeFrame lastTile := ⟨_, rfl⟩
  have hring : w.ring = s.ring := by simp [hw, State.frameBegun]
  have hlook : w.ring.look = .none := by rw [hring, hl]
  have hawait : w.awaitsFrame = false := by rw [State.awaitsFrame, hring]; exact ha
  rw [State.frameAlone_noCommit hg ha, ← hw, State.ringFrame_looks hlook hawait]
  simp [hw, State.frameBegun]

theorem State.frameAlone_commits_alarms {s : State} (hg : s.groupCommits = false) (ha : s.awaitsFrame = true)
    (lastTile : Bool) :
    (s.frameAlone true lastTile).alarms = s.clearedAlarms ∧ (s.frameAlone true lastTile).alarmsLater = s.alarmsLater := by
  rw [State.frameAlone_commits hg ha, ← State.clearWork_alarms]
  simp [State.frameBegun, State.clearWork]

theorem State.unitsAfter_noted_of_taken {s : State} {x : TogetherInterval} (hl : s.alarmsLater = []) :
    ((s.alarmTakes (.interval x.high)).unitsAfter x).withBuilder s.builder =
      (s.noted (s.intervalCauses x.high) (sampledAll s.alarms x.high)).unitsAfter x := by
  unfold State.intervalCauses
  exact State.alarmTakes_heard hl _ _ _

theorem State.intervalCauses_congr {s t : State} (h : t.alarms = s.alarms) (high : Groups) :
    t.intervalCauses high = s.intervalCauses high := by
  unfold State.intervalCauses
  rw [h]

/-- With no group that commits, the interval's moves are made after the start, and the builder has heard of them before. -/
theorem together_heardBefore (hi : order.interval = some x) (hr : s.control.part = .running) (ha : x.alarmsFirst = false)
    (hb : x.builderFirst = true) (hl : s.ring.look = .none ∧ s.alarmsLater = []) (hw : s.awaitsFrame = false)
    (hg : (s.sampleContacts x.high).builder.state ≠ .donePending .group) :
    ∃ u v t, s.tookInterval u x.high false x.sourcesFirst x.inputsFirst ∧
      (u.withBuilder (s.sampleContacts x.high).builder).takesStart order v ∧
      v.tookInterval t x.high true (!x.sourcesFirst) (~~~x.inputsFirst) ∧
      exec (.wallFrameStart order) s = .next (t.withBuilder v.builder) := by
  have hlu : (s.unitsBefore x).ring.look = .none ∧ (s.unitsBefore x).alarmsLater = [] := by simpa using hl
  have hwu : (s.unitsBefore x).awaitsFrame = false := by rw [State.unitsBefore_awaitsFrame, hw]
  have hbuilder := s.unitsBefore_builderAfter x x.high
  have htook := s.tookBefore x
  rw [State.sampleContacts_builder] at hg ⊢
  rw [exec_wallFrameStart_together hi hr, State.frameAndInterval_before ha hb hlu]
  have hru : (s.unitsBefore x).control.part = .running := by simp [hr]
  generalize s.unitsBefore x = u at *
  have hgu : (u.sampleContacts x.high).groupCommits = false := by
    rw [Bool.eq_false_iff, ne_eq, State.groupCommits_eq, State.sampleContacts_builder, hbuilder]
    exact hg
  have hgb : (u.withBuilder (s.builderAfter x.high)).groupCommits = false := by
    rw [Bool.eq_false_iff, ne_eq, State.groupCommits_eq]
    exact hg
  obtain ⟨halarms, hlater⟩ := State.frameAlone_looks_alarms (s := u.withBuilder (s.builderAfter x.high)) hgb hlu.1
    (by simpa [State.awaitsFrame] using hwu) order.setFirst order.lastTile
  refine ⟨u, _, _, htook, State.takesStart_frameAlone (by simpa using hru) _, State.alarmsTookAfter _ x, ?_⟩
  rw [State.frameChangeBefore_looks hlu.1 hwu hgu order.setFirst, State.unitsAfter_noted_of_taken (hlater.trans hlu.2),
    State.intervalCauses_congr (s := u) halarms, halarms, hbuilder, State.withBuilder_alarms]

/-- A GROUP bank that swaps in commits its group before the alarm contact unit takes the start, and so before the interval. -/
theorem together_heardBefore_group (hi : order.interval = some x) (hr : s.control.part = .running) (ha : x.alarmsFirst = false)
    (hb : x.builderFirst = true) (hl : s.ring.look = .none ∧ s.alarmsLater = []) (hw : s.awaitsFrame = false)
    (hg : (s.sampleContacts x.high).builder.state = .donePending .group) :
    ∃ u v t, s.tookInterval u x.high false x.sourcesFirst x.inputsFirst ∧ u.takesStart order v ∧
      v.tookInterval t x.high true (!x.sourcesFirst) (~~~x.inputsFirst) ∧ exec (.wallFrameStart order) s = .next t := by
  have hlu : (s.unitsBefore x).ring.look = .none ∧ (s.unitsBefore x).alarmsLater = [] := by simpa using hl
  have hwu : (s.unitsBefore x).awaitsFrame = false := by rw [State.unitsBefore_awaitsFrame, hw]
  have hgu : ((s.unitsBefore x).sampleContacts x.high).groupCommits = true := by
    rw [State.groupCommits_eq, State.sampleContacts_builder, State.unitsBefore_builderAfter, ← State.sampleContacts_builder]
    exact hg
  rw [exec_wallFrameStart_together hi hr, State.frameAndInterval_before ha hb hlu,
    State.frameChangeBefore_group hwu hgu order.setFirst]
  exact ⟨_, _, _, s.tookBefore x, State.takesStart_frameAlone (by simp [hr]) _, State.alarmsTookAfter _ x, rfl⟩

/-! ### A group without edits that commits at the start -/

/-- Clears that change the raised set have restarted the builder, and nothing swaps. -/
theorem together_commits_raisedChanged {u : State} (hw : u.awaitsFrame = true)
    (hg : u.builder.state ≠ .donePending .group) (hr : raisedSet u.clearedAlarms ≠ raisedSet u.alarms)
    (hl : u.alarmsLater = []) :
    let t := ((u.frameAlone true false).alarmTakes (.interval x.high)).unitsAfter x
    ∃ state shadow page,
      let t' := t.under ⟨0#8, state, shadow, state, page⟩
      (u.frameChangeBefore x.high order.lastTile).unitsAfter x = t' ∧ (order.lastTile = false → t' = t) := by
  have hgc : u.groupCommits = false := by rw [Bool.eq_false_iff, ne_eq, State.groupCommits_eq]; exact hg
  have hlater : (u.frameAlone true false).alarmsLater = [] := (State.frameAlone_commits_alarms hgc hw false).2.trans hl
  obtain ⟨state, shadow, page, hchange, hsame⟩ :=
    State.frameChangeBefore_raisedChanged (high := x.high) hw hg hr order.lastTile
  dsimp only at hchange hsame ⊢
  rw [State.alarmTakes_nil _ _ hlater, ← State.sampleContacts]
  refine ⟨state, shadow, page, ?_, fun h => ?_⟩
  · rw [hchange]
    exact State.unitsTick_under _ _ _ _
  · exact (State.unitsTick_under _ _ _ _).symm.trans (congrArg (State.unitsAfter · x) (hsame h))

/-- Clears that leave the raised set leave the builder the interval's change alone, heard before its swap. -/
theorem together_commits_sameRaised {u : State} (hw : u.awaitsFrame = true)
    (hg : u.builder.state ≠ .donePending .group) (hr : raisedSet u.clearedAlarms = raisedSet u.alarms)
    (hl : u.alarmsLater = []) :
    let b := u.builder.afterRaised (raisedSet u.alarms) (raisedSet (sampledAll u.clearedAlarms x.high))
    let w := (u.withBuilder b).frameAlone true order.lastTile
    (u.frameChangeBefore x.high order.lastTile).unitsAfter x =
      ((w.alarmTakes (.interval x.high)).unitsAfter x).withBuilder w.builder := by
  have hcb : u.clearWork.1.builderAfter x.high =
      u.builder.afterRaised (raisedSet u.alarms) (raisedSet (sampledAll u.clearedAlarms x.high)) := by
    unfold State.builderAfter
    rw [State.clearWork_builder, State.clearWork_alarms, hr, Builder.afterRaised_same]
  dsimp only
  rw [← hcb, State.frameChangeBefore_sameRaised hw hg hr]
  have hgb : (u.withBuilder (u.clearWork.1.builderAfter x.high)).groupCommits = false := by
    rw [Bool.eq_false_iff, ne_eq, State.groupCommits_eq, State.withBuilder_builder, hcb]
    exact Builder.afterRaised_not_group hg _ _
  obtain ⟨halarms, hlater⟩ := State.frameAlone_commits_alarms (s := u.withBuilder (u.clearWork.1.builderAfter x.high)) hgb
    (by simpa [State.awaitsFrame] using hw) order.lastTile
  have hcleared : (u.withBuilder (u.clearWork.1.builderAfter x.high)).clearedAlarms = u.clearWork.1.alarms := by
    rw [State.clearWork_alarms]
    unfold State.clearedAlarms
    rfl
  rw [hcleared] at halarms
  rw [State.unitsAfter_noted_of_taken (hlater.trans hl), State.intervalCauses_congr halarms, halarms]

/-- What lies over a state is how far the build has come and what the status writer has of it. -/
theorem State.under_differs {t t' : State} {state : BuilderState} {shadow : Option Bank} {page : List Transfer}
    (h : t' = t.under ⟨0#8, state, shadow, state, page⟩) :
    (∀ r, r ≠ .control statusWriter → t'.port.queue r = t.port.queue r) ∧
      t' = { t with
        builder := { t.builder with state := t'.builder.state, shadow := t'.builder.shadow }
        status := { t.status with builder := t'.builder.state }, port := t'.port } := by
  subst h
  refine ⟨fun r hr => t.port.setQueue_queue_of_ne page hr, ?_⟩
  unfold State.under
  rw [Link.withCausesSet_zero]

/-- A group without edits commits at the start that comes with the interval, its clears and the interval's moves heard before
the swap (R53, R58, R59, R129). -/
theorem together_commits (hi : order.interval = some x) (hr : s.control.part = .running) (ha : x.alarmsFirst = false)
    (hb : x.builderFirst = true) (hl : s.ring.look = .none ∧ s.alarmsLater = []) (hw : s.awaitsFrame = true)
    (hg : s.builder.state ≠ .donePending .group) :
    ∃ u v t, s.tookInterval u x.high false x.sourcesFirst x.inputsFirst ∧
      u.takesStart { order with setFirst := true, lastTile := false } v ∧
      v.tookInterval t x.high true (!x.sourcesFirst) (~~~x.inputsFirst) ∧
      (raisedSet v.alarms ≠ raisedSet s.alarms →
        ∃ state shadow page,
          let t' := t.under ⟨0#8, state, shadow, state, page⟩
          exec (.wallFrameStart order) s = .next t' ∧ (order.lastTile = false → t' = t)) ∧
      (raisedSet v.alarms = raisedSet s.alarms →
        ∃ w t', (u.withBuilder (s.builder.afterRaised (raisedSet s.alarms) (raisedSet t.alarms))).takesStart
              { order with setFirst := true } w ∧
            w.tookInterval t' x.high true (!x.sourcesFirst) (~~~x.inputsFirst) ∧
            exec (.wallFrameStart order) s = .next (t'.withBuilder w.builder)) := by
  have hlu : (s.unitsBefore x).ring.look = .none ∧ (s.unitsBefore x).alarmsLater = [] := by simpa using hl
  have hwu : (s.unitsBefore x).awaitsFrame = true := by rw [State.unitsBefore_awaitsFrame, hw]
  have hru : (s.unitsBefore x).control.part = .running := by simp [hr]
  have hbuilder : (s.unitsBefore x).builder = s.builder := s.unitsBefore_builder x
  have halarms : (s.unitsBefore x).alarms = s.alarms := s.unitsBefore_alarms x
  have htook := s.tookBefore x
  rw [exec_wallFrameStart_together hi hr, State.frameAndInterval_before ha hb hlu]
  generalize s.unitsBefore x = u at *
  rw [← hbuilder] at hg ⊢
  rw [← halarms]
  have hgu : u.groupCommits = false := by rw [Bool.eq_false_iff, ne_eq, State.groupCommits_eq]; exact hg
  obtain ⟨hcleared, hlater⟩ := State.frameAlone_commits_alarms hgu hwu false
  rw [hlu.2] at hlater
  refine ⟨u, u.frameAlone true false, _, htook, State.takesStart_frameAlone hru _, State.alarmsTookAfter _ x, ?_, ?_⟩
  · rw [hcleared]
    intro hne
    obtain ⟨state, shadow, page, ht, hsame⟩ := together_commits_raisedChanged (order := order) (x := x) hwu hg hne hlu.2
    exact ⟨state, shadow, page, congrArg _ ht, hsame⟩
  · rw [hcleared]
    intro heq
    have hsampled : (((u.frameAlone true false).alarmTakes (.interval x.high)).unitsAfter x).alarms =
        sampledAll u.clearedAlarms x.high := by
      rw [State.unitsAfter, State.unitsTick_alarms, State.alarmTakes_nil _ _ hlater, ← State.sampleContacts,
        State.sampleContacts_eq, hcleared]
      rfl
    rw [hsampled]
    exact ⟨_, _, State.takesStart_frameAlone (by simpa using hru) _, State.alarmsTookAfter _ x,
      congrArg _ (together_commits_sameRaised hwu hg heq hlu.2)⟩

end

/-- Settles O38, by the order of the alarm contact unit and the builder that the operand asks for: the units' work
commutes wherever that order is not what one command after another would give. -/
theorem millisecondIntervalActsOnEveryUnit : Obligations.MillisecondIntervalActsOnEveryUnit := by
  refine ⟨fun high s => ⟨fun hr => exec_millisecondInterval_idle hr high, fun hr => ?_⟩, fun order x s hi =>
    ⟨fun hr => exec_wallFrameStart_idle hr order, fun hr => ⟨together_apart hi hr, fun ha hb hl => ?_, fun ha hb hl hw => ?_,
      fun ha hb hl hs he hg => ?_⟩⟩⟩
  · exact ⟨_, exec_millisecondInterval hr high, s.alarmTakes_tookInterval high _ _⟩
  · exact together_heardAfter hi hr ha hb hl
  · have hawaits : s.awaitsFrame = false := by
      by_contra h
      obtain ⟨hstate, hedits⟩ := s.awaitsFrame_eq.mp (by simpa using h)
      rw [hw hstate] at hedits
      cases hedits
    exact ⟨_, s.sampleContacts_sampledInto x.high, fun hg => together_heardBefore_group hi hr ha hb hl hawaits hg,
      fun hg => together_heardBefore hi hr ha hb hl hawaits hg⟩
  · obtain ⟨u, v, t, hu, hv, ht, hchanged, hkept⟩ := together_commits hi hr ha hb hl (s.awaitsFrame_eq.mpr ⟨hs, he⟩) hg
    refine ⟨u, v, t, hu, hv, ht, fun hne => ?_, hkept⟩
    obtain ⟨state, shadow, page, hexec, hsame⟩ := hchanged hne
    obtain ⟨hqueues, hrest⟩ := State.under_differs (t := t) (page := page) rfl
    exact ⟨_, hexec, hsame, hqueues, hrest⟩

end Sys2Proof.Machine
end

section
/-! Windows: the effective border, the interior, and when a window is raised and drawn (O13). -/

namespace Sys2Proof.Machine

open Sys2Proof

/-! ## The effective border and the interior (R22) -/

theorem WindowRec.effBorder_le (w : WindowRec) :
    w.effBorder ≤ w.border ∧ w.effBorder ≤ w.w / 2 ∧ w.effBorder ≤ w.h / 2 := by
  simp only [WindowRec.effBorder]
  omega

theorem WindowRec.effBorder_cases (w : WindowRec) :
    w.effBorder = w.border ∨ w.effBorder = w.w / 2 ∨ w.effBorder = w.h / 2 := by
  simp only [WindowRec.effBorder]
  omega

/-- The interior and the border on either side make up the window. -/
theorem WindowRec.interior_add_border (w : WindowRec) :
    w.interiorW + 2 * w.effBorder = w.w ∧ w.interiorH + 2 * w.effBorder = w.h := by
  obtain ⟨_, hw, hh⟩ := w.effBorder_le
  simp only [WindowRec.interiorW, WindowRec.interiorH]
  omega

/-- A pixel of the interior lies within both interior sides. -/
theorem WindowRec.inInterior_iff (w : WindowRec) (cx cy : Nat) :
    w.inInterior cx cy = true ↔
      (w.x + w.effBorder ≤ cx ∧ cx < w.x + w.effBorder + w.interiorW) ∧
        (w.y + w.effBorder ≤ cy ∧ cy < w.y + w.effBorder + w.interiorH) := by
  obtain ⟨hw, hh⟩ := w.interior_add_border
  simp only [WindowRec.inInterior, Bool.and_eq_true, decide_eq_true_eq]
  omega

/-! ## Raised and drawn windows (R24) -/

theorem WindowRec.raised_iff (w : WindowRec) (R : Groups) :
    w.raised R = true ↔ ∃ g : Nat, g < 8 ∧ w.mask.getLsbD g = true ∧ R.getLsbD g = true := by
  rw [WindowRec.raised, bne_iff_ne]
  constructor
  · intro h
    by_contra hno
    refine h (BitVec.eq_of_getLsbD_eq fun g hg => ?_)
    simpa using fun hm hR => hno ⟨g, hg, hm, hR⟩
  · rintro ⟨g, _, hm, hR⟩ h
    simpa [hm, hR] using congrArg (fun v => v.getLsbD g) h

theorem WindowRec.drawn_iff (w : WindowRec) (R : Groups) :
    w.drawn R = true ↔ w.visible = true ∧ (w.alarmOnly = false ∨ w.raised R = true) := by
  simp [WindowRec.drawn]

/-- Settles O13, clause by clause from the equations of the derived values. -/
theorem windowInteriorAndDrawing : Obligations.WindowInteriorAndDrawing := by
  intro w hw hh
  obtain ⟨hb, hbw, hbh⟩ := w.effBorder_le
  obtain ⟨hiw, hih⟩ := w.interior_add_border
  refine ⟨⟨hb, hbw, hbh, w.effBorder_cases⟩, ⟨hiw, hih⟩, ⟨by omega, by omega⟩, fun hnone cx cy => ?_,
    fun R => ⟨w.raised_iff R, fun hm => ?_, w.drawn_iff R⟩⟩
  · rw [Bool.eq_false_iff, ne_eq, w.inInterior_iff]
    omega
  · simp [WindowRec.raised, hm]

end Sys2Proof.Machine
end

section
/-! Window tables: every operation on a table keeps it well formed, and a scene that passes its check holds a well-formed
table (R20, R27 to R32). -/

namespace Sys2Proof.Machine

open Sys2Proof

/-! ## Records (R20, R161) -/

/-- A check that answers no detail has passed, and so have those after it. -/
theorem check_none {p : Prop} [Decidable p] {detail : Nat} {rest : Option Nat} :
    (if p then some detail else rest) = none ↔ ¬ p ∧ rest = none := by
  split <;> simp [*]

/-- The check of a record, whose source is a byte, passes exactly the records in range (R158, R161). -/
theorem WindowRec.fault_none_iff {w : WindowRec} (hs : w.source ≤ 255) : w.fault = none ↔ w.inRange := by
  simp only [WindowRec.fault, check_none, WindowRec.inRange, and_true]
  omega

/-- A record as bytes hold it is in range when it passes its check. -/
theorem windowAt_inRange {bs : List Byte} {o : Nat} (h : (windowAt bs o).fault = none) : (windowAt bs o).inRange :=
  (WindowRec.fault_none_iff (Nat.le_of_lt_succ (byteAt bs (o + 2)).isLt)).mp h

theorem idOf_val {n : Nat} (h : n ≤ 63) : (idOf n).val = n := Nat.mod_eq_of_lt (by omega)

theorem idOf_eq {n : Nat} {i : Fin 64} (h : n = i.val) : idOf n = i := by
  subst h
  exact Fin.ext (Nat.mod_eq_of_lt i.isLt)

/-! ## Which ids a table holds after an edit (R28, R29) -/

theorem Table.has_put (t : Table) (i j : Fin 64) (w : WindowRec) : (t.put i w).has j = (decide (j = i) || t.has j) := by
  simp only [Table.has, Table.put, vset_get_eq]
  by_cases h : j = i <;> simp [h]

theorem Table.has_remove (t : Table) (i j : Fin 64) : (t.remove i).has j = (decide (j ≠ i) && t.has j) := by
  simp only [Table.has, Table.remove, vset_get_eq]
  by_cases h : j = i <;> simp [h]

theorem mem_withoutId {stack : List (Fin 64)} {i j : Fin 64} : j ∈ withoutId stack i ↔ j ∈ stack ∧ j ≠ i := by
  simp [withoutId]

/-- Taken out and put back at the front, an id leaves the list the same but for its order. -/
theorem cons_withoutId_perm {stack : List (Fin 64)} {i : Fin 64} (hn : stack.Nodup) (hi : i ∈ stack) :
    (i :: withoutId stack i).Perm stack := by
  rw [withoutId, ← hn.erase_eq_filter]
  exact (List.perm_cons_erase hi).symm

/-! ## Insertion at a reference (R30) -/

theorem insertAfter_absent {stack : List (Fin 64)} {ref : Fin 64} (h : ref ∉ stack) (i : Fin 64) :
    insertAfter stack ref i = stack := by
  induction stack with
  | nil => rfl
  | cons j rest ih =>
    rw [List.mem_cons, not_or] at h
    simpa [insertAfter, Ne.symm h.1] using ih h.2

theorem insertBefore_absent {stack : List (Fin 64)} {ref : Fin 64} (h : ref ∉ stack) (i : Fin 64) :
    insertBefore stack ref i = stack := by
  induction stack with
  | nil => rfl
  | cons j rest ih =>
    rw [List.mem_cons, not_or] at h
    simpa [insertBefore, Ne.symm h.1] using ih h.2

/-- In a list without repeats the reference stands at one place, apart from what lies below and above it. -/
theorem split_at_ref {stack lower upper : List (Fin 64)} {ref : Fin 64} (hn : stack.Nodup)
    (h : stack = lower ++ ref :: upper) : ref ∉ lower ∧ ref ∉ upper := by
  subst h
  rw [List.nodup_middle, List.nodup_cons, List.mem_append, not_or] at hn
  exact hn.1

theorem insertAfter_split {stack lower upper : List (Fin 64)} {ref : Fin 64} (hn : stack.Nodup)
    (h : stack = lower ++ ref :: upper) (i : Fin 64) : insertAfter stack ref i = lower ++ ref :: i :: upper := by
  obtain ⟨hl, hu⟩ := split_at_ref hn h
  calc insertAfter stack ref i = insertAfter lower ref i ++ ref :: i :: insertAfter upper ref i := by
        simp [h, insertAfter]
    _ = _ := by rw [insertAfter_absent hl, insertAfter_absent hu]

theorem insertBefore_split {stack lower upper : List (Fin 64)} {ref : Fin 64} (hn : stack.Nodup)
    (h : stack = lower ++ ref :: upper) (i : Fin 64) : insertBefore stack ref i = lower ++ i :: ref :: upper := by
  obtain ⟨hl, hu⟩ := split_at_ref hn h
  calc insertBefore stack ref i = insertBefore lower ref i ++ i :: ref :: insertBefore upper ref i := by
        simp [h, insertBefore]
    _ = _ := by rw [insertBefore_absent hl, insertBefore_absent hu]

/-- A placement asks for no reference, or for one that stands in the list. -/
def Placement.refIn (p : Placement) (stack : List (Fin 64)) : Prop :=
  match p with
  | .top | .bottom => True
  | .above ref | .below ref => ref ∈ stack

/-- A restacked table holds the same ids in another order. -/
theorem Table.restack_perm {t : Table} {i : Fin 64} {p : Placement} (hn : t.stack.Nodup) (hi : i ∈ t.stack)
    (hp : p.refIn (withoutId t.stack i)) : (t.restack i p).stack.Perm t.stack := by
  refine List.Perm.trans ?_ (cons_withoutId_perm hn hi)
  have hrest : (withoutId t.stack i).Nodup := hn.filter _
  cases p with
  | top => exact List.perm_append_singleton i _
  | bottom => exact .refl _
  | above ref =>
    obtain ⟨lower, upper, h⟩ := List.append_of_mem hp
    show (insertAfter (withoutId t.stack i) ref i).Perm _
    rw [insertAfter_split hrest h, h]
    simpa using List.perm_middle (l₁ := lower ++ [ref]) (l₂ := upper)
  | below ref =>
    obtain ⟨lower, upper, h⟩ := List.append_of_mem hp
    show (insertBefore (withoutId t.stack i) ref i).Perm _
    rw [insertBefore_split hrest h, h]
    exact List.perm_middle

/-! ## Well-formed tables (R20, R27) -/

theorem Table.empty_wellFormed : Table.empty.wellFormed := by
  simp [Table.wellFormed, Table.empty, Table.has]

theorem Table.wellFormed.nodup {t : Table} (h : t.wellFormed) : t.stack.Nodup := h.1

theorem Table.wellFormed.mem_iff {t : Table} (h : t.wellFormed) (i : Fin 64) : i ∈ t.stack ↔ t.has i = true := h.2.1 i

theorem Table.put_wellFormed {t : Table} (h : t.wellFormed) {i : Fin 64} {w : WindowRec} (hid : w.id = i.val)
    (hw : w.inRange) : (t.put i w).wellFormed := by
  obtain ⟨hn, hmem, hrec⟩ := h
  refine ⟨?_, fun j => ?_, fun j v hv => ?_⟩
  · unfold Table.put
    split
    · exact hn
    · exact hn.append (List.nodup_singleton i) (by simpa [hmem i] using ‹¬ t.has i = true›)
  · rw [Table.has_put, Bool.or_eq_true, decide_eq_true_eq, ← hmem j]
    unfold Table.put
    split
    · exact ⟨.inr, fun hj => hj.elim (fun h => h ▸ (hmem i).mpr ‹_›) id⟩
    · rw [List.mem_append, List.mem_singleton, or_comm]
  · simp only [Table.put, vset_get_eq] at hv
    split at hv
    · cases hv
      exact ⟨by rw [hid, ‹j = i›], hw⟩
    · exact hrec j v hv

theorem Table.remove_wellFormed {t : Table} (h : t.wellFormed) (i : Fin 64) : (t.remove i).wellFormed := by
  obtain ⟨hn, hmem, hrec⟩ := h
  refine ⟨hn.filter _, fun j => ?_, fun j v hv => ?_⟩
  · rw [Table.has_remove, Bool.and_eq_true, decide_eq_true_eq, ← hmem j, and_comm]
    exact mem_withoutId
  · simp only [Table.remove, vset_get_eq] at hv
    split at hv
    · cases hv
    · exact hrec j v hv

/-- A table of which the list alone changes, into another order of the same ids, stays well formed. -/
theorem Table.wellFormed.reorder {t u : Table} (h : t.wellFormed) (hrec : u.records = t.records)
    (hp : u.stack.Perm t.stack) : u.wellFormed := by
  obtain ⟨hn, hmem, hrange⟩ := h
  have hhas (i : Fin 64) : u.has i = t.has i := by rw [Table.has, hrec, Table.has]
  refine ⟨hp.nodup_iff.mpr hn, fun i => ?_, fun i w hw => hrange i w (hrec ▸ hw)⟩
  rw [hp.mem_iff, hhas i]
  exact hmem i

theorem Table.restack_wellFormed {t : Table} (h : t.wellFormed) {i : Fin 64} {p : Placement} (hi : i ∈ t.stack)
    (hp : p.refIn (withoutId t.stack i)) : (t.restack i p).wellFormed :=
  h.reorder rfl (Table.restack_perm h.nodup hi hp)

/-! ## Scenes (R32, R167, R168) -/

/-- What the check of a scene has found when it finds no fault: the count is that of the presence mask, no entry of the
list is bad, and no record present has a fault. -/
theorem sceneFault_none {scene : List Byte} (h : sceneFault scene = none) :
    sceneCount scene = scenePopulation scene ∧ (∀ p, p < sceneCount scene → sceneEntryBad scene p = false) ∧
      ∀ i, i < 64 → scenePresent scene i = true → sceneRecordFault scene i = none := by
  unfold sceneFault at h
  split at h
  · cases h
  split at h
  · cases h
  rename_i hcount
  split at h
  · cases h
  rename_i hentries
  refine ⟨not_not.mp hcount, fun p hp => ?_, fun i hi hpres => ?_⟩
  · simpa using List.find?_eq_none.mp hentries p (List.mem_range.mpr hp)
  · simpa [hpres] using List.findSome?_eq_none_iff.mp h i (List.mem_range.mpr hi)

/-- An entry that is not bad is an id present that no entry before it has. -/
theorem sceneEntry_good {scene : List Byte} {p : Nat} (h : sceneEntryBad scene p = false) :
    sceneEntry scene p ≤ 63 ∧ scenePresent scene (sceneEntry scene p) = true ∧
      ∀ q, q < p → sceneEntry scene q ≠ sceneEntry scene p := by
  simpa [sceneEntryBad, and_assoc] using h

/-- A record without a fault carries its own id and is in range (R167, check 4). -/
theorem sceneRecord_good {scene : List Byte} {i : Nat} (h : sceneRecordFault scene i = none) :
    (sceneRecord scene i).id = i ∧ (sceneRecord scene i).inRange := by
  unfold sceneRecordFault at h
  dsimp only at h
  split at h
  · cases h
  · exact ⟨not_not.mp ‹_›, windowAt_inRange h⟩

/-- The ids that a scene's presence mask names. -/
def scenePresentIds (scene : List Byte) : List (Fin 64) := (List.finRange 64).filter fun i => scenePresent scene i.val

theorem scenePresentIds_length (scene : List Byte) : (scenePresentIds scene).length = scenePopulation scene := by
  rw [scenePopulation, ← List.map_coe_finRange_eq_range, List.filter_map, List.length_map]
  rfl

theorem mem_scenePresentIds {scene : List Byte} {i : Fin 64} :
    i ∈ scenePresentIds scene ↔ (sceneTable scene).has i = true := by
  simp [scenePresentIds, Table.has, sceneTable]

theorem sceneTable_nodup {scene : List Byte} (h : ∀ p, p < sceneCount scene → sceneEntryBad scene p = false) :
    (sceneTable scene).stack.Nodup := by
  refine List.Nodup.map_on (fun p hp q hq heq => ?_) List.nodup_range
  obtain ⟨hpid, -, hpfirst⟩ := sceneEntry_good (h p (List.mem_range.mp hp))
  obtain ⟨hqid, -, hqfirst⟩ := sceneEntry_good (h q (List.mem_range.mp hq))
  have hval : sceneEntry scene p = sceneEntry scene q := by
    rw [← idOf_val hpid, ← idOf_val hqid, heq]
  rcases Nat.lt_trichotomy p q with hlt | rfl | hlt
  · exact absurd hval (hqfirst p hlt)
  · rfl
  · exact absurd hval.symm (hpfirst q hlt)

/-- The list of a scene that passes its check is an order of the ids present: it repeats none, names no other, and is as
long as they are many. -/
theorem sceneTable_perm {scene : List Byte} (h : sceneFault scene = none) :
    (sceneTable scene).stack.Perm (scenePresentIds scene) := by
  obtain ⟨hcount, hentries, -⟩ := sceneFault_none h
  refine ((sceneTable_nodup hentries).subperm fun i hi => ?_).perm_of_length_le ?_
  · obtain ⟨p, hp, rfl⟩ := List.mem_map.mp hi
    obtain ⟨hid, hpres, -⟩ := sceneEntry_good (hentries p (List.mem_range.mp hp))
    simpa [scenePresentIds, idOf_val hid] using hpres
  · simp [scenePresentIds_length, ← hcount, sceneTable]

theorem sceneTable_wellFormed {scene : List Byte} (h : sceneFault scene = none) : (sceneTable scene).wellFormed := by
  obtain ⟨-, hentries, hrecords⟩ := sceneFault_none h
  refine ⟨sceneTable_nodup hentries, fun i => ?_, fun i w hw => ?_⟩
  · rw [(sceneTable_perm h).mem_iff, mem_scenePresentIds]
  · simp only [sceneTable, Fin.getElem_fin, Vector.getElem_ofFn] at hw
    split at hw
    · cases hw
      exact sceneRecord_good (hrecords i.val i.isLt ‹_›)
    · cases hw

end Sys2Proof.Machine
end

section
/-! Slots that restack, take a scene or configure a source, and what their checks make of the draft (O51). -/

namespace Sys2Proof.Machine

open Sys2Proof

/-! ## A slot that the look has found -/

/-- The slot a look has found posted is taken by the command of its kind. -/
theorem State.takeKind_found {s : State} {slot : List Byte} {kind : Nat} (h : s.hasFound slot kind)
    (check : List Byte → Ring → Verdict) : s.takeKind kind check = s.takeSlot slot (check slot) := by
  obtain ⟨hr, hs, ⟨cause, hl⟩, hp, hk⟩ := h
  have htakes : s.takes = true := by simp [State.takes, State.running, hr, hs]
  have hkind : slotKind slot = kind := hk
  have hfound : s.foundKind kind = some slot := by
    simp [State.foundKind, hl, htakes, (slotPosted_iff slot).mpr hp, hkind]
  rw [State.takeKind, hfound]

/-- A slot found with room in the group is taken as its check says, when the check accepts it. -/
theorem State.takeKind_accepted {s : State} {slot : List Byte} {kind detail : Nat} {check : List Byte → Ring → Verdict}
    {g : Ring} (h : s.hasFound slot kind) (hroom : s.hasRoom) (hn : s.nothingKept slot)
    (hc : check slot s.takingRing =
      .accept detail
        { s.takingRing with
          draft := g.draft, draftDescs := g.draftDescs, pendingSources := g.pendingSources,
          pendingClears := g.pendingClears, pendingSaves := g.pendingSaves }) :
    s.tookSlot (s.takeKind kind check) slot kind detail g := by
  rw [State.takeKind_found h]
  obtain ⟨_, hs, _, _, hk⟩ := h
  exact s.takeSlot_accepted slot kind detail _ g hk hs hroom hn hc

/-! ## RESTACK (R30, R163) -/

/-- The placement that a RESTACK slot asks for. -/
def placementOf (placement ref : Nat) : Placement :=
  if placement = 0 then .top else if placement = 1 then .bottom
  else if placement = 2 then .above (idOf ref) else .below (idOf ref)

/-- What R163 asks of a RESTACK slot: a present id and a placement that needs no reference, or has another present id. -/
def Ring.canRestack (r : Ring) (slot : List Byte) : Prop :=
  (slotByte slot 16 ≤ 63 ∧ r.draft.has (idOf (slotByte slot 16)) = true) ∧ slotByte slot 17 ≤ 3 ∧
    (2 ≤ slotByte slot 17 →
      slotByte slot 18 ≤ 63 ∧ r.draft.has (idOf (slotByte slot 18)) = true ∧ slotByte slot 18 ≠ slotByte slot 16)

theorem checkRestack_accepts {slot : List Byte} {r : Ring} (h : r.canRestack slot) :
    checkRestack slot r =
      acceptRestack r (idOf (slotByte slot 16)) (placementOf (slotByte slot 17) (slotByte slot 18)) := by
  obtain ⟨⟨hid, hhas⟩, hplace, href⟩ := h
  have hrange : ¬ (2 ≤ slotByte slot 17 ∧ 63 < slotByte slot 18) := fun hr => absurd (href hr.1).1 (by omega)
  have hother : ¬ (2 ≤ slotByte slot 17 ∧
      (r.draft.has (idOf (slotByte slot 18)) = false ∨ slotByte slot 18 = slotByte slot 16)) := by
    rintro ⟨h2, hno | heq⟩
    · simp [(href h2).2.1] at hno
    · exact (href h2).2.2 heq
  unfold checkRestack
  dsimp only
  rw [if_neg (by omega), if_neg (by omega), if_neg hrange, if_neg (by simp [hhas]), if_neg hother]
  rfl

theorem checkRestack_refuses {slot : List Byte} {r : Ring} (h : ¬ r.canRestack slot) :
    ∃ code detail, checkRestack slot r = .refuse code detail := by
  unfold checkRestack
  dsimp only
  split
  · exact ⟨_, _, rfl⟩
  split
  · exact ⟨_, _, rfl⟩
  split
  · exact ⟨_, _, rfl⟩
  split
  · exact ⟨_, _, rfl⟩
  split
  · exact ⟨_, _, rfl⟩
  rename_i hid hplace href hhas hother
  rw [not_and, not_or, Bool.not_eq_false] at hother
  exact absurd ⟨⟨by omega, by simpa using hhas⟩, by omega, fun h2 => ⟨by omega, hother h2⟩⟩ h

theorem exec_restack_took {s : State} {slot : List Byte} {i : Fin 64} (h : s.hasFound slot 4) (hroom : s.hasRoom)
    (hn : s.nothingKept slot) (hi : slotByte slot 16 = i.val) (hcan : s.ring.canRestack slot) {stack : List (Fin 64)}
    (hstack : (s.ring.draft.restack i (placementOf (slotByte slot 17) (slotByte slot 18))).stack = stack) :
    ∃ t, exec .restack s = .next t ∧
      s.tookSlot t slot 4 (stack.idxOf i) { s.ring with draft := { s.ring.draft with stack := stack } } := by
  refine ⟨_, rfl, State.takeKind_accepted h hroom hn ?_⟩
  rw [checkRestack_accepts (r := s.takingRing) hcan, idOf_eq hi, ← hstack]
  rfl

/-- RESTACK of a present id, by the placement its slot asks for. -/
theorem restack_moves {s : State} {slot : List Byte} {i : Fin 64} (h : s.hasFound slot 4) (hroom : s.hasRoom)
    (hn : s.nothingKept slot) (hi : slotByte slot 16 = i.val) (hw : s.ring.draft.wellFormed)
    (hmem : i ∈ s.ring.draft.stack) :
    let rest := withoutId s.ring.draft.stack i
    let moved (p : Nat) (stack : List (Fin 64)) : Prop :=
      slotByte slot 17 = p →
        ∃ t, exec .restack s = .next t ∧
          s.tookSlot t slot 4 (stack.idxOf i) { s.ring with draft := { s.ring.draft with stack := stack } }
    moved 0 (rest ++ [i]) ∧ moved 1 (i :: rest) ∧
      ∀ (ref : Fin 64) (lower upper : List (Fin 64)), slotByte slot 18 = ref.val → ref ≠ i →
        rest = lower ++ ref :: upper →
        moved 2 (lower ++ ref :: i :: upper) ∧ moved 3 (lower ++ i :: ref :: upper) := by
  have hpresent : slotByte slot 16 ≤ 63 ∧ s.ring.draft.has (idOf (slotByte slot 16)) = true :=
    ⟨by omega, by rw [idOf_eq hi]; exact (hw.mem_iff i).mp hmem⟩
  have hrest : (withoutId s.ring.draft.stack i).Nodup := hw.nodup.filter _
  refine ⟨fun hp => ?_, fun hp => ?_, fun ref lower upper href hne hsplit => ?_⟩
  · exact exec_restack_took h hroom hn hi ⟨hpresent, by omega, by omega⟩ (by rw [hp]; rfl)
  · exact exec_restack_took h hroom hn hi ⟨hpresent, by omega, by omega⟩ (by rw [hp]; rfl)
  · have hin : ref ∈ s.ring.draft.stack := (mem_withoutId (i := i).mp (by simp [hsplit])).1
    have hother : slotByte slot 18 ≤ 63 ∧ s.ring.draft.has (idOf (slotByte slot 18)) = true ∧
        slotByte slot 18 ≠ slotByte slot 16 := by
      refine ⟨by omega, ?_, fun heq => hne (Fin.ext (by omega))⟩
      rw [idOf_eq href]
      exact (hw.mem_iff ref).mp hin
    refine ⟨fun hp => ?_, fun hp => ?_⟩
    · refine exec_restack_took h hroom hn hi ⟨hpresent, by omega, fun _ => hother⟩ ?_
      rw [hp, placementOf, idOf_eq href]
      exact insertAfter_split hrest hsplit i
    · refine exec_restack_took h hroom hn hi ⟨hpresent, by omega, fun _ => hother⟩ ?_
      rw [hp, placementOf, idOf_eq href]
      exact insertBefore_split hrest hsplit i

/-! ## TAKE_SCENE (R166 to R168) and SOURCE_CONFIG (R173 to R175) -/

/-- A TAKE_SCENE slot is taken once the whole scene has been read. -/
theorem exec_takeScene_read {s : State} {cause : LookCause} {slot scene : List Byte} (hr : s.control.part = .running)
    (hs : s.ring.state = .collecting) (hl : s.ring.look = .scene cause slot scene) (hlen : 4096 ≤ scene.length) :
    exec .takeScene s = .next (s.takeSlot slot (checkTakeScene scene slot)) := by
  show execTakeScene s = _
  have hall : (s.takes && decide (Config.unit ≤ scene.length)) = true := by
    simp [State.takes, State.running, hr, hs, Config.unit, hlen]
  simp only [execTakeScene, hl, hall, if_true]

theorem checkTakeScene_accepts {scene slot : List Byte} (hn : slotByte slot 16 ≤ 15) (hf : sceneFault scene = none)
    (r : Ring) : checkTakeScene scene slot r = .accept (sceneCount scene) { r with draft := sceneTable scene } := by
  unfold checkTakeScene
  rw [if_neg (by omega), hf]

theorem checkSourceConfig_accepts {areas : List (Nat × Nat)} {slot : List Byte} {r : Ring} {src : Fin 32}
    (hsrc : slotByte slot 16 = src.val) (hf : descriptorFault areas r.numberedDescs src (descriptorAt slot 20) = none) :
    checkSourceConfig areas slot r =
      .accept 0
        { r with
          draftDescs := vset r.draftDescs src (descriptorAt slot 20)
          pendingSources := r.pendingSources ++ [.config src (descriptorAt slot 20)] } := by
  have hlt : slotByte slot 16 < 32 := by omega
  have hfin : (⟨slotByte slot 16, hlt⟩ : Fin 32) = src := Fin.ext hsrc
  unfold checkSourceConfig
  dsimp only
  rw [dif_pos hlt, hfin, hf]

/-- Settles O51: each slot passes its check, and a slot that its check accepts is taken with what the check makes of the
drafts. -/
theorem slotsThatRestackTakeOrConfigure : Obligations.SlotsThatRestackTakeOrConfigure := by
  intro s slot hroom hn
  refine ⟨fun i h hi hw hmem => restack_moves h hroom hn hi hw hmem,
    fun cause scene hr hs hl hk h16 hlen hf => ⟨_, exec_takeScene_read hr hs hl hlen, ?_⟩,
    fun src h hsrc hf => ⟨_, rfl, State.takeKind_accepted h hroom hn ?_⟩⟩
  · exact s.takeSlot_accepted slot 1 _ _ { s.ring with draft := sceneTable scene } hk hs hroom hn
      (checkTakeScene_accepts h16 hf _)
  · exact checkSourceConfig_accepts (r := s.takingRing) hsrc hf

end Sys2Proof.Machine
end

section
/-! What a wall frame start does to the window tables, and the commands that change the live table (O10). -/

namespace Sys2Proof.Machine

open Sys2Proof

/-! ## The draft under the ring processor's own work -/

/-- The draft is as it was, or a commit or an abort has emptied it. -/
def State.draftStays (s t : State) : Prop := t.ring.draft = s.ring.draft ∨ t.ring.draft = Table.empty

theorem State.draftStays.of_ring {s t : State} (h : t.ring = s.ring) : s.draftStays t := .inl (by rw [h])

theorem State.draftStays.trans {s t u : State} (h : s.draftStays t) (g : t.draftStays u) : s.draftStays u := by
  rcases g with g | g
  · rwa [State.draftStays, g]
  · exact .inr g

theorem State.draftStays.then {s t u : State} (h : s.draftStays t) (g : u.ring = t.ring) : s.draftStays u :=
  h.trans (.of_ring g)

@[simp] theorem State.lookIn_draft (s : State) (cause : LookCause) : (s.lookIn cause).ring.draft = s.ring.draft := by
  unfold State.lookIn
  split <;> rfl

/-- A commit empties the draft (R153). -/
@[simp] theorem State.commitWith_draft (s : State) (n : Word) (found : List (Nat × Nat)) :
    (s.commitWith n found).ring.draft = Table.empty := by
  simp [State.commitWith]

theorem State.ringTakesFrame_draftStays (s : State) (n : Word) : s.draftStays (s.ringTakesFrame n) := by
  unfold State.ringTakesFrame
  split
  · exact .inr (State.commitWith_draft _ n _)
  · exact .inl (by simp)

theorem State.takeLookEvent_draftStays (s : State) (ev : LookCause) : s.draftStays (s.takeLookEvent ev) := by
  cases ev with
  | frame n => exact s.ringTakesFrame_draftStays n
  | attend => exact .inl (s.lookIn_draft _)
  | atOnce => exact .inl (s.lookIn_draft _)

theorem State.takeKept_draftStays (s : State) (ev : LookCause) (more : Bool) : s.draftStays (s.takeKept ev more) := by
  have htakes := s.takeLookEvent_draftStays ev
  cases ev with
  | frame n =>
    refine htakes.then ?_
    unfold State.takeKept
    cases more <;> simp
  | attend => exact htakes
  | atOnce => exact htakes

theorem State.serveKept_draftStays (evs : List LookCause) (s : State) : s.draftStays (State.serveKept evs s) := by
  induction evs generalizing s with
  | nil => exact .inl rfl
  | cons ev rest ih =>
    have hnone : s.draftStays (s.withRing { s.ring with kept := [] }) := .inl rfl
    have htakes := hnone.trans (State.takeKept_draftStays _ ev (rest.any LookCause.isFrame))
    unfold State.serveKept
    dsimp only
    split
    · exact htakes.trans (ih _)
    · exact htakes.trans (.inl rfl)

theorem State.settleLooks_draftStays (s : State) : s.draftStays s.settleLooks := State.serveKept_draftStays _ s

theorem State.lookEvent_draftStays (s : State) (ev : LookCause) : s.draftStays (s.lookEvent ev) := by
  unfold State.lookEvent
  split
  · exact s.takeLookEvent_draftStays ev
  · split
    · exact .inl rfl
    · exact .inl (by simp)

/-! ## A wall frame start (R34, R59) -/

/-- What may come before the swap of a wall frame start: neither table moves, and no GROUP build completes. -/
def State.tablesUntouched (s t : State) : Prop :=
  t.live = s.live ∧ t.ring = s.ring ∧ (t.builder.state = .donePending .group → s.builder.state = .donePending .group)

/-- What a wall frame start can do to the tables: the live one takes the draft if a GROUP bank waits, and a commit empties
the draft. -/
def State.tablesSwapped (s t : State) : Prop :=
  (t.live = s.live ∨ s.builder.state = .donePending .group ∧ t.live = s.ring.draft) ∧ s.draftStays t

theorem State.tablesUntouched.refl (s : State) : s.tablesUntouched s := ⟨rfl, rfl, id⟩

theorem State.tablesUntouched.trans {s t u : State} (h : s.tablesUntouched t) (g : t.tablesUntouched u) :
    s.tablesUntouched u :=
  ⟨g.1.trans h.1, g.2.1.trans h.2.1, h.2.2 ∘ g.2.2⟩

theorem State.tablesUntouched.of_builder {s t : State} (hl : t.live = s.live) (hr : t.ring = s.ring)
    (hb : t.builder = s.builder) : s.tablesUntouched t := ⟨hl, hr, by rw [hb]; exact id⟩

theorem State.tablesUntouched.swapped {s t u : State} (h : s.tablesUntouched t) (g : t.tablesSwapped u) :
    s.tablesSwapped u := by
  obtain ⟨hl, hr, hb⟩ := h
  obtain ⟨gl, gd⟩ := g
  rw [State.draftStays, hr] at gd
  rw [hl, hr] at gl
  exact ⟨gl.imp_right fun h => ⟨hb h.1, h.2⟩, gd⟩

theorem State.tablesSwapped.then {s t u : State} (h : s.tablesSwapped t) (hl : u.live = t.live) (hd : t.draftStays u) :
    s.tablesSwapped u := ⟨by rw [hl]; exact h.1, h.2.trans hd⟩

theorem Builder.afterRaised_complete {b : Builder} {old new : Groups} {kind : BuildKind}
    (h : (b.afterRaised old new).state = .donePending kind) : b.state = .donePending kind := by
  unfold Builder.afterRaised at h
  split at h
  · exact h
  · cases h

theorem State.alarmWork_tablesUntouched (s : State) (alarms : Vector AlarmInput 8) (moved : Bool) :
    s.tablesUntouched (s.alarmWork alarms moved) := by
  rw [State.alarmWork_eq]
  exact ⟨rfl, rfl, Builder.afterRaised_complete⟩

theorem State.alarmTakes_tablesUntouched (s : State) (step : AlarmStep) : s.tablesUntouched (s.alarmTakes step) := by
  unfold State.alarmTakes
  split
  · exact s.alarmWork_tablesUntouched _ _
  · exact .of_builder (by simp) (by simp) (by simp)

theorem State.sampleContacts_tablesUntouched (s : State) (high : Groups) : s.tablesUntouched (s.sampleContacts high) := by
  unfold State.sampleContacts State.alarmStep
  exact s.alarmWork_tablesUntouched _ _

theorem State.clearWork_tablesUntouched (s : State) : s.tablesUntouched s.clearWork.1 := s.alarmWork_tablesUntouched _ _

theorem State.numbered_tablesUntouched (s : State) (n : Word) : s.tablesUntouched (s.withFrameNo n).pushFrame :=
  ⟨rfl, rfl, id⟩

theorem State.swap_tablesSwapped (s : State) : s.tablesSwapped s.swap := by
  refine ⟨?_, .of_ring (by simp)⟩
  unfold State.swap State.swapKind
  cases hb : s.builder.state with
  | idle => exact .inl rfl
  | building kind n => exact .inl rfl
  | donePending kind =>
    cases kind with
    | group => exact .inr ⟨rfl, by simp⟩
    | alarm => exact .inl (by simp)

theorem State.blocksTakeFrame_tablesSwapped (s : State) (lastTile : Bool) :
    s.tablesSwapped (s.blocksTakeFrame lastTile) := by
  refine s.swap_tablesSwapped.then ?_ (.of_ring (by simp))
  unfold State.blocksTakeFrame
  cases lastTile <;> simp

theorem State.frameAlone_tablesSwapped (s : State) (setFirst lastTile : Bool) :
    s.tablesSwapped (s.frameAlone setFirst lastTile) := by
  have hnumbered := s.numbered_tablesUntouched (s.frameNo + 1)
  unfold State.frameAlone
  dsimp only
  generalize (s.withFrameNo (s.frameNo + 1)).pushFrame = t at hnumbered ⊢
  have hblocks := hnumbered.swapped (t.blocksTakeFrame_tablesSwapped lastTile)
  have hclears := (hnumbered.trans t.clearWork_tablesUntouched).swapped
    (t.clearWork.1.blocksTakeFrame_tablesSwapped lastTile)
  split
  · exact hblocks.then (State.commitGroup_live _ _) (.inr (State.commitWith_draft _ _ _))
  · split
    · exact hclears.then (State.commitWith_live _ _ _) (.inr (State.commitWith_draft _ _ _))
    · exact hblocks.then (State.ringFrame_live _) (State.lookEvent_draftStays _ _)

theorem State.frameChangeAfter_tablesSwapped (s : State) (high : Groups) (lastTile : Bool) :
    s.tablesSwapped (s.frameChangeAfter high lastTile) := by
  have hmoved :
      s.tablesUntouched
        ((s.withAlarms (sampledAll s.alarms high)).raiseIf (someSettles s.alarms high) causeAlarmEvent) :=
    .of_builder (by simp) (by simp) (by simp)
  have hframe := hmoved.swapped (State.frameAlone_tablesSwapped _ false lastTile)
  unfold State.frameChangeAfter
  dsimp only
  split
  · exact hframe
  · exact hframe.then (by simp) (.of_ring (by simp))

theorem State.frameChangeBefore_tablesSwapped (s : State) (high : Groups) (lastTile : Bool) :
    s.tablesSwapped (s.frameChangeBefore high lastTile) := by
  have hcleared : s.tablesUntouched (if s.awaitsFrame then s.clearWork else (s, [])).1 := by
    split
    · exact s.clearWork_tablesUntouched
    · exact .refl s
  unfold State.frameChangeBefore
  dsimp only
  generalize (if s.awaitsFrame then s.clearWork else (s, [])) = cleared at hcleared ⊢
  have hsampled := hcleared.trans (cleared.1.sampleContacts_tablesUntouched high)
  generalize cleared.1.sampleContacts high = sampled at hsampled ⊢
  have hnumbered := hsampled.trans (sampled.numbered_tablesUntouched (s.frameNo + 1))
  generalize (sampled.withFrameNo (s.frameNo + 1)).pushFrame = t at hnumbered ⊢
  have hblocks := hnumbered.swapped (t.blocksTakeFrame_tablesSwapped lastTile)
  have hcopied := hblocks.then (u := (t.blocksTakeFrame lastTile).withAlarms cleared.1.alarms) rfl (.inl rfl)
  split
  · exact (s.frameAlone_tablesSwapped true lastTile).then (State.alarmTakes_live _ _)
      (.of_ring (State.alarmTakes_ring _ _))
  · split
    · exact hcopied.then (State.commitWith_live _ _ _) (.inr (State.commitWith_draft _ _ _))
    · exact hcopied.then (State.ringFrame_live _) (State.lookEvent_draftStays _ _)

theorem State.frameAndInterval_tablesSwapped (s : State) (order : FrameOrder) (x : TogetherInterval) :
    s.tablesSwapped (s.frameAndInterval order x) := by
  unfold State.frameAndInterval
  dsimp only
  split
  · split
    · exact (s.alarmTakes_tablesUntouched _).swapped (State.frameAlone_tablesSwapped _ _ _)
    · exact s.frameChangeAfter_tablesSwapped _ _
  · split
    · exact s.frameChangeBefore_tablesSwapped _ _
    · exact (s.frameAlone_tablesSwapped _ _).then (State.alarmTakes_live _ _) (.of_ring (State.alarmTakes_ring _ _))

theorem State.takeFrame_tablesSwapped (s : State) (order : FrameOrder) : s.tablesSwapped (s.takeFrame order) := by
  unfold State.takeFrame
  split
  · exact s.frameAlone_tablesSwapped _ _
  · rename_i x _
    have hticked : s.tablesUntouched (s.unitsTick x.sourcesFirst x.inputsFirst) :=
      .of_builder (by simp) (by simp) (by simp)
    exact (hticked.swapped (State.frameAndInterval_tablesSwapped _ order x)).then (by simp) (.of_ring (by simp))

theorem exec_wallFrameStart_tables {order : FrameOrder} {s t : State} (h : exec (.wallFrameStart order) s = .next t) :
    t = s ∨ s.control.part = .running ∧ s.tablesSwapped t := by
  have hexec : exec (.wallFrameStart order) s = .next (if s.running then s.takeFrame order else s) := rfl
  cases hexec.symm.trans h
  split
  · exact .inr ⟨by simpa [State.running] using ‹s.running = true›, s.takeFrame_tablesSwapped order⟩
  · exact .inl rfl

end Sys2Proof.Machine
end

section
/-! What every command does to the window tables (O5, O10). -/

namespace Sys2Proof.Machine

open Sys2Proof

/-! ## The checks that edit the draft (R28 to R32) -/

/-- A check that accepts leaves a well-formed draft. -/
def Verdict.draftWellFormed : Verdict → Prop
  | .refuse _ _ => True
  | .accept _ r => r.draft.wellFormed

theorem checkPutWindow_draft {r : Ring} (h : r.draft.wellFormed) (slot : List Byte) :
    (checkPutWindow slot r).draftWellFormed := by
  unfold checkPutWindow
  dsimp only
  split
  · trivial
  · have hw := windowAt_inRange ‹(windowAt slot 16).fault = none›
    exact Table.put_wellFormed h (idOf_val hw.1).symm hw

theorem checkRemoveWindow_draft {r : Ring} (h : r.draft.wellFormed) (slot : List Byte) :
    (checkRemoveWindow slot r).draftWellFormed := by
  unfold checkRemoveWindow
  dsimp only
  split
  · trivial
  split
  · exact Table.remove_wellFormed h _
  · trivial

theorem checkRestack_draft {r : Ring} (h : r.draft.wellFormed) (slot : List Byte) :
    (checkRestack slot r).draftWellFormed := by
  by_cases hcan : r.canRestack slot
  · rw [checkRestack_accepts hcan]
    obtain ⟨⟨hid, hhas⟩, hplace, href⟩ := hcan
    refine Table.restack_wellFormed h ((h.mem_iff _).mpr hhas) ?_
    have hother (h2 : 2 ≤ slotByte slot 17) :
        idOf (slotByte slot 18) ∈ withoutId r.draft.stack (idOf (slotByte slot 16)) := by
      obtain ⟨hrid, hrhas, hne⟩ := href h2
      exact mem_withoutId.mpr ⟨(h.mem_iff _).mpr hrhas, fun heq => hne (by rw [← idOf_val hrid, heq, idOf_val hid])⟩
    unfold placementOf
    split
    · trivial
    split
    · trivial
    split
    · exact hother (by omega)
    · exact hother (by omega)
  · obtain ⟨code, detail, hrefuse⟩ := checkRestack_refuses hcan
    rw [hrefuse]
    trivial

theorem checkTakeScene_draft (scene slot : List Byte) (r : Ring) : (checkTakeScene scene slot r).draftWellFormed := by
  unfold checkTakeScene
  split
  · trivial
  split
  · trivial
  · exact sceneTable_wellFormed ‹sceneFault scene = none›

theorem checkSaveScene_draft {r : Ring} (h : r.draft.wellFormed) (slot : List Byte) :
    (checkSaveScene slot r).draftWellFormed := by
  unfold checkSaveScene
  dsimp only
  split
  · exact h
  · trivial

theorem checkFreeze_draft {r : Ring} (h : r.draft.wellFormed) (slot : List Byte) : (checkFreeze slot r).draftWellFormed := by
  unfold checkFreeze
  dsimp only
  split
  · split
    · trivial
    · exact h
  · trivial

theorem checkClearAlarm_draft {r : Ring} (h : r.draft.wellFormed) (slot : List Byte) :
    (checkClearAlarm slot r).draftWellFormed := by
  unfold checkClearAlarm
  dsimp only
  split
  · exact h
  · trivial

theorem checkSourceConfig_draft {r : Ring} (h : r.draft.wellFormed) (areas : List (Nat × Nat)) (slot : List Byte) :
    (checkSourceConfig areas slot r).draftWellFormed := by
  unfold checkSourceConfig
  dsimp only
  split
  · split
    · trivial
    · exact h
  · trivial

/-! ## Commands that leave the live table alone -/

/-- The live table is as it was, and a draft that was well formed beside a well-formed live table is so still. -/
def State.keepsTables (s : State) (o : Host.Outcome State Fault Refusal) : Prop :=
  ∀ t, o = .next t → t.live = s.live ∧ (s.tablesWellFormed → t.ring.draft.wellFormed)

section
variable {s t : State} {p : Prop} [Decidable p]

theorem State.keepsTables.next (hl : t.live = s.live) (hd : s.tablesWellFormed → t.ring.draft.wellFormed) :
    s.keepsTables (.next t) := by
  rintro _ ⟨⟩
  exact ⟨hl, hd⟩

theorem State.draftStays.wellFormed (h : s.draftStays t) (hs : s.tablesWellFormed) : t.ring.draft.wellFormed := by
  rcases h with h | h <;> rw [h]
  · exact hs.2
  · exact Table.empty_wellFormed

theorem State.keepsTables.stays (hl : t.live = s.live) (h : s.draftStays t) : s.keepsTables (.next t) :=
  .next hl h.wellFormed

/-- A command that leaves the ring processor alone. -/
theorem State.keepsTables.apart (hl : t.live = s.live := by simp) (hr : t.ring = s.ring := by simp) :
    s.keepsTables (.next t) :=
  .stays hl (.of_ring hr)

theorem State.keepsTables.idle : s.keepsTables (.next s) := .apart rfl rfl

theorem State.keepsTables.fault (r : Fault) : s.keepsTables (.fault r) := fun _ h => nomatch h

theorem State.keepsTables.ite {a b : Host.Outcome State Fault Refusal} (ha : s.keepsTables a) (hb : s.keepsTables b) :
    s.keepsTables (if p then a else b) := by
  split
  · exact ha
  · exact hb

theorem State.keepsTables.nextIte {u : State} (ha : s.keepsTables (.next t)) (hb : s.keepsTables (.next u)) :
    s.keepsTables (.next (if p then t else u)) := by
  split
  · exact ha
  · exact hb

end

/-! ### The ring processor's commands -/

@[simp] theorem State.abortGroup_draft (s : State) (extra : List Held) (code detail : Nat) (skip : Bool) :
    (s.abortGroup extra code detail skip).ring.draft = Table.empty := by
  unfold State.abortGroup
  rcases State.settleLooks_draftStays _ with h | h
  · exact h
  · exact h

theorem State.completeGroup_draftStays (s : State) : s.draftStays s.completeGroup := by
  have hcomplete : s.draftStays (s.withRing { s.ring with state := .awaitingCommit }) := .inl rfl
  unfold State.completeGroup
  dsimp only
  split
  · exact (hcomplete.then (State.startBuild_ring _ _)).trans (State.settleLooks_draftStays _)
  · exact hcomplete.trans (State.settleLooks_draftStays _)

/-- A slot taken leaves an empty draft, or the one that its check has made. -/
theorem State.takeSlot_keepsTables {s : State} {check : Ring → Verdict} (slot : List Byte)
    (hc : s.tablesWellFormed → (check s.takingRing).draftWellFormed) : s.keepsTables (.next (s.takeSlot slot check)) := by
  refine .next (by simp) fun hs => ?_
  have hdraft := hc hs
  unfold State.takeSlot
  dsimp only
  split
  · rw [State.abortGroup_draft]
    exact Table.empty_wellFormed
  · generalize check s.takingRing = verdict at hdraft
    cases verdict with
    | refuse code detail =>
      dsimp only
      rw [State.abortGroup_draft]
      exact Table.empty_wellFormed
    | accept detail after =>
      dsimp only
      split
      · rw [State.lookAtOnce, State.lookIn_draft]
        exact hdraft
      · rcases State.completeGroup_draftStays _ with h | h <;> rw [h]
        · exact hdraft
        · exact Table.empty_wellFormed

theorem State.takeKind_keepsTables {s : State} (kind : Nat) {check : List Byte → Ring → Verdict}
    (hc : ∀ slot r, r.draft.wellFormed → (check slot r).draftWellFormed) :
    s.keepsTables (.next (s.takeKind kind check)) := by
  unfold State.takeKind
  split
  · exact State.takeSlot_keepsTables _ fun hs => hc _ _ hs.2
  · exact .idle

theorem execTakeScene_keepsTables (s : State) : s.keepsTables (execTakeScene s) := by
  unfold execTakeScene
  split
  · exact .nextIte (State.takeSlot_keepsTables _ fun _ => checkTakeScene_draft _ _ _) .idle
  · exact .nextIte .idle (State.takeKind_keepsTables _ fun slot r _ => checkTakeScene_draft _ slot r)
  all_goals exact .idle

theorem execBadKind_keepsTables (s : State) : s.keepsTables (execBadKind s) := by
  unfold execBadKind
  split
  · exact .nextIte (State.takeSlot_keepsTables _ fun _ => trivial) .idle
  all_goals exact .idle

theorem execSlotNotPosted_keepsTables (s : State) : s.keepsTables (execSlotNotPosted s) := by
  unfold execSlotNotPosted
  split
  · exact .idle
  · dsimp only
    generalize (if s.countsWait _ = true then s.ring.wait + 1 else s.ring.wait) = wait
    refine .ite (.stays rfl (.inl rfl)) (.stays (by simp) ?_)
    have hended : s.draftStays (s.withRing { s.ring with wait := wait, look := .none }) := .inl rfl
    exact hended.trans (State.settleLooks_draftStays _)

theorem execSkippedSlot_keepsTables (s : State) : s.keepsTables (execSkippedSlot s) := by
  unfold execSkippedSlot
  split
  · exact .idle
  · exact .stays (by simp) (.inl (by simp [State.lookAtOnce]))

theorem State.endReturn_keepsTables (s : State) (state : RingState) : s.keepsTables (.next (s.endReturn state)) :=
  .stays (by simp) (.inl (by simp [State.endReturn, State.lookAtOnce]))

theorem execWriteBackDone_keepsTables (s : State) : s.keepsTables (execWriteBackDone s) := by
  unfold execWriteBackDone
  split
  · exact .nextIte (s.endReturn_keepsTables _) .idle
  · exact .idle

theorem execAbortReturnDone_keepsTables (s : State) : s.keepsTables (execAbortReturnDone s) := by
  unfold execAbortReturnDone
  split
  · exact .idle
  · exact .nextIte (s.endReturn_keepsTables _) .idle

/-! ### The grant and the end of a tile -/

/-- The bytes of a slot start a group from the live table, or leave the draft as it is (R144). -/
theorem State.ringGranted_keepsTables (s : State) (bytes : List Byte) : s.keepsTables (.next (s.ringGranted bytes)) := by
  refine .next (by simp) fun hs => ?_
  obtain ⟨look, g, ts, hgranted, hring⟩ := s.ringGranted_cases bytes
  rw [hgranted]
  rcases hring with hring | ⟨_, _, hring⟩
  · have hdraft : g.draft = s.ring.draft := (congrArg Ring.draft hring :)
    exact hdraft ▸ hs.2
  · have hdraft : g.draft = s.live := (congrArg Ring.draft hring :)
    exact hdraft ▸ hs.1

theorem State.controlRead_keepsTables (s : State) (k : Fin 5) (x : Transfer) (bytes : List Byte) :
    s.keepsTables (.next (s.controlRead k x bytes)) := by
  unfold State.controlRead
  exact .nextIte (.apart rfl rfl) (.nextIte (s.ringGranted_keepsTables bytes)
    (.nextIte .apart (.nextIte .apart .idle)))

theorem State.respond_keepsTables (s : State) (r : Requester) (x : Transfer) (bytes : List Byte) :
    s.keepsTables (.next (s.respond r x bytes)) := by
  unfold State.respond
  split
  · exact .apart
  · exact .apart
  · split
    · exact s.controlRead_keepsTables _ _ _
    · exact .idle
    · exact .idle

theorem State.grant_keepsTables (s : State) (r : Requester) : s.keepsTables (.next (s.grant r)) := by
  unfold State.grant
  split
  · exact .idle
  · exact State.respond_keepsTables ((s.withPort _).withMem _) _ _ _

theorem State.failBuild_keepsTables (s : State) (t : Fin 16) (code : Nat) : s.keepsTables (.next (s.failBuild t code)) := by
  refine .stays (by simp) (.inr ?_)
  unfold State.failBuild
  dsimp only
  split
  · exact State.abortGroup_draft _ _ _ _ _
  · exact State.abortGroup_draft _ _ _ _ _

/-! ### Every command -/

/-- The commands that can change the live table. -/
def movesLive : Instr → Bool
  | .wallFrameStart _ | .load _ | .loadEnd | .stop _ _ | .powerOnReset _ | .resetPin _ => true
  | _ => false

theorem exec_keepsTables (c : Instr) (hc : movesLive c = false) (s : State) : s.keepsTables (exec c s) := by
  cases c with
  | pcieLinkReset lost => exact .apart rfl rfl
  | start =>
    rw [exec_start]
    exact .nextIte .apart .apart
  | heldStart =>
    rw [exec_heldStart]
    exact .nextIte .apart .idle
  | causeClear w => exact .apart rfl rfl
  | causeEnableWrite w => exact .apart rfl rfl
  | areaBaseWrite w => exact .nextIte (.apart rfl rfl) .apart
  | attend w => exact .nextIte (.stays (by simp) (s.lookEvent_draftStays _)) .apart
  | resetReasonClear w => exact .apart rfl rfl
  | ignoredRegisterWrite offset w => exact .idle
  | bar2Access op =>
    cases op with
    | read addr len => exact .ite (.fault _) (.apart rfl rfl)
    | write addr data => exact .ite (.fault _) (.apart rfl rfl)
  | transferGrant =>
    rw [exec_transferGrant]
    cases s.port.choose with
    | none => exact .idle
    | some r => exact s.grant_keepsTables r
  | millisecondInterval high => exact .ite .apart .idle
  | debouncedAssert i => exact .nextIte .apart .idle
  | debouncedRelease i => exact .nextIte .apart .idle
  | lossOfSignal c => exact .ite .apart .idle
  | staleLimitReached src => exact .ite .apart .idle
  | expiry src => exact .ite .apart .idle
  | memoryHeaderRead m =>
    show s.keepsTables (execMemoryHeaderRead m s)
    unfold execMemoryHeaderRead
    split
    · exact .apart
    · exact .idle
  | lineStart t => exact .apart
  | rowComposed t => exact .apart
  | frameStartMark c => exact .ite .apart .idle
  | captureLock c => exact .ite .apart .idle
  | congestionHalved c => exact .ite .apart .idle
  | congestionNormal c => exact .ite .apart .idle
  | lineStartMark c => exact .ite .apart .idle
  | pixel c p => exact .ite .apart .idle
  | goodFrameReport c => exact .ite .apart .idle
  | capturePublication c =>
    show s.keepsTables (execCapturePublication c s)
    unfold execCapturePublication
    split
    · exact .nextIte .apart .idle
    · exact .idle
  | tileBuilt =>
    rcases exec_tileBuilt_cases s with h | ⟨kind, shadow, t, table, h⟩ | ⟨t, code, h⟩ <;> rw [h]
    · exact .idle
    · exact .apart rfl rfl
    · exact s.failBuild_keepsTables t code
  | nop => exact State.takeKind_keepsTables _ fun _ _ h => h
  | takeScene => exact execTakeScene_keepsTables s
  | putWindow => exact State.takeKind_keepsTables _ fun slot _ h => checkPutWindow_draft h slot
  | removeWindow => exact State.takeKind_keepsTables _ fun slot _ h => checkRemoveWindow_draft h slot
  | restack => exact State.takeKind_keepsTables _ fun slot _ h => checkRestack_draft h slot
  | saveScene => exact State.takeKind_keepsTables _ fun slot _ h => checkSaveScene_draft h slot
  | freeze => exact State.takeKind_keepsTables _ fun slot _ h => checkFreeze_draft h slot
  | clearAlarm => exact State.takeKind_keepsTables _ fun slot _ h => checkClearAlarm_draft h slot
  | sourceConfig => exact State.takeKind_keepsTables _ fun slot _ h => checkSourceConfig_draft h _ slot
  | clearWall => exact State.takeKind_keepsTables _ fun _ _ _ => Table.empty_wellFormed
  | badKind => exact execBadKind_keepsTables s
  | slotNotPosted => exact execSlotNotPosted_keepsTables s
  | skippedSlot => exact execSkippedSlot_keepsTables s
  | chainTimeout => exact .ite (.stays (by simp) (.inr (by simp))) .idle
  | skipTimeout =>
    refine .ite (.stays (by simp) ?_) .idle
    have hended : s.draftStays (s.withRing { s.ring with state := .idle, look := .none }) := .inl rfl
    exact hended.trans (State.settleLooks_draftStays _)
  | writeBackDone => exact execWriteBackDone_keepsTables s
  | abortReturnDone => exact execAbortReturnDone_keepsTables s
  | _ => cases hc

/-! ## Commands that change the live table (R34, R36) -/

/-- The commands that empty both tables, where the part is in a state in which it takes them. -/
def emptiesTables (c : Instr) (s t : State) : Prop :=
  ((∃ held, c = .load held) ∧ (s.control.part = .halted ∨ s.control.part = .ready)) ∨
    (c = .loadEnd ∧ s.control.part = .loading ∧ t.control.part = .ready) ∨ (∃ l st, c = .stop l st) ∨
    (∃ dram, c = .powerOnReset dram) ∨ ∃ cut, c = .resetPin cut

/-- All that a command can do to the two tables. -/
theorem exec_tables {c : Instr} {s t : State} (h : exec c s = .next t) :
    (t.live = s.live ∧ (s.tablesWellFormed → t.ring.draft.wellFormed)) ∨
      ((∃ order, c = .wallFrameStart order) ∧ s.control.part = .running ∧ s.tablesSwapped t) ∨
      (emptiesTables c s t ∧ t.live = Table.empty ∧ t.ring.draft = Table.empty) := by
  by_cases hc : movesLive c = false
  · exact .inl (exec_keepsTables c hc s t h)
  cases c with
  | wallFrameStart order =>
    rcases exec_wallFrameStart_tables h with rfl | ⟨hr, hswap⟩
    · exact .inl ⟨rfl, fun hs => hs.2⟩
    · exact .inr (.inl ⟨⟨order, rfl⟩, hr, hswap⟩)
  | load start =>
    cases (exec_load start s).symm.trans h
    by_cases hl : s.canLoad = true
    · rw [if_pos hl]
      exact .inr (.inr ⟨.inl ⟨⟨start, rfl⟩, by simpa [State.canLoad] using hl⟩, rfl, rfl⟩)
    · rw [if_neg hl]
      exact .inl ⟨by simp, fun hs => by simpa using hs.2⟩
  | loadEnd =>
    rcases exec_loadEnd_cases s with g | ⟨hl, g | ⟨code, index, g⟩⟩ <;> cases g.symm.trans h
    · exact .inl ⟨rfl, fun hs => hs.2⟩
    · exact .inr (.inr ⟨.inr (.inl ⟨rfl, hl, rfl⟩), rfl, rfl⟩)
    · exact .inl ⟨by simp, fun hs => by simpa using hs.2⟩
  | stop load start => cases h; exact .inr (.inr ⟨.inr (.inr (.inl ⟨load, start, rfl⟩)), rfl, rfl⟩)
  | powerOnReset dram => cases h; exact .inr (.inr ⟨.inr (.inr (.inr (.inl ⟨dram, rfl⟩))), rfl, rfl⟩)
  | resetPin cut => cases h; exact .inr (.inr ⟨.inr (.inr (.inr (.inr ⟨cut, rfl⟩))), rfl, rfl⟩)
  | _ => exact absurd rfl hc

/-- Settles O10, by what a command can do to the tables. -/
theorem liveTableChangesOnlyAtGroupSwap : Obligations.LiveTableChangesOnlyAtGroupSwap := by
  intro c s t h hne
  rcases exec_tables h with ⟨hl, -⟩ | ⟨hc, hr, hswap, -⟩ | ⟨hempties, hl, -⟩
  · exact absurd hl hne
  · obtain ⟨hb, hl⟩ := hswap.resolve_left hne
    exact .inl ⟨hc, hr, hb, hl⟩
  · exact .inr ⟨hl, hempties⟩

theorem exec_tablesWellFormed {c : Instr} {s t : State} (hs : s.tablesWellFormed) (h : exec c s = .next t) :
    t.tablesWellFormed := by
  rcases exec_tables h with ⟨hl, hd⟩ | ⟨-, -, hlive, hdraft⟩ | ⟨-, hl, hd⟩
  · exact ⟨hl ▸ hs.1, hd hs⟩
  · refine ⟨?_, hdraft.wellFormed hs⟩
    rcases hlive with hl | ⟨-, hl⟩ <;> rw [hl]
    · exact hs.1
    · exact hs.2
  · rw [State.tablesWellFormed, hl, hd]
    exact ⟨Table.empty_wellFormed, Table.empty_wellFormed⟩

/-- Settles O5: a step keeps both tables, swaps the draft in, empties them, or edits the draft by a request whose check has
passed. -/
theorem windowTablesStayWellFormed : Obligations.WindowTablesStayWellFormed := by
  intro s t hs h
  rcases step_cases h with rfl | ⟨c, rest, _, he⟩
  · exact hs
  · exact exec_tablesWellFormed (s := s.withPending rest) hs he

end Sys2Proof.Machine
end

section
/-! Bands and spans: a row's spans cover it, and a tile's bands change where its rows do (R38, R43 to R46; O15). -/

namespace Sys2Proof.Machine

open Sys2Proof

/-! ## The spans of a row (R45) -/

/-- The spans lie side by side from a column on, and none is empty. -/
def sideBySide : Nat → List Span → Prop
  | _, [] => True
  | c, sp :: rest => sp.start = c ∧ 1 ≤ sp.len ∧ sideBySide (c + sp.len) rest

theorem spansFrom_sideBySide (c : Nat) (ks : List SpanKind) : sideBySide c (spansFrom c ks) := by
  induction ks generalizing c with
  | nil => trivial
  | cons k ks ih =>
    have htail := ih (c + 1)
    unfold spansFrom
    cases hrest : spansFrom (c + 1) ks with
    | nil => exact ⟨rfl, le_refl 1, trivial⟩
    | cons sp rest =>
      rw [hrest] at htail
      obtain ⟨hstart, hlen, hnext⟩ := htail
      dsimp only
      split
      · refine ⟨rfl, Nat.le_add_left 1 _, ?_⟩
        rwa [show c + (sp.len + 1) = c + 1 + sp.len by omega]
      · exact ⟨rfl, le_refl 1, hstart, hlen, hnext⟩

/-- What each column of the spans shows. -/
def columnKinds (spans : List Span) : List SpanKind := spans.flatMap fun sp => List.replicate sp.len sp.kind

/-- The spans of a row show what its columns show. -/
theorem columnKinds_spansFrom (c : Nat) (ks : List SpanKind) : columnKinds (spansFrom c ks) = ks := by
  induction ks generalizing c with
  | nil => rfl
  | cons k ks ih =>
    have htail := ih (c + 1)
    unfold spansFrom
    cases hrest : spansFrom (c + 1) ks with
    | nil =>
      rw [hrest] at htail
      simp [columnKinds, ← htail]
    | cons sp rest =>
      rw [hrest] at htail
      dsimp only
      split
      · rename_i hkind
        simp [columnKinds, ← htail, List.replicate_succ, hkind]
      · simp [columnKinds, ← htail]

theorem length_columnKinds (spans : List Span) : (columnKinds spans).length = (spans.map fun sp => sp.len).sum := by
  simp [columnKinds, List.length_flatMap]

/-- No two neighbours are alike (R45). -/
theorem spansFrom_isChain (c : Nat) (ks : List SpanKind) : (spansFrom c ks).IsChain fun a b => a.kind ≠ b.kind := by
  induction ks generalizing c with
  | nil => exact .nil
  | cons k ks ih =>
    have htail := ih (c + 1)
    unfold spansFrom
    cases hrest : spansFrom (c + 1) ks with
    | nil => exact .singleton _
    | cons sp rest =>
      rw [hrest] at htail
      dsimp only
      split
      · rename_i hkind
        cases rest with
        | nil => exact .singleton _
        | cons next rest =>
          rw [List.isChain_cons_cons] at htail ⊢
          exact ⟨fun h => htail.1 (hkind.trans h), htail.2⟩
      · rename_i hkind
        exact List.isChain_cons_cons.mpr ⟨fun h => hkind h.symm, htail⟩

/-- A span starts where the ones before it end. -/
theorem sideBySide.start {c : Nat} {spans : List Span} (h : sideBySide c spans) {k : Nat} {sp : Span}
    (hk : spans[k]? = some sp) : sp.start = c + ((spans.take k).map fun q => q.len).sum ∧ 1 ≤ sp.len := by
  induction spans generalizing c k with
  | nil => simp at hk
  | cons a rest ih =>
    obtain ⟨hstart, hlen, hrest⟩ := h
    cases k with
    | zero =>
      cases hk
      exact ⟨hstart, hlen⟩
    | succ k =>
      obtain ⟨hat, hne⟩ := ih hrest hk
      refine ⟨?_, hne⟩
      rw [hat, List.take_succ_cons, List.map_cons, List.sum_cons, Nat.add_assoc]

/-- Spans side by side start no earlier than the first column. -/
theorem sideBySide.le_start {c : Nat} {spans : List Span} (h : sideBySide c spans) {sp : Span} (hsp : sp ∈ spans) :
    c ≤ sp.start := by
  obtain ⟨k, hk⟩ := List.mem_iff_getElem?.mp hsp
  rw [(h.start hk).1]
  exact Nat.le_add_right _ _

/-- Exactly one span holds a column of spans side by side, and it shows what the column shows. -/
theorem sideBySide.holds {c i : Nat} {spans : List Span} {kind : SpanKind} (h : sideBySide c spans)
    (hi : (columnKinds spans)[i]? = some kind) :
    ∃ sp ∈ spans, (sp.start ≤ c + i ∧ c + i < sp.start + sp.len) ∧ sp.kind = kind ∧
      ∀ other ∈ spans, other.start ≤ c + i → c + i < other.start + other.len → other = sp := by
  induction spans generalizing c i with
  | nil => simp [columnKinds] at hi
  | cons a rest ih =>
    obtain ⟨hstart, hlen, hrest⟩ := h
    rw [columnKinds, List.flatMap_cons] at hi
    by_cases hin : i < a.len
    · rw [List.getElem?_append_left (by simpa using hin), List.getElem?_replicate, if_pos hin] at hi
      refine ⟨a, List.mem_cons_self, by omega, Option.some.inj hi, fun other hother hle _ => ?_⟩
      rcases List.mem_cons.mp hother with rfl | hother
      · rfl
      · have := hrest.le_start hother
        omega
    · rw [List.getElem?_append_right (by simpa using hin), List.length_replicate] at hi
      obtain ⟨sp, hsp, hcol, hkind, hone⟩ := ih hrest hi
      rw [show c + a.len + (i - a.len) = c + i by omega] at hcol hone
      refine ⟨sp, List.mem_cons_of_mem _ hsp, hcol, hkind, fun other hother hle hlt => ?_⟩
      rcases List.mem_cons.mp hother with rfl | hother
      · omega
      · exact hone other hother hle hlt

theorem rowSpans_sideBySide (tile : TileRec) (order : List (Fin 64 × WindowRec)) (r : Nat) :
    sideBySide 0 (rowSpans tile order r) := spansFrom_sideBySide 0 _

/-! ## The boundary rows (R43) -/

theorem mem_insertRow {r q : Nat} {rows : List Nat} : q ∈ insertRow r rows ↔ q = r ∨ q ∈ rows := by
  induction rows with
  | nil => simp [insertRow]
  | cons a rest ih =>
    unfold insertRow
    split
    · simp
    · split
      · rename_i heq
        simp [heq]
      · simp only [List.mem_cons, ih]
        tauto

theorem insertRow_sorted {r : Nat} {rows : List Nat} (h : rows.Pairwise (· < ·)) :
    (insertRow r rows).Pairwise (· < ·) := by
  induction rows with
  | nil => simp [insertRow]
  | cons a rest ih =>
    obtain ⟨ha, hrest⟩ := List.pairwise_cons.mp h
    unfold insertRow
    split
    · rename_i hlt
      refine List.pairwise_cons.mpr ⟨fun q hq => ?_, h⟩
      rcases List.mem_cons.mp hq with rfl | hq
      · exact hlt
      · exact hlt.trans (ha q hq)
    · split
      · exact h
      · rename_i hlt hne
        refine List.pairwise_cons.mpr ⟨fun q hq => ?_, ih hrest⟩
        rcases mem_insertRow.mp hq with rfl | hq
        · omega
        · exact ha q hq

/-- Rows put into a list that begins with row 0. -/
theorem foldr_insertRow (rows : List Nat) :
    (rows.foldr insertRow [0]).Pairwise (· < ·) ∧ (∀ q, q ∈ rows.foldr insertRow [0] ↔ q = 0 ∨ q ∈ rows) := by
  induction rows with
  | nil => simp
  | cons r rest ih =>
    obtain ⟨hsorted, hmem⟩ := ih
    refine ⟨insertRow_sorted hsorted, fun q => ?_⟩
    rw [List.foldr_cons, mem_insertRow, hmem, List.mem_cons]
    tauto

theorem boundaryRows_sorted (tile : TileRec) (order : List (Fin 64 × WindowRec)) :
    (boundaryRows tile order).Pairwise (· < ·) := (foldr_insertRow _).1

theorem mem_boundaryRows {tile : TileRec} {order : List (Fin 64 × WindowRec)} {q : Nat} :
    q ∈ boundaryRows tile order ↔
      q = 0 ∨ ∃ p ∈ order, ∃ v ∈ p.2.edges, (tile.y < v ∧ v < tile.y + tile.height) ∧ v - tile.y = q := by
  unfold boundaryRows
  rw [(foldr_insertRow _).2]
  simp only [List.mem_map, List.mem_filter, List.mem_flatMap, Bool.and_eq_true, decide_eq_true_eq]
  refine or_congr_right ⟨?_, ?_⟩
  · rintro ⟨v, ⟨⟨p, hp, hv⟩, hin⟩, rfl⟩
    exact ⟨p, hp, v, hv, hin, rfl⟩
  · rintro ⟨p, hp, v, hv, hin, rfl⟩
    exact ⟨v, ⟨⟨p, hp, hv⟩, hin⟩, rfl⟩

/-- The first boundary row is row 0. -/
theorem boundaryRows_eq_cons (tile : TileRec) (order : List (Fin 64 × WindowRec)) :
    ∃ rest, boundaryRows tile order = 0 :: rest := by
  have hzero : 0 ∈ boundaryRows tile order := mem_boundaryRows.mpr (.inl rfl)
  have hsorted := boundaryRows_sorted tile order
  cases hrows : boundaryRows tile order with
  | nil => simp [hrows] at hzero
  | cons a rest =>
    rw [hrows] at hzero hsorted
    rcases List.mem_cons.mp hzero with rfl | hin
    · exact ⟨rest, rfl⟩
    · exact absurd ((List.pairwise_cons.mp hsorted).1 0 hin) (Nat.not_lt_zero a)

/-! ## Merged bands (R46) -/

/-- Merging leaves bands out and changes none. -/
theorem mergeAfter_sublist (prev : List Span) (bands : List Band) : (mergeAfter prev bands).Sublist bands := by
  induction bands generalizing prev with
  | nil => exact .refl _
  | cons b rest ih =>
    unfold mergeAfter
    split
    · exact (ih prev).cons b
    · exact (ih b.spans).cons_cons b

/-- No band that is left has the spans of the band before it. -/
theorem mergeAfter_isChain (b : Band) (bands : List Band) :
    (b :: mergeAfter b.spans bands).IsChain fun a b => a.spans ≠ b.spans := by
  induction bands generalizing b with
  | nil => exact .singleton _
  | cons a rest ih =>
    unfold mergeAfter
    split
    · exact ih b
    · rename_i hne
      exact List.isChain_cons_cons.mpr ⟨fun h => hne h.symm, ih a⟩

/-! ## The band of a row -/

/-- The spans of a row, band by band: the last band that starts at or above the row gives them. -/
def spansFromBands (row : Nat) (prev : List Span) (bands : List Band) : List Span :=
  bands.foldl (fun spans b => if b.start ≤ row then b.spans else spans) prev

theorem getLast_bands (row : Nat) (prev : List Span) (bands : List Band) :
    (((bands.filter fun b => decide (b.start ≤ row)).getLast?.map Band.spans).getD prev) =
      spansFromBands row prev bands := by
  induction bands generalizing prev with
  | nil => rfl
  | cons b rest ih =>
    rw [spansFromBands, List.foldl_cons, ← spansFromBands, ← ih]
    by_cases hb : b.start ≤ row
    · rw [List.filter_cons_of_pos (by simpa using hb), List.getLast?_cons, if_pos hb]
      cases (rest.filter fun b => decide (b.start ≤ row)).getLast? <;> rfl
    · rw [List.filter_cons_of_neg (by simpa using hb), if_neg hb]

theorem spansOf_eq (bands : List Band) (row : Nat) : spansOf bands row = spansFromBands row [] bands := by
  rw [← getLast_bands, spansOf]
  cases (bands.filter fun b => decide (b.start ≤ row)).getLast? <;> rfl

/-- Bands that start below a row give it nothing. -/
theorem spansFromBands_of_below {row : Nat} {bands : List Band} (h : ∀ b ∈ bands, row < b.start) (prev : List Span) :
    spansFromBands row prev bands = prev := by
  induction bands with
  | nil => rfl
  | cons b rest ih =>
    rw [spansFromBands, List.foldl_cons, if_neg (Nat.not_le.mpr (h b List.mem_cons_self))]
    exact ih fun a ha => h a (List.mem_cons_of_mem _ ha)

/-- Merging changes the spans of no row. -/
theorem spansFromBands_mergeAfter {bands : List Band} (h : bands.Pairwise fun a b => a.start < b.start) (row : Nat)
    (prev : List Span) : spansFromBands row prev (mergeAfter prev bands) = spansFromBands row prev bands := by
  induction bands generalizing prev with
  | nil => rfl
  | cons b rest ih =>
    obtain ⟨hb, hrest⟩ := List.pairwise_cons.mp h
    unfold mergeAfter
    split
    · rename_i hsame
      rw [ih hrest, spansFromBands, spansFromBands, List.foldl_cons, hsame, ite_self]
    · rw [spansFromBands, spansFromBands, List.foldl_cons, List.foldl_cons]
      by_cases hrow : b.start ≤ row
      · rw [if_pos hrow]
        exact ih hrest b.spans
      · have hbelow : ∀ a ∈ rest, row < a.start := fun a ha => (Nat.not_le.mp hrow).trans (hb a ha)
        rw [if_neg hrow]
        exact (spansFromBands_of_below (fun a ha => hbelow a ((mergeAfter_sublist _ _).subset ha)) prev).trans
          (spansFromBands_of_below hbelow prev).symm

/-- The bands of a tile before they are merged: one for each boundary row. -/
def rowBands (tile : TileRec) (order : List (Fin 64 × WindowRec)) (rows : List Nat) : List Band :=
  rows.map fun r => ⟨r, rowSpans tile order r⟩

theorem buildBands_eq (tile : TileRec) (order : List (Fin 64 × WindowRec)) :
    ∃ rest, boundaryRows tile order = 0 :: rest ∧
      buildBands tile order =
        ⟨0, rowSpans tile order 0⟩ :: mergeAfter (rowSpans tile order 0) (rowBands tile order rest) := by
  obtain ⟨rest, hrows⟩ := boundaryRows_eq_cons tile order
  refine ⟨rest, hrows, ?_⟩
  rw [buildBands, hrows]
  rfl

theorem rowBands_sorted {tile : TileRec} {order : List (Fin 64 × WindowRec)} {rows : List Nat}
    (h : rows.Pairwise (· < ·)) : (rowBands tile order rows).Pairwise fun a b => a.start < b.start :=
  List.pairwise_map.mpr h

/-- The bands of a built tile start in rising rows. -/
theorem buildBands_sorted (tile : TileRec) (order : List (Fin 64 × WindowRec)) :
    (buildBands tile order).Pairwise fun a b => a.start < b.start := by
  obtain ⟨rest, hrows, hbands⟩ := buildBands_eq tile order
  have hsorted := rowBands_sorted (tile := tile) (order := order) (boundaryRows_sorted tile order)
  rw [hrows] at hsorted
  rw [hbands]
  exact hsorted.sublist ((mergeAfter_sublist _ _).cons_cons _)

/-- A row of a built tile has the spans of the last boundary row at or above it. -/
theorem spansFromBands_rowBands {tile : TileRec} {order : List (Fin 64 × WindowRec)} {q row : Nat} {rows : List Nat}
    (h : (q :: rows).Pairwise (· < ·)) (hq : q ≤ row) :
    ∃ p ∈ q :: rows, p ≤ row ∧ (∀ u ∈ q :: rows, u ≤ row → u ≤ p) ∧
      spansFromBands row (rowSpans tile order q) (rowBands tile order rows) = rowSpans tile order p := by
  induction rows generalizing q with
  | nil => exact ⟨q, List.mem_cons_self, hq, by simp, rfl⟩
  | cons r rest ih =>
    obtain ⟨hfirst, hrest⟩ := List.pairwise_cons.mp h
    have hqr := hfirst r List.mem_cons_self
    rw [rowBands, List.map_cons, spansFromBands, List.foldl_cons]
    by_cases hr : r ≤ row
    · rw [if_pos hr]
      obtain ⟨p, hp, hple, hmax, hspans⟩ := ih hrest hr
      refine ⟨p, List.mem_cons_of_mem _ hp, hple, fun u hu hule => ?_, hspans⟩
      rcases List.mem_cons.mp hu with rfl | hu
      · exact hqr.le.trans (hmax r List.mem_cons_self hr)
      · exact hmax u hu hule
    · have hbelow : ∀ u ∈ r :: rest, row < u := by
        intro u hu
        rcases List.mem_cons.mp hu with rfl | hu
        · exact Nat.not_le.mp hr
        · exact (Nat.not_le.mp hr).trans ((List.pairwise_cons.mp hrest).1 u hu)
      rw [if_neg hr]
      refine ⟨q, List.mem_cons_self, hq, fun u hu hule => ?_, spansFromBands_of_below (fun b hb => ?_) _⟩
      · rcases List.mem_cons.mp hu with rfl | hu
        · exact le_refl u
        · exact absurd hule (Nat.not_le.mpr (hbelow u hu))
      · obtain ⟨u, hu, rfl⟩ := List.mem_map.mp hb
        exact hbelow u (List.mem_cons_of_mem _ hu)

theorem spansOf_buildBands (tile : TileRec) (order : List (Fin 64 × WindowRec)) (row : Nat) :
    ∃ q ∈ boundaryRows tile order, q ≤ row ∧ (∀ u ∈ boundaryRows tile order, u ≤ row → u ≤ q) ∧
      spansOf (buildBands tile order) row = rowSpans tile order q := by
  obtain ⟨rest, hrows, hbands⟩ := buildBands_eq tile order
  have hsorted := boundaryRows_sorted tile order
  rw [hrows] at hsorted
  have hmerged := spansFromBands_mergeAfter
    (rowBands_sorted (tile := tile) (order := order) (List.pairwise_cons.mp hsorted).2) row (rowSpans tile order 0)
  rw [hrows, hbands, spansOf_eq, spansFromBands, List.foldl_cons, if_pos (Nat.zero_le row), ← spansFromBands, hmerged]
  exact spansFromBands_rowBands hsorted (Nat.zero_le row)

/-- Neighbours in a list of which each is related to the next. -/
theorem isChain_getElem? {α : Type} {R : α → α → Prop} {l : List α} (h : l.IsChain R) {k : Nat} {a b : α}
    (ha : l[k]? = some a) (hb : l[k + 1]? = some b) : R a b := by
  obtain ⟨_, rfl⟩ := List.getElem?_eq_some_iff.mp ha
  obtain ⟨hlt, rfl⟩ := List.getElem?_eq_some_iff.mp hb
  exact List.isChain_iff_getElem.mp h k hlt

/-- Settles O15: the bands are those of the boundary rows, merged, and a row's spans are the runs of its columns. -/
theorem spansCoverTheRow : Obligations.SpansCoverTheRow := by
  intro tile order
  dsimp only
  have hsorted := (buildBands_sorted tile order).isChain
  obtain ⟨rest, -, hbands⟩ := buildBands_eq tile order
  have hmerged := mergeAfter_isChain ⟨0, rowSpans tile order 0⟩ (rowBands tile order rest)
  refine ⟨⟨by rw [hbands]; rfl, fun k a b ha hb => ⟨isChain_getElem? hsorted ha hb, ?_⟩⟩, fun r => ?_⟩
  · rw [hbands] at ha hb
    exact isChain_getElem? hmerged ha hb
  obtain ⟨q, -, -, -, hspans⟩ := spansOf_buildBands tile order r
  rw [hspans]
  refine ⟨?_, fun k sp hk => ?_, fun k a b ha hb => isChain_getElem? (spansFrom_isChain _ _) ha hb⟩
  · rw [← length_columnKinds, rowSpans, columnKinds_spansFrom, List.length_map, List.length_range]
  · simpa only [Nat.zero_add] using (rowSpans_sideBySide tile order q).start hk

end Sys2Proof.Machine
end

section
/-! A built tile shows its highest window at every pixel (R26, R47, R56; O14). -/

namespace Sys2Proof.Machine

open Sys2Proof

/-! ## The effective stacking order (R26) -/

theorem Table.mem_stacked {t : Table} {p : Fin 64 × WindowRec} :
    p ∈ t.stacked ↔ p.1 ∈ t.stack ∧ t.records[p.1] = some p.2 := by
  obtain ⟨i, w⟩ := p
  simp only [Table.stacked, List.mem_filterMap, Option.map_eq_some_iff, Prod.mk.injEq]
  constructor
  · rintro ⟨j, hj, v, hv, rfl, rfl⟩
    exact ⟨hj, hv⟩
  · rintro ⟨hi, hw⟩
    exact ⟨i, hi, w, hw, rfl, rfl⟩

/-- The ids of the windows of which a test holds, in the order of the stacking list. -/
theorem Table.stacked_filter_ids (t : Table) (f : WindowRec → Bool) :
    ((t.stacked.filter fun p => f p.2).map fun p => p.1) = t.stack.filter fun i => (t.records[i]).any f := by
  unfold Table.stacked
  induction t.stack with
  | nil => rfl
  | cons i rest ih =>
    rw [List.filterMap_cons, List.filter_cons, ← ih]
    cases t.records[i] with
    | none => rfl
    | some w =>
      rw [Option.map_some, Option.any_some, List.filter_cons]
      cases f w <;> rfl

/-- The drawn raised windows stand above all others. -/
theorem Table.effective_eq (t : Table) (R : Groups) :
    t.effective R = (t.stacked.filter fun p => p.2.drawn R && !p.2.raised R) ++ t.raisedOnly R := rfl

theorem Table.mem_raisedOnly {t : Table} {R : Groups} {p : Fin 64 × WindowRec} :
    p ∈ t.raisedOnly R ↔ p ∈ t.stacked ∧ p.2.drawn R = true ∧ p.2.raised R = true := by
  simp [Table.raisedOnly]

/-- Where a drawn raised window passes a test, the highest window that passes it is raised. -/
theorem Table.highest_raised {t : Table} {R : Groups} {order : List (Fin 64 × WindowRec)} {p : Fin 64 × WindowRec}
    {test : Fin 64 × WindowRec → Bool} (horder : order = t.effective R ∨ order = t.raisedOnly R) (hp : p ∈ t.raisedOnly R)
    (htest : test p = true) : ∃ q, order.reverse.find? test = some q ∧ q.2.raised R = true := by
  obtain ⟨q, hq⟩ : ∃ q, (t.raisedOnly R).reverse.find? test = some q := by
    rw [← Option.isSome_iff_exists, List.find?_isSome]
    exact ⟨p, List.mem_reverse.mpr hp, htest⟩
  obtain ⟨-, -, hraised⟩ := Table.mem_raisedOnly.mp (List.mem_reverse.mp (List.mem_of_find?_eq_some hq))
  refine ⟨q, ?_, hraised⟩
  rcases horder with rfl | rfl
  · rw [Table.effective_eq, List.reverse_append, List.find?_append, hq]
    rfl
  · exact hq

/-! ## Rows between two boundary rows (R43) -/

/-- A window's relation to a row changes at its edges alone. -/
theorem WindowRec.covers_of_no_edge {w : WindowRec} {cy cy' : Nat} (hle : cy ≤ cy')
    (h : ∀ v ∈ w.edges, cy < v → cy' < v) (cx : Nat) : w.covers cx cy = w.covers cx cy' := by
  simp only [WindowRec.edges, List.forall_mem_cons, List.not_mem_nil, false_imp_iff, implies_true, and_true] at h
  obtain ⟨htop, -, -, hbottom⟩ := h
  have hrow : (w.y ≤ cy ↔ w.y ≤ cy') ∧ (cy < w.y + w.h ↔ cy' < w.y + w.h) := by omega
  simp only [WindowRec.covers, hrow.1, hrow.2]

theorem WindowRec.inInterior_of_no_edge {w : WindowRec} {cy cy' : Nat} (hle : cy ≤ cy')
    (h : ∀ v ∈ w.edges, cy < v → cy' < v) (cx : Nat) : w.inInterior cx cy = w.inInterior cx cy' := by
  simp only [WindowRec.edges, List.forall_mem_cons, List.not_mem_nil, false_imp_iff, implies_true, and_true] at h
  obtain ⟨-, htop, hbottom, -⟩ := h
  have hrow : (w.y + w.effBorder ≤ cy ↔ w.y + w.effBorder ≤ cy') ∧
      (cy + w.effBorder < w.y + w.h ↔ cy' + w.effBorder < w.y + w.h) := by omega
  simp only [WindowRec.inInterior, hrow.1, hrow.2]

theorem claim_of_no_edge {order : List (Fin 64 × WindowRec)} {cy cy' : Nat} (hle : cy ≤ cy')
    (h : ∀ p ∈ order, ∀ v ∈ p.2.edges, cy < v → cy' < v) (cx : Nat) : claim order cx cy = claim order cx cy' := by
  induction order with
  | nil => rfl
  | cons p below ih =>
    obtain ⟨i, w⟩ := p
    have hw := h (i, w) List.mem_cons_self
    unfold claim
    rw [WindowRec.covers_of_no_edge hle hw, WindowRec.inInterior_of_no_edge hle hw,
      ih fun p hp => h p (List.mem_cons_of_mem _ hp)]

/-- Each row of a built tile has the spans that its own pixels give. -/
theorem spansOf_buildBands_row {tile : TileRec} {r : Nat} (hr : r < tile.height) (order : List (Fin 64 × WindowRec)) :
    spansOf (buildBands tile order) r = rowSpans tile order r := by
  obtain ⟨q, -, hq, hlast, hspans⟩ := spansOf_buildBands tile order r
  have hedges : ∀ p ∈ order.reverse, ∀ v ∈ p.2.edges, tile.y + q < v → tile.y + r < v := by
    intro p hp v hv hlow
    by_contra hhigh
    have hrow : v - tile.y ∈ boundaryRows tile order :=
      mem_boundaryRows.mpr (.inr ⟨p, List.mem_reverse.mp hp, v, hv, by omega, rfl⟩)
    have := hlast _ hrow (by omega)
    omega
  rw [hspans, rowSpans, rowSpans]
  congr 2
  funext c
  exact claim_of_no_edge (Nat.add_le_add_left hq _) hedges _

/-! ## What a pixel shows (R44, R47) -/

/-- The claiming walk finds the first window that covers the pixel. -/
theorem claim_eq (order : List (Fin 64 × WindowRec)) (cx cy : Nat) :
    claim order cx cy =
      match order.find? fun p => p.2.covers cx cy with
      | none => .background
      | some (i, w) => if w.inInterior cx cy then .image i else .border i := by
  induction order with
  | nil => rfl
  | cons p below ih =>
    obtain ⟨i, w⟩ := p
    unfold claim
    cases hc : w.covers cx cy with
    | true => rw [List.find?_cons_of_pos (by exact hc), if_pos rfl]
    | false => rw [List.find?_cons_of_neg (by simp [hc]), if_neg Bool.false_ne_true, ih]

/-- The interior, with its right and lower edges as R23 gives them. -/
theorem WindowRec.inInterior_iff_edges (w : WindowRec) (cx cy : Nat) :
    w.inInterior cx cy = true ↔
      w.x + w.effBorder ≤ cx ∧ cx < w.x + w.w - w.effBorder ∧ w.y + w.effBorder ≤ cy ∧
        cy < w.y + w.h - w.effBorder := by
  simp only [WindowRec.inInterior, Bool.and_eq_true, decide_eq_true_eq]
  omega

theorem WindowRec.covers_eq (w : WindowRec) (cx cy : Nat) :
    w.covers cx cy = decide (w.x ≤ cx ∧ cx < w.x + w.w ∧ w.y ≤ cy ∧ cy < w.y + w.h) := by
  simp only [WindowRec.covers, Bool.decide_and, Bool.and_assoc]

/-- One span of a row holds a column, and shows what claims its pixel. -/
theorem rowSpans_holds {tile : TileRec} {c : Nat} (hc : c < tile.width) (order : List (Fin 64 × WindowRec)) (r : Nat) :
    ∃ sp ∈ rowSpans tile order r, (sp.start ≤ c ∧ c < sp.start + sp.len) ∧
      sp.kind = claim order.reverse (tile.x + c) (tile.y + r) ∧
      ∀ other ∈ rowSpans tile order r, other.start ≤ c → c < other.start + other.len → other = sp := by
  have hkind : (columnKinds (rowSpans tile order r))[c]? = some (claim order.reverse (tile.x + c) (tile.y + r)) := by
    rw [rowSpans, columnKinds_spansFrom, List.getElem?_map, List.getElem?_range hc]
    rfl
  simpa only [Nat.zero_add] using (rowSpans_sideBySide tile order r).holds hkind

/-- Settles O14: a row's spans are those of its own pixels, each claimed by the highest window that covers it. -/
theorem bandsShowHighestDrawnWindow : Obligations.BandsShowHighestDrawnWindow := by
  refine ⟨fun table R => ?_, fun tile table R order c r horder hc hr => ?_⟩
  · intro placed
    have hids (up : Bool) :
        ((table.stacked.filter fun p => p.2.drawn R && p.2.raised R == up).map fun p => p.1) =
          table.stack.filter (placed up) := by
      rw [table.stacked_filter_ids fun w => w.drawn R && w.raised R == up]
      congr 1
      funext i
      show _ = match table.records[i] with
        | some w => w.drawn R && w.raised R == up
        | none => false
      cases table.records[i] <;> rfl
    have hlow := hids false
    have hraised := hids true
    simp only [beq_false] at hlow
    simp only [beq_true] at hraised
    refine ⟨?_, hraised, fun p hp => ?_⟩
    · rw [Table.effective_eq, List.map_append, hlow]
      exact congrArg _ hraised
    · have hstacked : p ∈ table.stacked := by
        simp only [Table.effective, Table.raisedOnly, List.mem_append, List.mem_filter] at hp
        tauto
      exact (Table.mem_stacked.mp hstacked).2
  · intro cx cy onto shown
    have honto : onto = fun p => p.2.covers cx cy := by
      funext p
      exact (p.2.covers_eq cx cy).symm
    have hshown : shown = order.reverse.find? onto := rfl
    rw [spansOf_buildBands_row hr]
    obtain ⟨sp, hsp, hcol, hkind, hone⟩ := rowSpans_holds hc order r
    refine ⟨⟨sp, hsp, hcol, ?_, hone⟩, fun p hp hdrawn hraised hcovers => ?_⟩
    · rw [hkind, claim_eq, ← honto, ← hshown]
      cases shown with
      | none => rfl
      | some p =>
        obtain ⟨i, w⟩ := p
        exact ite_congr (propext (w.inInterior_iff_edges cx cy)) (fun _ => rfl) fun _ => rfl
    · rw [hshown]
      exact Table.highest_raised horder (Table.mem_raisedOnly.mpr ⟨hp, hdrawn, hraised⟩) hcovers


end Sys2Proof.Machine
end

section
/-! The pool of spans: what the build of one tile keeps and takes (R42, R48, R49, R55 to R57; O16). -/

namespace Sys2Proof.Machine

open Sys2Proof

/-! ## The limits (R48) -/

/-- A band table meets the three limits (R48). -/
def withinLimits (allowance : Nat) (bands : List Band) : Prop :=
  (∀ b ∈ bands, b.spans.length ≤ 40) ∧ bands.length ≤ 128 ∧ spanCount bands ≤ allowance

/-- The limits in order: a code is given for the first that is exceeded, and none when all three are met. -/
theorem limitCode_eq (allowance : Nat) (bands : List Band) :
    limitCode allowance bands =
      if ∃ b ∈ bands, 40 < b.spans.length then some 1
      else if 128 < bands.length then some 2
      else if allowance < spanCount bands then some 3 else none := by
  simp only [limitCode, List.any_eq_true, decide_eq_true_eq]
  rfl

theorem limitCode_eq_none {allowance : Nat} {bands : List Band} :
    limitCode allowance bands = none ↔ withinLimits allowance bands := by
  rw [limitCode_eq, withinLimits]
  by_cases hband : ∃ b ∈ bands, 40 < b.spans.length
  · obtain ⟨b, hb, hlong⟩ := hband
    rw [if_pos ⟨b, hb, hlong⟩]
    exact ⟨nofun, fun h => absurd (h.1 b hb) (Nat.not_le.mpr hlong)⟩
  · rw [if_neg hband]
    push Not at hband
    split
    · exact ⟨nofun, fun h => by omega⟩
    · split
      · exact ⟨nofun, fun h => by omega⟩
      · exact ⟨fun _ => ⟨hband, by omega, by omega⟩, fun _ => rfl⟩

theorem not_withinLimits_of_limitCode {allowance code : Nat} {bands : List Band}
    (h : limitCode allowance bands = some code) : ¬ withinLimits allowance bands := by
  rw [← limitCode_eq_none, h]
  exact nofun

/-! ## The build of one tile (R55 to R57) -/

/-- What the build of a tile can give: its windows' table when that meets the limits; else a failed GROUP build, and in an
ALARM build the table of the raised windows when that meets them, and one background band when neither does. -/
theorem buildTile_cases (kind : BuildKind) (tile : TileRec) (table : Table) (R : Groups) (allowance : Nat) :
    let normal := buildBands tile (table.effective R)
    let raised := buildBands tile (table.raisedOnly R)
    let result := buildTile kind tile table R allowance
    (withinLimits allowance normal ∧ result = .kept ⟨normal, .normal⟩) ∨
      ∃ code, limitCode allowance normal = some code ∧
        ((kind = .group ∧ result = .failed code) ∨
          (kind = .alarm ∧ withinLimits allowance raised ∧ result = .kept ⟨raised, .fallback⟩) ∨
          (kind = .alarm ∧ ¬ withinLimits allowance raised ∧ result = .kept ⟨backgroundBands tile, .degraded⟩)) := by
  dsimp only
  unfold buildTile
  dsimp only
  split
  · exact .inl ⟨limitCode_eq_none.mp ‹_›, rfl⟩
  · rename_i code hcode
    refine .inr ⟨code, hcode, ?_⟩
    cases kind with
    | group => exact .inl ⟨rfl, rfl⟩
    | alarm =>
      dsimp only
      split
      · exact .inr (.inl ⟨rfl, limitCode_eq_none.mp ‹_›, rfl⟩)
      · exact .inr (.inr ⟨rfl, not_withinLimits_of_limitCode ‹_›, rfl⟩)

/-- Settles O16, by what the build of a tile can give. -/
theorem builtTileMeetsLimits : Obligations.BuiltTileMeetsLimits := by
  intro kind tile table R allowance
  dsimp only
  rcases buildTile_cases kind tile table R allowance with ⟨hwithin, hresult⟩ | ⟨code, hcode, hcases⟩
  · rw [hresult]
    exact ⟨rfl, hwithin⟩
  have hnormal := not_withinLimits_of_limitCode hcode
  rcases hcases with ⟨hkind, hresult⟩ | ⟨hkind, hraised, hresult⟩ | ⟨hkind, hraised, hresult⟩ <;> rw [hresult]
  · refine ⟨hkind, ?_⟩
    rw [limitCode_eq] at hcode
    split at hcode
    · rw [if_pos ‹_›]
      exact (Option.some.inj hcode).symm
    rw [if_neg ‹_›]
    split at hcode
    · rw [if_pos ‹_›]
      exact (Option.some.inj hcode).symm
    rw [if_neg ‹_›]
    split at hcode
    · exact ⟨(Option.some.inj hcode).symm, ‹_›⟩
    · cases hcode
  · exact ⟨hkind, hnormal, rfl, hraised⟩
  · exact ⟨hkind, hnormal, hraised, rfl⟩

/-- A table that is kept has no more spans than the allowance, but one at least may be kept (R49, R57). -/
theorem spanCount_of_kept {kind : BuildKind} {tile : TileRec} {table : Table} {R : Groups} {allowance : Nat}
    {kept : TileTable} (h : buildTile kind tile table R allowance = .kept kept) : spanCount kept.bands ≤ max 1 allowance := by
  rcases buildTile_cases kind tile table R allowance with ⟨⟨-, -, hspans⟩, hresult⟩ | ⟨code, -, hcases⟩
  · cases hresult.symm.trans h
    exact hspans.trans (Nat.le_max_right _ _)
  rcases hcases with ⟨-, hresult⟩ | ⟨-, ⟨-, -, hspans⟩, hresult⟩ | ⟨-, -, hresult⟩ <;> cases hresult.symm.trans h
  · exact hspans.trans (Nat.le_max_right _ _)
  · exact Nat.le_max_left 1 _

/-! ## The tiles of a build in tile number order (R42) -/

/-- The next enabled tile is the first one from a tile number on. -/
theorem nextTile_eq_some {cfg : Loaded} {n : Nat} {k : Fin 16} :
    nextTile cfg n = some k ↔
      (n ≤ k.val ∧ (cfg.tiles[k]).enable = true) ∧ ∀ j : Fin 16, n ≤ j.val → j < k → (cfg.tiles[j]).enable = false := by
  rw [nextTile, List.find?_eq_some_iff_getElem]
  simp only [Bool.and_eq_true, decide_eq_true_eq, Bool.not_and, Bool.or_eq_true, Bool.not_eq_true',
    decide_eq_false_iff_not, List.getElem_finRange, List.length_finRange]
  refine and_congr_right fun _ => ⟨?_, fun h => ⟨k.val, k.isLt, by simp, fun j hj => ?_⟩⟩
  · rintro ⟨i, hi, rfl, hfirst⟩ j hn hj
    exact (hfirst j.val hj).resolve_left (fun hlt => hlt hn)
  · by_cases hn : n ≤ j
    · exact .inr (h ⟨j, by omega⟩ hn hj)
    · exact .inl hn

theorem nextTile_eq_none {cfg : Loaded} {n : Nat} :
    nextTile cfg n = none ↔ ∀ j : Fin 16, n ≤ j.val → (cfg.tiles[j]).enable = false := by
  simp [nextTile]

/-! ## Sums over the sixteen tiles -/

/-- The spans of a bank, tile by tile. -/
theorem Bank.spans_eq (b : Bank) : b.spans = ∑ t : Fin 16, spanCount (b.bandsOf t) := by
  rw [Fin.sum_univ_def, Bank.spans]
  congr 2
  funext t
  unfold Bank.bandsOf
  cases b.tiles[t] <;> rfl

/-- The spans that the tiles before one hold in a bank (R49). -/
theorem spansTaken_eq (b : Bank) (k : Fin 16) :
    spansTaken b k = ∑ t : Fin 16, if t < k then spanCount (b.bandsOf t) else 0 := by
  rw [Fin.sum_univ_def, spansTaken]
  congr 2
  funext t
  unfold Bank.bandsOf
  cases b.tiles[t] <;> rfl

/-- How many of the tiles a test holds of. -/
theorem length_filter_tiles (p : Fin 16 → Bool) :
    ((List.finRange 16).filter p).length = ∑ t : Fin 16, if p t = true then 1 else 0 := by
  rw [Fin.sum_univ_def, List.sum_map_ite]
  simp

theorem tilesAfter_eq (s : State) (k : Fin 16) : tilesAfter s.cfg k = s.tilesFrom (k.val + 1) := rfl

theorem State.tilesFrom_le (s : State) (n : Nat) : s.tilesFrom n ≤ 16 :=
  (List.length_filter_le _ _).trans (by simp)

/-- The tile in hand and the enabled ones after it are those still to be built. -/
theorem State.tilesFrom_next {s : State} {n : Nat} {k : Fin 16} (h : nextTile s.cfg n = some k) :
    s.tilesFrom n = s.tilesFrom (k.val + 1) + 1 := by
  obtain ⟨⟨hn, hk⟩, hfirst⟩ := nextTile_eq_some.mp h
  have hone : (1 : Nat) = ∑ t : Fin 16, if t = k then 1 else 0 := by simp
  rw [State.tilesFrom, State.tilesFrom, length_filter_tiles, length_filter_tiles, hone, ← Finset.sum_add_distrib]
  refine Finset.sum_congr rfl fun t _ => ?_
  rcases lt_trichotomy t k with hlt | rfl | hgt
  · have hoff : n ≤ t.val → (s.tile t).enable = false := fun hle => hfirst t hle hlt
    have hnot : ¬ k.val + 1 ≤ t.val := by omega
    by_cases hle : n ≤ t.val
    · simp [hoff hle, hlt.ne]
    · simp [hle, hnot, hlt.ne]
  · have hon : (s.tile t).enable = true := hk
    simp [hn, hon]
  · have hle : n ≤ t.val := by omega
    have hafter : k.val + 1 ≤ t.val := by omega
    simp [hle, hafter, hgt.ne']

/-! ## Keeping a tile in the shadow -/

theorem Bank.bandsOf_keep (b : Bank) (k t : Fin 16) (table : TileTable) :
    (b.keep k table).bandsOf t = if t = k then table.bands else b.bandsOf t := by
  unfold Bank.bandsOf Bank.keep
  dsimp only
  rw [vset_get_eq]
  by_cases h : t = k
  · rw [if_pos h, if_pos h]
  · rw [if_neg h, if_neg h]

theorem Bank.bandsOf_none {b : Bank} {t : Fin 16} (h : b.tiles[t] = none) : b.bandsOf t = [] := by
  rw [Bank.bandsOf, h]

/-- A table kept for a tile of which the bank holds none adds its spans. -/
theorem Bank.spans_keep {b : Bank} {k : Fin 16} (h : b.tiles[k] = none) (table : TileTable) :
    (b.keep k table).spans = b.spans + spanCount table.bands := by
  have hadded : spanCount table.bands = ∑ t : Fin 16, if t = k then spanCount table.bands else 0 := by simp
  rw [Bank.spans_eq, Bank.spans_eq, hadded, ← Finset.sum_add_distrib]
  refine Finset.sum_congr rfl fun t _ => ?_
  rw [Bank.bandsOf_keep]
  by_cases ht : t = k
  · rw [if_pos ht, if_pos ht, ht, Bank.bandsOf_none h]
    exact (Nat.zero_add _).symm
  · rw [if_neg ht, if_neg ht, Nat.add_zero]

/-- A bank that holds nothing from a tile on has taken all its spans for the tiles before it. -/
theorem spansTaken_of_none {b : Bank} {k : Fin 16} (h : ∀ t : Fin 16, k ≤ t → b.tiles[t] = none) :
    spansTaken b k = b.spans := by
  rw [spansTaken_eq, Bank.spans_eq]
  refine Finset.sum_congr rfl fun t _ => ?_
  split
  · rfl
  · rw [Bank.bandsOf_none (h t (not_lt.mp ‹_›))]
    rfl

/-- A bank that holds nothing has no spans. -/
theorem Bank.spans_empty (R : Groups) : (Bank.mk R (Vector.replicate 16 none)).spans = 0 := by
  rw [Bank.spans_eq]
  refine Finset.sum_eq_zero fun t _ => ?_
  rw [Bank.bandsOf_none (by simp)]
  rfl

/-- The initial bank has one span for each enabled tile (R41). -/
theorem initialBank_spans_le (cfg : Loaded) : (initialBank cfg).spans ≤ 16 := by
  have htile (t : Fin 16) : spanCount ((initialBank cfg).bandsOf t) ≤ 1 := by
    rw [initialBank, Bank.bandsOf]
    dsimp only
    rw [mapBank_get]
    split
    · rename_i built hbuilt
      split at hbuilt
      · cases hbuilt
        exact le_refl 1
      · cases hbuilt
    · exact Nat.zero_le 1
  rw [Bank.spans_eq]
  exact (Finset.sum_le_card_nsmul _ _ 1 fun t _ => htile t).trans (by simp)

end Sys2Proof.Machine
end

section
/-! Every step keeps the spans of a bank within the pool (R49; O17). -/

namespace Sys2Proof.Machine

open Sys2Proof

/-! ## A build that starts again (R42, R52 to R54) -/

/-- The builder with a build of a kind begun from the first tile under a raised set. -/
def Builder.begun (b : Builder) (kind : BuildKind) (R : Groups) : Builder :=
  { b with state := .building kind 0, shadow := some ⟨R, Vector.replicate 16 none⟩ }

/-- The loaded configuration stands, and the builder is as it was or has begun a build anew. -/
def State.restarts (s t : State) : Prop :=
  t.config = s.config ∧ (t.builder = s.builder ∨ ∃ kind R, t.builder = s.builder.begun kind R)

theorem State.restarts.same {s t : State} (hb : t.builder = s.builder := by simp) (hc : t.config = s.config := by simp) :
    s.restarts t := ⟨hc, .inl hb⟩

theorem State.restarts.trans {s t u : State} (h : s.restarts t) (g : t.restarts u) : s.restarts u := by
  obtain ⟨hc, hb⟩ := h
  obtain ⟨gc, gb⟩ := g
  refine ⟨gc.trans hc, ?_⟩
  rcases gb with gb | ⟨kind, R, gb⟩
  · rwa [gb]
  · refine .inr ⟨kind, R, ?_⟩
    rcases hb with hb | ⟨_, _, hb⟩ <;> rw [gb, hb]
    rfl

/-- A restart followed by work that leaves the builder alone. -/
theorem State.restarts.then {s t u : State} (h : s.restarts t) (hb : u.builder = t.builder := by simp)
    (hc : u.config = t.config := by simp) : s.restarts u :=
  h.trans (.same hb hc)

theorem State.startBuild_restarts (s : State) (kind : BuildKind) : s.restarts (s.startBuild kind) :=
  ⟨rfl, .inr ⟨_, _, rfl⟩⟩

theorem State.raisedChanged_restarts (s : State) : s.restarts s.raisedChanged := by
  unfold State.raisedChanged
  split <;> exact s.startBuild_restarts _

theorem State.makeMoves_restarts (s : State) (alarms : Vector AlarmInput 8) : s.restarts (s.makeMoves alarms) := by
  have halarms : s.restarts (s.withAlarms alarms) := .same
  unfold State.makeMoves
  dsimp only
  split
  · exact halarms
  · exact halarms.trans (State.raisedChanged_restarts _)

theorem State.alarmWork_restarts (s : State) (alarms : Vector AlarmInput 8) (moved : Bool) :
    s.restarts (s.alarmWork alarms moved) := by
  have hraised : s.restarts (s.raiseIf moved causeAlarmEvent) := .same
  exact hraised.trans (State.makeMoves_restarts _ _)

theorem State.sampleContacts_restarts (s : State) (high : Groups) : s.restarts (s.sampleContacts high) := by
  unfold State.sampleContacts State.alarmStep
  exact s.alarmWork_restarts _ _

theorem State.clearWork_restarts (s : State) : s.restarts s.clearWork.1 := by
  unfold State.clearWork
  dsimp only
  exact s.alarmWork_restarts _ _

theorem State.alarmTakes_restarts (s : State) (step : AlarmStep) : s.restarts (s.alarmTakes step) := by
  unfold State.alarmTakes
  split
  · exact s.alarmWork_restarts _ _
  · exact .same

theorem State.alarmStepLate_restarts (more : Bool) (s : State) (step : AlarmStep) :
    s.restarts (State.alarmStepLate more s step) := by
  have hmoves := s.makeMoves_restarts (step.applied s.alarms)
  unfold State.alarmStepLate
  dsimp only
  split
  · exact hmoves.then
  · exact hmoves

theorem State.alarmStepsLate_restarts (more : Bool) (steps : List AlarmStep) (s : State) :
    s.restarts (steps.foldl (State.alarmStepLate more) s) := by
  induction steps generalizing s with
  | nil => exact .same rfl rfl
  | cons step rest ih => exact (State.alarmStepLate_restarts more s step).trans (ih _)

theorem State.alarmsGoOn_restarts (s : State) (more : Bool) : s.restarts (s.alarmsGoOn more) := by
  unfold State.alarmsGoOn
  split
  · exact .same rfl rfl
  · rename_i steps rest _
    have hrest : s.restarts (s.withAlarmsLater rest) := .same
    exact hrest.trans (State.alarmStepsLate_restarts more steps _)

/-! ### The ring processor's work -/

theorem State.commitGroup_restarts (s : State) (n : Word) : s.restarts (s.commitGroup n) :=
  State.restarts.then s.clearWork_restarts (State.commitWith_builder _ _ _) (State.commitWith_config _ _ _)

theorem State.takeLookEvent_restarts (s : State) (ev : LookCause) : s.restarts (s.takeLookEvent ev) := by
  cases ev with
  | frame n =>
    show s.restarts (s.ringTakesFrame n)
    unfold State.ringTakesFrame
    split
    · exact s.commitGroup_restarts n
    · exact .same
  | attend => exact .same (s.lookIn_builder _) (s.lookIn_config _)
  | atOnce => exact .same (s.lookIn_builder _) (s.lookIn_config _)

theorem State.takeKept_restarts (s : State) (ev : LookCause) (more : Bool) : s.restarts (s.takeKept ev more) := by
  have htakes := s.takeLookEvent_restarts ev
  cases ev with
  | frame n =>
    have hcopied :
        s.restarts (if more then s.copyFollows (s.takeLookEvent (.frame n)) else s.takeLookEvent (.frame n)) := by
      split
      · exact htakes.then
      · exact htakes
    exact hcopied.trans (State.alarmsGoOn_restarts _ more)
  | attend => exact htakes
  | atOnce => exact htakes

theorem State.serveKept_restarts (evs : List LookCause) (s : State) : s.restarts (State.serveKept evs s) := by
  induction evs generalizing s with
  | nil => exact .same rfl rfl
  | cons ev rest ih =>
    have hnone : s.restarts (s.withRing { s.ring with kept := [] }) := .same
    have htakes := hnone.trans (State.takeKept_restarts _ ev (rest.any LookCause.isFrame))
    unfold State.serveKept
    dsimp only
    split
    · exact htakes.trans (ih _)
    · exact htakes.then rfl rfl

theorem State.settleLooks_restarts (s : State) : s.restarts s.settleLooks := State.serveKept_restarts _ s

theorem State.lookEvent_restarts (s : State) (ev : LookCause) : s.restarts (s.lookEvent ev) := by
  unfold State.lookEvent
  split
  · exact s.takeLookEvent_restarts ev
  · split
    · exact .same rfl rfl
    · exact .same

theorem State.abortGroup_restarts (s : State) (extra : List Held) (code detail : Nat) (skip : Bool) :
    s.restarts (s.abortGroup extra code detail skip) := by
  unfold State.abortGroup
  dsimp only
  exact State.restarts.trans (t := State.issue _ _ _) .same (State.settleLooks_restarts _)

theorem State.completeGroup_restarts (s : State) : s.restarts s.completeGroup := by
  have hwaits : s.restarts (s.withRing { s.ring with state := .awaitingCommit }) := .same
  unfold State.completeGroup
  dsimp only
  split
  · exact (hwaits.trans (State.startBuild_restarts _ _)).trans (State.settleLooks_restarts _)
  · exact hwaits.trans (State.settleLooks_restarts _)

theorem State.takeSlot_restarts (s : State) (slot : List Byte) (check : Ring → Verdict) :
    s.restarts (s.takeSlot slot check) := by
  have hring (r : Ring) : s.restarts (s.withRing r) := .same
  unfold State.takeSlot
  dsimp only
  split
  · exact (hring _).trans (State.abortGroup_restarts _ _ _ _ _)
  · split
    · exact (hring _).trans (State.abortGroup_restarts _ _ _ _ _)
    · split
      · exact (hring _).then (State.lookAtOnce_builder _) (State.lookAtOnce_config _)
      · exact (hring _).trans (State.completeGroup_restarts _)

/-! ## The pool under a build, a restart and a swap (R42, R49, R59) -/

/-- A step that holds the pool. -/
def State.keepsPool (s t : State) : Prop := s.poolHolds → t.poolHolds

theorem State.poolHolds_idle {s : State} (hb : s.builder.state = .idle)
    (ha : ∀ b, s.builder.active = some b → b.spans ≤ 6144) : s.poolHolds := by
  rw [State.poolHolds, hb]
  exact ⟨ha, trivial⟩

theorem State.poolHolds_congr {s t : State} (hb : t.builder = s.builder) (hc : t.config = s.config) (h : s.poolHolds) :
    t.poolHolds := by
  have htiles (n : Nat) : t.tilesFrom n = s.tilesFrom n := by
    rw [State.tilesFrom, State.tilesFrom]
    simp only [State.tile_congr hc]
  simpa only [State.poolHolds, hb, htiles] using h

/-- A build that has just begun has taken nothing. -/
theorem State.restarts.keepsPool {s t : State} (h : s.restarts t) : s.keepsPool t := by
  intro hs
  obtain ⟨hc, hb | ⟨kind, R, hb⟩⟩ := h
  · exact State.poolHolds_congr hb hc hs
  · rw [State.poolHolds, hb]
    refine ⟨hs.1, ⟨R, Vector.replicate 16 none⟩, rfl, fun t _ => by simp, ?_⟩
    have hempty := Bank.spans_empty R
    have htiles := t.tilesFrom_le 0
    omega

theorem State.tileInHand_eq_some {s : State} {kind : BuildKind} {k : Fin 16} :
    s.tileInHand = some (kind, k) ↔ ∃ n, s.builder.state = .building kind n ∧ nextTile s.cfg n = some k := by
  unfold State.tileInHand
  cases s.builder.state <;> simp [and_comm]

/-- The allowance of the tile in hand: what the tiles before it and one span for each one after it leave of the pool. -/
theorem poolAllowance_eq (s : State) (shadow : Bank) (k : Fin 16) :
    poolAllowance s.cfg shadow k = 6144 - (spansTaken shadow k + s.tilesFrom (k.val + 1)) := by
  rw [poolAllowance, tilesAfter_eq, Config.poolSpans, Nat.sub_sub]

/-- A tile built within its allowance leaves one span for each enabled tile after it. -/
theorem State.keepTile_keepsPool {s : State} {kind : BuildKind} {k : Fin 16} {table : TileTable}
    (hk : s.tileInHand = some (kind, k)) (hr : s.tileResult kind k = .kept table) :
    s.keepsPool (s.keepTile kind s.builder.shadowBank k table) := by
  intro hs
  obtain ⟨n, hb, hnext⟩ := State.tileInHand_eq_some.mp hk
  obtain ⟨hactive, hbuild⟩ := hs
  rw [hb] at hbuild
  obtain ⟨b, hshadow, hnone, hpool⟩ := hbuild
  have hbank : s.builder.shadowBank = b := by rw [Builder.shadowBank, hshadow]; rfl
  obtain ⟨⟨hn, -⟩, -⟩ := nextTile_eq_some.mp hnext
  have hspans : (b.keep k table).spans + s.tilesFrom (k.val + 1) ≤ 6144 := by
    have hfits := spanCount_of_kept hr
    rw [hbank, poolAllowance_eq, spansTaken_of_none fun t ht => hnone t (hn.trans ht)] at hfits
    have hone := State.tilesFrom_next hnext
    rw [Bank.spans_keep (hnone k hn)]
    omega
  rw [hbank, State.keepTile, State.poolHolds]
  refine ⟨hactive, ?_⟩
  rw [State.withBuilder_builder]
  cases nextTile s.cfg (k.val + 1) with
  | some _ =>
    refine ⟨_, rfl, fun t ht => ?_, hspans⟩
    rw [Bank.keep, vset_get_of_ne _ _ (by rintro rfl; omega)]
    exact hnone t (by omega)
  | none =>
    rintro _ ⟨⟩
    exact (Nat.le_add_right _ _).trans hspans

theorem State.completeLate_keepsPool (s : State) : s.keepsPool s.completeLate := by
  rcases s.completeLate_cases with h | ⟨kind, t, table, hk, hn, hr, h⟩
  · rw [h]
    exact id
  · have hkeep : s.completeLate = s.keepTile kind s.builder.shadowBank t table := by simp [h, State.keepTile, hn]
    rw [hkeep]
    exact State.keepTile_keepsPool hk hr

theorem State.swap_keepsPool (s : State) : s.keepsPool s.swap := by
  intro hs
  unfold State.swap State.swapKind
  cases hb : s.builder.state with
  | idle => exact hs
  | building kind n => exact hs
  | donePending kind =>
    have hshadow : ∀ b, s.builder.shadow = some b → b.spans ≤ 6144 := by
      have hbuild := hs.2
      rwa [hb] at hbuild
    cases kind with
    | group => exact State.poolHolds_idle (by simp) (by simpa using hshadow)
    | alarm => exact State.poolHolds_idle (by simp) (by simpa using hshadow)

theorem State.failBuild_keepsPool (s : State) (k : Fin 16) (code : Nat) : s.keepsPool (s.failBuild k code) := by
  intro hs
  have hdiscard : (s.withBuilder
      { s.builder with state := .idle, shadow := none, failed := satInc s.builder.failed }).poolHolds :=
    State.poolHolds_idle rfl hs.1
  have habort := (State.abortGroup_restarts _ [] resTooComplex (k.val + 256 * code) false).keepsPool hdiscard
  unfold State.failBuild
  dsimp only
  split
  · exact habort
  · exact (State.startBuild_restarts _ _).keepsPool habort

/-! ## A wall frame start (R59, R62) -/

theorem State.keepsPool.trans {s t u : State} (h : s.keepsPool t) (g : t.keepsPool u) : s.keepsPool u := g ∘ h

/-- A step that holds the pool, followed by work of the ring processor or of the alarm contact unit. -/
theorem State.keepsPool.restarts {s t u : State} (h : s.keepsPool t) (g : t.restarts u) : s.keepsPool u :=
  h.trans g.keepsPool

theorem State.blocksTakeFrame_keepsPool (s : State) (lastTile : Bool) : s.keepsPool (s.blocksTakeFrame lastTile) := by
  have hbuilder : s.keepsPool (if lastTile then s.swap.completeLate else s.swap) := by
    split
    · exact s.swap_keepsPool.trans s.swap.completeLate_keepsPool
    · exact s.swap_keepsPool
  unfold State.blocksTakeFrame
  exact hbuilder.restarts .same

theorem State.frameAlone_keepsPool (s : State) (setFirst lastTile : Bool) :
    s.keepsPool (s.frameAlone setFirst lastTile) := by
  have hbegun : s.restarts s.frameBegun := .same rfl rfl
  have hblocks := hbegun.keepsPool.trans (s.frameBegun.blocksTakeFrame_keepsPool lastTile)
  have hclears : s.restarts s.frameBegun.clearWork.1 := hbegun.trans (State.clearWork_restarts _)
  have hcleared := hclears.keepsPool.trans (State.blocksTakeFrame_keepsPool _ lastTile)
  show s.keepsPool
    (if s.groupCommits then (s.frameBegun.blocksTakeFrame lastTile).commitGroup s.frameBegun.frameNo
     else if setFirst && s.awaitsFrame then
       (s.frameBegun.clearWork.1.blocksTakeFrame lastTile).commitWith s.frameBegun.frameNo s.frameBegun.clearWork.2
     else (s.frameBegun.blocksTakeFrame lastTile).ringFrame)
  split
  · exact hblocks.restarts (State.commitGroup_restarts _ _)
  split
  · exact hcleared.restarts .same
  · exact hblocks.restarts (State.lookEvent_restarts _ _)

theorem State.frameChangeAfter_keepsPool (s : State) (high : Groups) (lastTile : Bool) :
    s.keepsPool (s.frameChangeAfter high lastTile) := by
  have hmoved : s.restarts
      ((s.withAlarms (sampledAll s.alarms high)).raiseIf (someSettles s.alarms high) causeAlarmEvent) := .same
  have hframe := hmoved.keepsPool.trans (State.frameAlone_keepsPool _ false lastTile)
  unfold State.frameChangeAfter
  dsimp only
  split
  · exact hframe
  · exact hframe.restarts (State.raisedChanged_restarts _)

theorem State.frameChangeBefore_keepsPool (s : State) (high : Groups) (lastTile : Bool) :
    s.keepsPool (s.frameChangeBefore high lastTile) := by
  have hcleared : s.restarts (if s.awaitsFrame then s.clearWork else (s, [])).1 := by
    split
    · exact s.clearWork_restarts
    · exact .same rfl rfl
  unfold State.frameChangeBefore
  dsimp only
  generalize (if s.awaitsFrame then s.clearWork else (s, [])) = cleared at hcleared ⊢
  have hsampled := hcleared.trans (cleared.1.sampleContacts_restarts high)
  generalize cleared.1.sampleContacts high = sampled at hsampled ⊢
  have hnumbered : s.restarts (sampled.withFrameNo (s.frameNo + 1)).pushFrame := hsampled.then
  have hblocks := hnumbered.keepsPool.trans (State.blocksTakeFrame_keepsPool _ lastTile)
  generalize (sampled.withFrameNo (s.frameNo + 1)).pushFrame.blocksTakeFrame lastTile = t at hblocks ⊢
  have hcopied : s.keepsPool (t.withAlarms cleared.1.alarms) := hblocks.restarts .same
  split
  · exact (s.frameAlone_keepsPool true lastTile).restarts (State.alarmTakes_restarts _ _)
  · split
    · exact hcopied.restarts .same
    · exact hcopied.restarts (State.restarts.then (State.lookEvent_restarts _ _) rfl rfl)

theorem State.frameAndInterval_keepsPool (s : State) (order : FrameOrder) (x : TogetherInterval) :
    s.keepsPool (s.frameAndInterval order x) := by
  unfold State.frameAndInterval
  dsimp only
  split
  · split
    · exact (s.alarmTakes_restarts _).keepsPool.trans (State.frameAlone_keepsPool _ _ _)
    · exact s.frameChangeAfter_keepsPool _ _
  · split
    · exact s.frameChangeBefore_keepsPool _ _
    · exact (s.frameAlone_keepsPool _ _).restarts (State.alarmTakes_restarts _ _)

theorem State.takeFrame_keepsPool (s : State) (order : FrameOrder) : s.keepsPool (s.takeFrame order) := by
  unfold State.takeFrame
  split
  · exact s.frameAlone_keepsPool _ _
  · rename_i x _
    have hticked : s.restarts (s.unitsTick x.sourcesFirst x.inputsFirst) := .same
    exact (hticked.keepsPool.trans (State.frameAndInterval_keepsPool _ order x)).restarts .same

/-! ## Every command -/

/-- A command after which the pool holds. -/
def State.poolAfter (s : State) (o : Host.Outcome State Fault Refusal) : Prop := ∀ t, o = .next t → s.keepsPool t

section
variable {s t : State} {p : Prop} [Decidable p]

theorem State.keepsPool.next (h : s.keepsPool t) : s.poolAfter (.next t) := by
  rintro _ ⟨⟩
  exact h

theorem State.restarts.next (h : s.restarts t) : s.poolAfter (.next t) := h.keepsPool.next

/-- A command that leaves the builder alone. -/
theorem State.poolAfter.apart (hb : t.builder = s.builder := by simp) (hc : t.config = s.config := by simp) :
    s.poolAfter (.next t) :=
  (State.restarts.same hb hc).next

theorem State.poolAfter.idle : s.poolAfter (.next s) := .apart rfl rfl

theorem State.poolAfter.fault (r : Fault) : s.poolAfter (.fault r) := fun _ h => nomatch h

/-- A command that unloads the builder, or loads it anew (R41). -/
theorem State.poolAfter.unloads (hb : t.builder.state = .idle) (ha : ∀ b, t.builder.active = some b → b.spans ≤ 6144) :
    s.poolAfter (.next t) :=
  State.keepsPool.next fun _ => State.poolHolds_idle hb ha

theorem State.poolAfter.ite {a b : Host.Outcome State Fault Refusal} (ha : s.poolAfter a) (hb : s.poolAfter b) :
    s.poolAfter (if p then a else b) := by
  split
  · exact ha
  · exact hb

theorem State.poolAfter.nextIte {u : State} (ha : s.poolAfter (.next t)) (hb : s.poolAfter (.next u)) :
    s.poolAfter (.next (if p then t else u)) := by
  split
  · exact ha
  · exact hb

end

theorem State.takeKind_poolAfter (s : State) (kind : Nat) (check : List Byte → Ring → Verdict) :
    s.poolAfter (.next (s.takeKind kind check)) := by
  unfold State.takeKind
  split
  · exact (s.takeSlot_restarts _ _).next
  · exact .idle

theorem execTakeScene_poolAfter (s : State) : s.poolAfter (execTakeScene s) := by
  unfold execTakeScene
  split
  · exact .nextIte (s.takeSlot_restarts _ _).next .idle
  · exact .nextIte .idle (s.takeKind_poolAfter _ _)
  all_goals exact .idle

theorem execBadKind_poolAfter (s : State) : s.poolAfter (execBadKind s) := by
  unfold execBadKind
  split
  · exact .nextIte (s.takeSlot_restarts _ _).next .idle
  all_goals exact .idle

theorem execSlotNotPosted_poolAfter (s : State) : s.poolAfter (execSlotNotPosted s) := by
  unfold execSlotNotPosted
  split
  · exact .idle
  · dsimp only
    generalize (if s.countsWait _ = true then s.ring.wait + 1 else s.ring.wait) = wait
    have hended : s.restarts (s.withRing { s.ring with wait := wait, look := .none }) := .same
    exact .ite (.apart rfl rfl) (hended.trans (State.settleLooks_restarts _)).next

theorem execSkippedSlot_poolAfter (s : State) : s.poolAfter (execSkippedSlot s) := by
  unfold execSkippedSlot
  split
  · exact .idle
  · exact .apart

theorem execWriteBackDone_poolAfter (s : State) : s.poolAfter (execWriteBackDone s) := by
  unfold execWriteBackDone
  split
  · exact .nextIte .apart .idle
  · exact .idle

theorem execAbortReturnDone_poolAfter (s : State) : s.poolAfter (execAbortReturnDone s) := by
  unfold execAbortReturnDone
  split
  · exact .idle
  · exact .nextIte .apart .idle

theorem execTileBuilt_poolAfter (s : State) : s.poolAfter (execTileBuilt s) := by
  unfold execTileBuilt
  split
  · exact .idle
  · split
    · exact (State.keepTile_keepsPool ‹_› ‹_›).next
    · exact (s.failBuild_keepsPool _ _).next

theorem exec_poolAfter (c : Instr) (s : State) : s.poolAfter (exec c s) := by
  cases c with
  | powerOnReset dram => exact .unloads rfl nofun
  | resetPin cut => exact .unloads rfl nofun
  | pcieLinkReset lost => exact .apart rfl rfl
  | load start =>
    rw [exec_load]
    exact .nextIte (.unloads rfl nofun) .apart
  | start =>
    rw [exec_start]
    exact .nextIte .apart .apart
  | stop load start => exact .unloads rfl nofun
  | loadEnd =>
    rcases exec_loadEnd_cases s with h | ⟨-, h | ⟨code, index, h⟩⟩ <;> rw [h]
    · exact .idle
    · refine .unloads rfl ?_
      rintro _ ⟨⟩
      exact (initialBank_spans_le _).trans (by decide)
    · exact .apart
  | heldStart =>
    rw [exec_heldStart]
    exact .nextIte .apart .idle
  | causeClear w => exact .apart rfl rfl
  | causeEnableWrite w => exact .apart rfl rfl
  | areaBaseWrite w => exact .nextIte (.apart rfl rfl) .apart
  | attend w => exact .nextIte (s.lookEvent_restarts _).next .apart
  | resetReasonClear w => exact .apart rfl rfl
  | ignoredRegisterWrite offset w => exact .idle
  | bar2Access op =>
    cases op with
    | read addr len => exact .ite (.fault _) (.apart rfl rfl)
    | write addr data => exact .ite (.fault _) (.apart rfl rfl)
  | transferGrant =>
    rw [exec_transferGrant]
    cases s.port.choose with
    | none => exact .idle
    | some r => exact .apart
  | wallFrameStart order => exact .nextIte (s.takeFrame_keepsPool order).next .idle
  | millisecondInterval high =>
    have hunits := (s.alarmTakes_restarts (.interval high)).then (State.unitsTick_builder _ true (BitVec.allOnes 16))
      (State.unitsTick_config _ _ _)
    exact .ite hunits.next .idle
  | debouncedAssert i => exact .nextIte (s.alarmTakes_restarts _).next .idle
  | debouncedRelease i => exact .nextIte (s.alarmTakes_restarts _).next .idle
  | lossOfSignal c => exact .ite .apart .idle
  | staleLimitReached src => exact .ite .apart .idle
  | expiry src => exact .ite .apart .idle
  | memoryHeaderRead m =>
    show s.poolAfter (execMemoryHeaderRead m s)
    unfold execMemoryHeaderRead
    split
    · exact .apart
    · exact .idle
  | lineStart t => exact .apart
  | rowComposed t => exact .apart
  | frameStartMark c => exact .ite .apart .idle
  | captureLock c => exact .ite .apart .idle
  | congestionHalved c => exact .ite .apart .idle
  | congestionNormal c => exact .ite .apart .idle
  | lineStartMark c => exact .ite .apart .idle
  | pixel c p => exact .ite .apart .idle
  | goodFrameReport c => exact .ite .apart .idle
  | capturePublication c =>
    show s.poolAfter (execCapturePublication c s)
    unfold execCapturePublication
    split
    · exact .nextIte .apart .idle
    · exact .idle
  | tileBuilt => exact execTileBuilt_poolAfter s
  | nop => exact s.takeKind_poolAfter _ _
  | takeScene => exact execTakeScene_poolAfter s
  | putWindow => exact s.takeKind_poolAfter _ _
  | removeWindow => exact s.takeKind_poolAfter _ _
  | restack => exact s.takeKind_poolAfter _ _
  | saveScene => exact s.takeKind_poolAfter _ _
  | freeze => exact s.takeKind_poolAfter _ _
  | clearAlarm => exact s.takeKind_poolAfter _ _
  | sourceConfig => exact s.takeKind_poolAfter _ _
  | clearWall => exact s.takeKind_poolAfter _ _
  | badKind => exact execBadKind_poolAfter s
  | slotNotPosted => exact execSlotNotPosted_poolAfter s
  | skippedSlot => exact execSkippedSlot_poolAfter s
  | chainTimeout => exact .ite (s.abortGroup_restarts _ _ _ _).next .idle
  | skipTimeout =>
    have hended : s.restarts (s.withRing { s.ring with state := .idle, look := .none }) := .same
    exact .ite (hended.trans (State.settleLooks_restarts _)).next .idle
  | writeBackDone => exact execWriteBackDone_poolAfter s
  | abortReturnDone => exact execAbortReturnDone_poolAfter s

/-- Settles O17: a step restarts a build, keeps a tile within its allowance, swaps the banks or unloads them, or leaves the
builder alone. -/
theorem poolNeverOverflows : Obligations.PoolNeverOverflows := by
  intro s t hs h
  rcases step_cases h with rfl | ⟨c, rest, -, he⟩
  · exact hs
  · exact exec_poolAfter c (s.withPending rest) t he hs


end Sys2Proof.Machine
end

section
/-! The builder finishes a tile: its allowance, the tile kept, the build failed (O49). -/

namespace Sys2Proof.Machine

open Sys2Proof

/-- The tiles before one, with the spans that each holds. -/
theorem spansTaken_filter (b : Bank) (k : Fin 16) :
    spansTaken b k =
      (((List.finRange 16).filter fun u => decide (u < k)).map fun u =>
        match b.tiles[u] with
        | some built => (built.bands.map fun b => b.spans.length).sum
        | none => 0).sum := by
  rw [spansTaken, List.sum_map_ite]
  simp only [List.map_const', List.sum_replicate, smul_zero, Nat.add_zero]
  rfl

/-- The builder's state once the tile in hand has been kept: the next tile, or a complete build (R58). -/
theorem State.keepTile_eq (s : State) (kind : BuildKind) (b : Bank) (k : Fin 16) (table : TileTable) :
    s.keepTile kind b k table =
      { s with
        builder := { s.builder with
          shadow := some (b.keep k table)
          state :=
            if ∃ j : Fin 16, k < j ∧ (s.tile j).enable = true then .building kind (k.val + 1)
            else .donePending kind } } := by
  unfold State.keepTile
  cases hn : nextTile s.cfg (k.val + 1) with
  | some j =>
    obtain ⟨⟨hj, henable⟩, -⟩ := nextTile_eq_some.mp hn
    rw [if_pos ⟨j, hj, henable⟩]
    rfl
  | none =>
    have hlast : ¬ ∃ j : Fin 16, k < j ∧ (s.tile j).enable = true := by
      rintro ⟨j, hj, henable⟩
      exact absurd henable (Bool.eq_false_iff.mp (nextTile_eq_none.mp hn j hj))
    rw [if_neg hlast]
    rfl

theorem exec_tileBuilt_kept {s : State} {kind : BuildKind} {k : Fin 16} {table : TileTable}
    (hk : s.tileInHand = some (kind, k)) (hr : s.tileResult kind k = .kept table) :
    exec .tileBuilt s = .next (s.keepTile kind s.builder.shadowBank k table) := by
  show execTileBuilt s = _
  simp only [execTileBuilt, hk, hr]

theorem exec_tileBuilt_failed {s : State} {kind : BuildKind} {k : Fin 16} {code : Nat}
    (hk : s.tileInHand = some (kind, k)) (hr : s.tileResult kind k = .failed code) :
    exec .tileBuilt s = .next (s.failBuild k code) := by
  show execTileBuilt s = _
  simp only [execTileBuilt, hk, hr]

/-- The builder that has discarded a failed build, and begun an ALARM build when the active bank was built with another
raised set than `R` (R51, R55). -/
def Builder.afterFailure (b : Builder) (R : Groups) : Builder :=
  let discarded : Builder := { b with state := .idle, shadow := none, failed := satInc b.failed }
  if R = b.activeSet then discarded else discarded.begun .alarm R

/-- A GROUP build that fails, with no look event kept: the group aborts beside the builder's own work. -/
theorem State.failBuild_eq {s : State} {others : List Held} {last : Held} (hheld : s.ring.held = others ++ [last])
    (hkept : s.ring.kept = []) (k : Fin 16) (code : Nat) :
    (s.failBuild k code).builder = s.builder.afterFailure (raisedSet s.alarms) ∧
      (s.withBuilder (s.failBuild k code).builder).abortedGroup (s.failBuild k code) others
        { last with result := resTooComplex, detail := BitVec.ofNat 32 (k.val + 256 * code) } false := by
  obtain ⟨d, hd⟩ : ∃ d : Builder,
      d = { s.builder with state := .idle, shadow := none, failed := satInc s.builder.failed } := ⟨_, rfl⟩
  obtain ⟨u, hu⟩ : ∃ u, u = (s.withBuilder d).abortGroup [] resTooComplex (k.val + 256 * code) false := ⟨_, rfl⟩
  have hactive : d.activeSet = s.builder.activeSet := by rw [hd]; rfl
  have habort := State.abortGroup_spec (s.withBuilder d) [] others last resTooComplex (k.val + 256 * code) false hkept
    (by rw [List.append_nil]; exact hheld)
  have hbuilder : u.builder = d := by rw [hu, habort]; rfl
  have halarms : u.alarms = s.alarms := by rw [hu, habort]; rfl
  unfold State.failBuild Builder.afterFailure
  dsimp only
  rw [← hd, ← hu, halarms, hbuilder, hactive]
  rw [habort] at hu
  split
  · rw [hu]
    exact ⟨rfl, rfl, rfl, rfl, rfl, rfl, rfl, rfl, rfl⟩
  · rw [hu]
    exact ⟨rfl, rfl, rfl, rfl, rfl, rfl, rfl, rfl, rfl⟩

/-- Settles O49: the tile in hand is the first enabled one from the build's number on. -/
theorem tileBuiltKeepsOrFails : Obligations.TileBuiltKeepsOrFails := by
  intro s kind n k shadow hb hshadow hn henable hfirst table result taken later
  have hk : s.tileInHand = some (kind, k) :=
    State.tileInHand_eq_some.mpr ⟨n, hb, nextTile_eq_some.mpr ⟨⟨hn, henable⟩, hfirst⟩⟩
  have hbank : s.builder.shadowBank = shadow := by rw [Builder.shadowBank, hshadow]; rfl
  have hresult : s.tileResult kind k = result := by
    unfold State.tileResult
    rw [hbank]
    cases kind <;> rfl
  refine ⟨?_, fun kept hkept => ?_, fun code others last hfailed hheld hnone => ?_⟩
  · rw [poolAllowance_eq, spansTaken_filter]
    rfl
  · rw [exec_tileBuilt_kept hk (hresult.trans hkept), hbank, State.keepTile_eq]
    rfl
  · obtain ⟨hbuilder, habort⟩ := State.failBuild_eq hheld hnone k code
    refine ⟨_, exec_tileBuilt_failed hk (hresult.trans hfailed), ?_, ?_, habort⟩
    · rw [hbuilder, Builder.afterFailure]
      split
      · exact ⟨rfl, rfl⟩
      · exact ⟨rfl, rfl⟩
    · rw [hbuilder, Builder.afterFailure]
      split
      · exact ⟨rfl, rfl, rfl⟩
      · exact ⟨rfl, rfl, rfl⟩

end Sys2Proof.Machine
end

section
/-! A wall frame start at which a finished bank swaps in, and the commit of its group (R34, R51, R53, R54, R59, R60, R62;
O35). -/

namespace Sys2Proof.Machine

open Sys2Proof

/-! ## Cause bits that stay (R186) -/

/-- Every cause bit that is set stays set. -/
def State.causesStay (s t : State) : Prop := ∀ i : Nat, s.link.cause.getLsbD i = true → t.link.cause.getLsbD i = true

theorem State.causesStay.of_link {s t : State} (h : t.link = s.link := by simp) : s.causesStay t := by
  rw [State.causesStay, h]
  exact fun _ => id

theorem State.causesStay.trans {s t u : State} (h : s.causesStay t) (g : t.causesStay u) : s.causesStay u :=
  fun i => g i ∘ h i

theorem State.causesStay.then {s t u : State} (h : s.causesStay t) (g : u.link = t.link := by simp) : s.causesStay u :=
  h.trans (.of_link g)

theorem State.raise_causesStay (s : State) (bits : BitVec 8) : s.causesStay (s.raise bits) := by
  intro i hi
  rw [State.raise_cause, BitVec.getLsbD_or, hi, Bool.true_or]

theorem State.raiseIf_causesStay (s : State) (b : Bool) (bits : BitVec 8) : s.causesStay (s.raiseIf b bits) := by
  unfold State.raiseIf
  split
  · exact s.raise_causesStay bits
  · exact .of_link rfl

/-- A cause bit that is set when something holds. -/
theorem State.raiseIf_sets {s : State} {b : Bool} {bits : BitVec 8} {i : Nat} (hb : b = true) (hi : bits.getLsbD i = true) :
    (s.raiseIf b bits).link.cause.getLsbD i = true := by
  rw [State.raiseIf, if_pos hb, State.raise_cause, BitVec.getLsbD_or, hi, Bool.or_true]

theorem State.sourceStart_causesStay (s : State) (f : SourceFrame) : s.causesStay (s.sourceStart f) := by
  unfold State.sourceStart
  dsimp only
  have hcommitted : s.causesStay ((s.commitSources f.items).statusResetInputs f.items) := .of_link
  have hreset := hcommitted.trans (State.raiseIf_causesStay _ (resetEvent s.inputs f.items) causeSourceEvent)
  generalize State.raiseIf _ (resetEvent s.inputs f.items) causeSourceEvent = t at hreset ⊢
  have hevent := (hreset.then t.frameSources_link).trans
    (State.raiseIf_causesStay _ t.frameSourcesEvent causeSourceEvent)
  exact hevent.then

theorem State.sourceRun_causesStay (frames : List SourceFrame) (s : State) :
    s.causesStay (State.sourceRun frames s) := by
  induction frames generalizing s with
  | nil => exact .of_link rfl
  | cons f rest ih =>
    have hrest : s.causesStay (s.withSources { s.sources with frames := rest }) := .of_link rfl
    have hstart := hrest.trans (State.sourceStart_causesStay _ f)
    unfold State.sourceRun
    dsimp only
    split
    · split
      · split
        · exact hstart.then
        · exact hstart.trans (ih _)
      · exact hstart
    · exact .of_link rfl

theorem State.sourceAdvance_causesStay (s : State) : s.causesStay s.sourceAdvance := by
  unfold State.sourceAdvance
  split
  · exact State.sourceRun_causesStay _ s
  · exact .of_link rfl

theorem State.handItems_causesStay (s : State) (items : List SourceItem) : s.causesStay (s.handItems items) := by
  have htaken (u : SourceUnit) : s.causesStay (s.statusTakeRing.withSources u) := .of_link
  exact (htaken _).trans (State.sourceAdvance_causesStay _)

theorem State.commitWith_causesStay (s : State) (n : Word) (found : List (Nat × Nat)) :
    s.causesStay (s.commitWith n found) := by
  have hissued (r : Ring) (ts : List Transfer) : s.causesStay ((s.withRing r).issue (.control ringProcessor) ts) := .of_link
  exact (hissued _ _).trans (State.handItems_causesStay _ _)

theorem State.alarmWork_causesStay (s : State) (alarms : Vector AlarmInput 8) (moved : Bool) :
    s.causesStay (s.alarmWork alarms moved) :=
  (s.raiseIf_causesStay moved causeAlarmEvent).then (State.makeMoves_link _ _)

theorem State.clearWork_causesStay (s : State) : s.causesStay s.clearWork.1 := by
  unfold State.clearWork
  dsimp only
  exact s.alarmWork_causesStay _ _

/-! ## The ring processor takes a wall frame start (R129, R131, R142, R152) -/

/-- What the ring processor's part of a wall frame start does to other blocks: the builder hears of a change of the raised set
that committed clears make, and cause bits stay. -/
def State.ringTook (s t : State) : Prop :=
  t.builder = s.builder.afterRaised (raisedSet s.alarms) (raisedSet t.alarms) ∧ s.causesStay t

theorem State.ringTook.of_same {s t : State} (hb : t.builder = s.builder) (ha : t.alarms = s.alarms) (hc : s.causesStay t) :
    s.ringTook t := by
  refine ⟨?_, hc⟩
  rw [ha, Builder.afterRaised_same, hb]

theorem State.commitGroup_alarms (s : State) (n : Word) : (s.commitGroup n).alarms = s.clearedAlarms := by
  rw [State.commitGroup, State.commitWith_alarms, State.clearWork_alarms]

theorem State.commitGroup_ringTook (s : State) (n : Word) : s.ringTook (s.commitGroup n) := by
  refine ⟨?_, s.clearWork_causesStay.trans (State.commitWith_causesStay _ _ _)⟩
  rw [State.commitGroup_alarms, State.commitGroup, State.commitWith_builder, State.clearWork_builder]

/-- A wall frame start that commits no group leaves the builder and the alarm inputs alone. -/
theorem State.ringFrame_quiet {s : State} (h : s.ring.look = .none → s.awaitsFrame = false) :
    s.ringFrame.builder = s.builder ∧ s.ringFrame.alarms = s.alarms ∧ s.causesStay s.ringFrame := by
  by_cases hl : s.ring.look = .none
  · have hlook : s.causesStay (s.lookIn (.frame s.frameNo)) := .of_link
    rw [State.ringFrame_looks hl (h hl)]
    exact ⟨by simp, by simp, hlook.trans (State.handItems_causesStay _ _)⟩
  · have hkept : s.ringFrame =
        (s.withRing { s.ring with kept := s.ring.kept ++ [.frame s.frameNo] }).alarmsWait (.frame s.frameNo) := by
      simp [State.ringFrame, State.lookEvent, hl]
    rw [hkept]
    exact ⟨by simp, by simp, .of_link⟩

theorem State.ringFrame_ringTook (s : State) : s.ringTook s.ringFrame := by
  by_cases h : s.ring.look = .none ∧ s.awaitsFrame = true
  · obtain ⟨hl, ha⟩ := h
    have hcommits : s.ringFrame = s.commitGroup s.frameNo := by
      simp [State.ringFrame, State.lookEvent, hl, State.takeLookEvent, State.ringTakesFrame, ha]
    rw [hcommits]
    exact s.commitGroup_ringTook _
  · obtain ⟨hb, ha, hc⟩ := State.ringFrame_quiet fun hl => Bool.eq_false_iff.mpr fun ha => h ⟨hl, ha⟩
    exact .of_same hb ha hc

/-! ## The commit of the group in hand (R151 to R154) -/

/-- A held slot as its group's commit returns it: a save's detail is the number of live windows, a clear's the state that
it found, and another's stays. -/
theorem committedSlot_eq (live : Table) (found : List (Nat × Nat)) (pos : Nat) (h : Held) :
    let h' := committedSlot live found pos h
    h' = { h with detail := h'.detail } ∧ (h.kind = 5 → h'.detail = BitVec.ofNat 32 live.stack.length) ∧
      (h.kind ≠ 5 → ∀ code, found.find? (fun f => f.1 == pos) = some (pos, code) → h'.detail = BitVec.ofNat 32 code) ∧
      (h.kind ≠ 5 → (∀ f ∈ found, f.1 ≠ pos) → h'.detail = h.detail) := by
  dsimp only
  unfold committedSlot
  by_cases hk : h.kind = 5
  · rw [if_pos hk]
    exact ⟨rfl, fun _ => rfl, fun hne => absurd hk hne, fun hne => absurd hk hne⟩
  rw [if_neg hk]
  refine ⟨?_, fun h5 => absurd h5 hk, fun _ code hcode => by rw [hcode], fun _ hnone => ?_⟩
  · split <;> rfl
  · have hmiss : found.find? (fun f => f.1 == pos) = none := by
      simpa only [List.find?_eq_none, beq_iff_eq] using hnone
    rw [hmiss]

/-- The writes of a write-back depend on the loaded configuration, the live table and the pending saves alone. -/
theorem State.writeBack_eq (s : State) (held : List Held) (n : Word) :
    s.writeBack held n =
      (s.ring.pendingSaves.flatMap fun k => sceneWrites (s.cfg.sceneBase + 4096 * k.val) s.live) ++
        s.returns held n := rfl

theorem State.returns_congr {s u : State} (h : u.cfg = s.cfg) (slots : List Held) (n : Word) :
    u.returns slots n = s.returns slots n := by
  rw [State.returns, State.returns, h]

/-- A commit of the group of `s`, in a state that holds its ring processor, its configuration and its alarm inputs with the
group's clears acted. -/
theorem State.commitWith_groupCommitted {s u : State} (hring : u.ring = s.ring) (hconfig : u.config = s.config)
    (halarms : u.alarms = s.clearedAlarms) (hqueue : u.port.control[ringProcessor] = s.port.control[ringProcessor])
    (hcause : (applyClears s.ring.pendingClears s.alarms).2.1 = true → u.link.cause.getLsbD 4 = true) (n : Word) :
    s.groupCommitted (u.commitWith n s.clearWork.2) n u.live := by
  have hcfg : u.cfg = s.cfg := State.cfg_of_config hconfig
  have hheld : (u.commitWith n s.clearWork.2).ring.held = s.ring.held.mapIdx (committedSlot u.live s.clearWork.2) := by
    rw [State.commitWith, State.handItems_ring, State.committedSlots, hring]
    rfl
  refine ⟨⟨?_, fun hmoved => State.commitWith_causesStay _ _ _ _ (hcause hmoved)⟩, ?_, ⟨?_, fun pos h hpos => ?_⟩, ?_⟩
  · rw [State.commitWith_alarms, halarms]
    unfold State.clearedAlarms
    rfl
  · rw [hheld]
    show (u.commitWith n s.clearWork.2).ring = _
    rw [State.commitWith, State.handItems_ring, State.committedSlots, hring]
    rfl
  · rw [hheld, List.length_mapIdx]
  · refine ⟨_, ?_, committedSlot_eq u.live s.clearWork.2 pos h⟩
    rw [hheld, List.getElem?_mapIdx, hpos]
    rfl
  · rw [hheld]
    refine (State.handItems_controlQueue _ _ (by decide) (by decide)).trans ?_
    refine (Port.issue_queue u.port (.control ringProcessor) _).trans ?_
    have hslots : u.committedSlots s.clearWork.2 = s.ring.held.mapIdx (committedSlot u.live s.clearWork.2) := by
      rw [State.committedSlots, hring]
    show u.port.control[ringProcessor] ++ u.writeBack (u.committedSlots s.clearWork.2) n = _
    rw [hqueue, hslots, State.writeBack_eq, State.returns_congr hcfg, hring, hcfg, ← List.append_assoc]
    rfl

/-! ## The swap (R34, R59, R60, R62) -/

@[simp] theorem State.frameBegun_ring (s : State) : s.frameBegun.ring = s.ring := rfl
@[simp] theorem State.frameBegun_alarms (s : State) : s.frameBegun.alarms = s.alarms := rfl
@[simp] theorem State.frameBegun_config (s : State) : s.frameBegun.config = s.config := rfl
@[simp] theorem State.frameBegun_live (s : State) : s.frameBegun.live = s.live := rfl
@[simp] theorem State.frameBegun_port (s : State) : s.frameBegun.port = s.port := rfl
@[simp] theorem State.frameBegun_link (s : State) : s.frameBegun.link = s.link := rfl

/-- The builder once a complete shadow has become the active bank and the build has been counted. -/
def Builder.swapped (b : Builder) : Builder := ⟨.idle, b.shadow, b.active, satInc b.built, b.failed⟩

/-- The table that is live once a bank of a kind has swapped in (R34). -/
def State.liveAfter (s : State) : BuildKind → Table
  | .group => s.ring.draft
  | .alarm => s.live

/-- Some tile of the bank is marked FALLBACK or DEGRADED. -/
theorem Bank.marked_iff (b : Bank) :
    b.marked = true ↔ ∃ (k : Fin 16) (table : TileTable), b.tiles[k] = some table ∧ table.mark ≠ .normal := by
  rw [Bank.marked, anyBank_eq_true]
  refine exists_congr fun k => ?_
  cases b.tiles[k] <;> simp

theorem State.swap_eq {s : State} {kind : BuildKind} (h : s.builder.state = .donePending kind) :
    s.swap =
      ((s.withBuilder s.builder.swapped).withLive (s.liveAfter kind)).raiseIf
        (match s.builder.shadow with | some b => b.marked | none => false) causeFallback := by
  unfold State.swap State.swapKind
  rw [h]
  cases kind <;> rfl

theorem State.completeLate_idle {s : State} (h : s.builder.state = .idle) : s.completeLate = s := by
  simp [State.completeLate, State.tileInHand, h]

/-- With a bank that swaps in, no build can complete right after. -/
theorem State.blocksTakeFrame_swap {s : State} {kind : BuildKind} (h : s.builder.state = .donePending kind)
    (lastTile : Bool) : s.blocksTakeFrame lastTile = s.swap.statusNewFrame.tilesNewFrame := by
  have hidle : s.swap.builder.state = .idle := by
    rw [State.swap_eq h]
    simp [Builder.swapped]
  simp [State.blocksTakeFrame, State.completeLate_idle hidle]

/-- What the blocks make of a wall frame start at which a bank swaps in. -/
theorem State.blocksTakeFrame_donePending {s : State} {kind : BuildKind} (h : s.builder.state = .donePending kind)
    (lastTile : Bool) :
    let t := s.blocksTakeFrame lastTile
    t.builder = s.builder.swapped ∧ t.live = s.liveAfter kind ∧
      ∀ bank, s.builder.shadow = some bank →
        (∃ (k : Fin 16) (table : TileTable), bank.tiles[k] = some table ∧ table.mark ≠ .normal) →
          t.link.cause.getLsbD 6 = true := by
  dsimp only
  rw [State.blocksTakeFrame_swap h, State.swap_eq h]
  refine ⟨by simp, by simp, fun bank hbank hmarked => ?_⟩
  rw [State.tilesNewFrame_link, State.statusNewFrame_link]
  refine State.raiseIf_sets ?_ rfl
  rw [hbank]
  exact bank.marked_iff.mpr hmarked

/-- The transfers of the ring processor stand as the blocks take a wall frame start. -/
theorem State.blocksTakeFrame_ringQueue (s : State) (lastTile : Bool) :
    (s.blocksTakeFrame lastTile).port.control[ringProcessor] = s.port.control[ringProcessor] := by
  have hport : (if lastTile then s.swap.completeLate else s.swap).port = s.port := by
    split <;> simp
  refine (State.setQueue_control_of_ne _ [] (by decide)).trans ?_
  rw [hport]

theorem State.swap_causesStay (s : State) : s.causesStay s.swap := by
  cases hb : s.builder.state with
  | donePending kind =>
    rw [State.swap_eq hb]
    refine State.causesStay.trans ?_ (State.raiseIf_causesStay _ _ _)
    exact .of_link rfl
  | idle =>
    rw [State.swap_none (State.swapKind_none (by simp [hb]))]
    exact .of_link rfl
  | building kind n =>
    rw [State.swap_none (State.swapKind_none (by simp [hb]))]
    exact .of_link rfl

theorem State.blocksTakeFrame_causesStay (s : State) (lastTile : Bool) : s.causesStay (s.blocksTakeFrame lastTile) := by
  refine s.swap_causesStay.then ?_
  unfold State.blocksTakeFrame
  split <;> simp

/-- The bank swaps in: the builder is as the swap leaves it once a change of the raised set that committed clears made has
reached it, and FALLBACK is set when a tile of the bank is marked. -/
def State.swapsIn (s t : State) : Prop :=
  t.builder = s.builder.swapped.afterRaised (raisedSet s.alarms) (raisedSet t.alarms) ∧
    ∀ bank, s.builder.shadow = some bank →
      (∃ (k : Fin 16) (table : TileTable), bank.tiles[k] = some table ∧ table.mark ≠ .normal) →
        t.link.cause.getLsbD 6 = true

/-- The blocks take the start in a state `c` that has the builder and the raised set of `s`, and the ring processor after
them. -/
theorem State.ringTook.swapsIn {s c v t : State} {kind : BuildKind} {lastTile : Bool} (h : v.ringTook t)
    (hv : v = c.blocksTakeFrame lastTile) (hb : s.builder.state = .donePending kind) (hc : c.builder = s.builder)
    (hr : raisedSet c.alarms = raisedSet s.alarms) : s.swapsIn t := by
  subst hv
  rw [← hc] at hb
  obtain ⟨hbuilder, hcauses⟩ := h
  obtain ⟨hswapped, -, hmarked⟩ := State.blocksTakeFrame_donePending hb lastTile
  rw [State.swapsIn, ← hc]
  refine ⟨?_, fun bank hbank hmark => hcauses 6 (hmarked bank hbank hmark)⟩
  rw [hbuilder, hswapped, State.blocksTakeFrame_alarms, hr]

/-! ## A GROUP bank swaps in, or an ALARM bank before the clears (R51, R59) -/

/-- What the clears of a group find depends on the group and the alarm inputs alone. -/
theorem State.clearWork_found {s t : State} (hr : t.ring = s.ring) (ha : t.alarms = s.alarms) :
    t.clearWork.2 = s.clearWork.2 ∧ t.clearedAlarms = s.clearedAlarms := by
  unfold State.clearWork State.clearedAlarms
  dsimp only
  rw [hr, ha]
  exact ⟨rfl, rfl⟩

/-- The clears of a group set ALARM_EVENT when one of them moves an input (R133). -/
theorem State.clearWork_sets {s : State} (h : (applyClears s.ring.pendingClears s.alarms).2.1 = true) :
    s.clearWork.1.link.cause.getLsbD 4 = true := by
  unfold State.clearWork State.alarmWork
  dsimp only
  rw [State.makeMoves_link]
  exact State.raiseIf_sets h rfl

theorem State.frameAlone_group {s : State} (hb : s.builder.state = .donePending .group) (setFirst lastTile : Bool) :
    s.frameAlone setFirst lastTile = (s.frameBegun.blocksTakeFrame lastTile).commitGroup (s.frameNo + 1) := by
  unfold State.frameAlone
  dsimp only
  rw [if_pos (s.groupCommits_eq.mpr hb)]
  rfl

/-- A GROUP bank swaps in: its draft becomes live and its group commits. -/
theorem State.frameAlone_group_commits {s : State} (hb : s.builder.state = .donePending .group) (setFirst lastTile : Bool) :
    let t := s.frameAlone setFirst lastTile
    t.live = s.ring.draft ∧ s.swapsIn t ∧ s.groupCommitted t (s.frameNo + 1) s.ring.draft := by
  obtain ⟨v, hv⟩ : ∃ v, v = s.frameBegun.blocksTakeFrame lastTile := ⟨_, rfl⟩
  have hlive : v.live = s.ring.draft := by
    rw [hv, (State.blocksTakeFrame_donePending (s := s.frameBegun) hb lastTile).2.1, State.liveAfter, State.frameBegun_ring]
  have hring : v.ring = s.ring := by simp [hv]
  have halarms : v.alarms = s.alarms := by simp [hv]
  obtain ⟨hfound, hcleared⟩ := State.clearWork_found hring halarms
  dsimp only
  rw [State.frameAlone_group hb, ← hv]
  refine ⟨(v.commitGroup_live _).trans hlive, (v.commitGroup_ringTook _).swapsIn hv hb s.frameBegun_builder rfl, ?_⟩
  rw [State.commitGroup, hfound, ← hlive, ← v.clearWork_live]
  refine State.commitWith_groupCommitted ?_ ?_ ?_ ?_ (fun hmoved => State.clearWork_sets ?_) _
  · rw [State.clearWork_ring, hring]
  · rw [State.clearWork_config, hv, State.blocksTakeFrame_config, State.frameBegun_config]
  · rw [State.clearWork_alarms, hcleared]
  · rw [State.clearWork_port, hv, State.blocksTakeFrame_ringQueue, State.frameBegun_port]
  · rw [hring, halarms]
    exact hmoved

theorem State.frameAlone_blocksFirst {s : State} (hg : s.groupCommits = false) {setFirst : Bool}
    (hf : ¬ (setFirst = true ∧ s.awaitsFrame = true)) (lastTile : Bool) :
    s.frameAlone setFirst lastTile = (s.frameBegun.blocksTakeFrame lastTile).ringFrame := by
  have hlater : ¬ (setFirst && s.awaitsFrame) = true := by rwa [Bool.and_eq_true]
  unfold State.frameAlone
  dsimp only
  rw [hg, if_neg Bool.false_ne_true, if_neg hlater]
  rfl

/-- An ALARM bank swaps in before the ring processor takes the start. -/
theorem State.frameAlone_alarm_swapsIn {s : State} (hb : s.builder.state = .donePending .alarm) {setFirst : Bool}
    (hf : ¬ (setFirst = true ∧ s.awaitsFrame = true)) (lastTile : Bool) :
    let t := s.frameAlone setFirst lastTile
    t.live = s.live ∧ s.swapsIn t ∧ (s.awaitsFrame = false → t.alarms = s.alarms) := by
  have hg : s.groupCommits = false := by simp [State.groupCommits, State.swapKind, hb]
  obtain ⟨v, hv⟩ : ∃ v, v = s.frameBegun.blocksTakeFrame lastTile := ⟨_, rfl⟩
  have hlive : v.live = s.live := by
    rw [hv, (State.blocksTakeFrame_donePending (s := s.frameBegun) hb lastTile).2.1, State.liveAfter, State.frameBegun_live]
  have hring : v.ring = s.ring := by simp [hv]
  have halarms : v.alarms = s.alarms := by simp [hv]
  dsimp only
  rw [State.frameAlone_blocksFirst hg hf, ← hv]
  refine ⟨v.ringFrame_live.trans hlive, v.ringFrame_ringTook.swapsIn hv hb s.frameBegun_builder rfl, fun ha => ?_⟩
  have hawaits : v.awaitsFrame = false := by rwa [State.awaitsFrame, hring]
  exact (State.ringFrame_quiet fun _ => hawaits).2.1.trans halarms

/-! ## The clears of a group without edits before the swap (R53, R59) -/

/-- The state in which the blocks take a wall frame start once the clears that commit there have acted. -/
def State.cleared (s : State) : State := s.clearWork.1.frameBegun

theorem State.cleared_live (s : State) : s.cleared.live = s.live := by
  rw [State.cleared, State.frameBegun_live, State.clearWork_live]

theorem State.cleared_alarms (s : State) : s.cleared.alarms = s.clearedAlarms := by
  rw [State.cleared, State.frameBegun_alarms, State.clearWork_alarms]

theorem State.cleared_builder (s : State) :
    s.cleared.builder = s.builder.afterRaised (raisedSet s.alarms) (raisedSet s.clearedAlarms) := by
  rw [State.cleared, State.frameBegun_builder, State.clearWork_builder]

/-- The group commits, its clears taken first. -/
theorem State.frameAlone_clearsFirst {s : State} (hg : s.groupCommits = false) (ha : s.awaitsFrame = true) {lastTile : Bool}
    (hlive : (s.cleared.blocksTakeFrame lastTile).live = s.live) :
    s.groupCommitted (s.frameAlone true lastTile) (s.frameNo + 1) s.live := by
  rw [State.frameAlone_commits hg ha, ← hlive]
  refine State.commitWith_groupCommitted ?_ ?_ ?_ ?_ (fun hmoved => ?_) _
  · rw [State.blocksTakeFrame_ring, State.frameBegun_ring, State.clearWork_ring]
  · rw [State.blocksTakeFrame_config, State.frameBegun_config, State.clearWork_config]
  · rw [State.blocksTakeFrame_alarms, State.frameBegun_alarms, State.clearWork_alarms]
  · rw [State.blocksTakeFrame_ringQueue, State.frameBegun_port, State.clearWork_port]
  · refine State.blocksTakeFrame_causesStay _ lastTile 4 ?_
    rw [State.frameBegun_link]
    exact State.clearWork_sets hmoved

/-- Clears that change the raised set restart the ALARM build: nothing swaps (R53). -/
theorem State.cleared_restarts {s : State} {kind : BuildKind} (hb : s.builder.state = .donePending kind)
    (hr : raisedSet s.clearedAlarms ≠ raisedSet s.alarms) (lastTile : Bool) :
    let v := s.cleared.blocksTakeFrame lastTile
    v.live = s.live ∧
      (v.builder.active = s.builder.active ∧ v.builder.built = s.builder.built ∧ v.builder.failed = s.builder.failed) ∧
      (lastTile = false → v.builder = s.builder.afterRaised (raisedSet s.alarms) (raisedSet s.clearedAlarms)) := by
  have hbuilder : s.cleared.builder = s.builder.restarted (raisedSet s.clearedAlarms) := by
    rw [State.cleared_builder, Builder.afterRaised, if_neg hr]
  have hlive := s.cleared_live
  generalize s.cleared = c at hbuilder hlive ⊢
  have hbuilding : c.builder.state = .building kind 0 := by
    rw [hbuilder]
    simp [Builder.restarted, hb]
  dsimp only
  rw [State.blocksTakeFrame_noSwap (State.swapKind_building hbuilding), State.lateBuild_eq]
  rw [State.tilesNewFrame_live, State.statusNewFrame_live, State.tilesNewFrame_builder, State.statusNewFrame_builder,
    State.withBuilder_builder, hbuilder]
  refine ⟨hlive, ⟨rfl, rfl, rfl⟩, ?_⟩
  rintro rfl
  rw [Builder.afterRaised, if_neg hr, State.lateBuild, if_neg Bool.false_ne_true, hbuilder]

/-- Clears that leave the raised set as it was let the ALARM bank swap in. -/
theorem State.cleared_swapsIn {s : State} (hb : s.builder.state = .donePending .alarm)
    (hr : raisedSet s.clearedAlarms = raisedSet s.alarms) (lastTile : Bool) (n : Word) (found : List (Nat × Nat)) :
    let v := s.cleared.blocksTakeFrame lastTile
    v.live = s.live ∧ s.swapsIn (v.commitWith n found) := by
  have hbuilder : s.cleared.builder = s.builder := by rw [State.cleared_builder, hr, Builder.afterRaised_same]
  have hpending : s.cleared.builder.state = .donePending .alarm := by rw [hbuilder, hb]
  have hraised : raisedSet s.cleared.alarms = raisedSet s.alarms := by rw [State.cleared_alarms, hr]
  obtain ⟨-, hlive, -⟩ := State.blocksTakeFrame_donePending hpending lastTile
  obtain ⟨v, hv⟩ : ∃ v, v = s.cleared.blocksTakeFrame lastTile := ⟨_, rfl⟩
  have htook : v.ringTook (v.commitWith n found) :=
    .of_same (v.commitWith_builder n found) (v.commitWith_alarms n found) (v.commitWith_causesStay n found)
  dsimp only
  rw [← hv] at hlive ⊢
  exact ⟨hlive.trans s.cleared_live, htook.swapsIn hv hb hbuilder hraised⟩

/-- Settles O35: a GROUP bank swaps in, or an ALARM bank before the ring processor's part, or the clears of a group without
edits are taken first. -/
theorem wallFrameStartSwapsTheBanks : Obligations.WallFrameStartSwapsTheBanks := by
  intro order s kind hi hr hb alone early built swapped
  have halone : alone ↔ s.awaitsFrame = true := s.awaitsFrame_eq.symm
  have hraised : raisedSet (applyClears s.ring.pendingClears s.alarms).1 = raisedSet s.clearedAlarms := by
    unfold State.clearedAlarms
    rfl
  refine ⟨_, exec_wallFrameStart_alone hi hr, State.frameAlone_frameNo _ _ _, ?_⟩
  obtain ⟨t, ht⟩ : ∃ t, t = s.frameAlone order.setFirst order.lastTile := ⟨_, rfl⟩
  have hrest : t.mem = s.mem ∧ t.config = s.config ∧ t.control = s.control ∧ t.pending = s.pending := by simp [ht]
  rw [← ht]
  cases kind with
  | group =>
    obtain ⟨hlive, hswaps, hcommitted⟩ := State.frameAlone_group_commits hb order.setFirst order.lastTile
    rw [← ht] at hlive hswaps hcommitted
    have hlate : ¬ early := fun h => nomatch h.1
    exact ⟨hlive, fun _ => hswaps, fun h => absurd h hlate, fun _ => hcommitted, nofun, nofun, hrest⟩
  | alarm =>
    by_cases hfirst : order.setFirst = true ∧ s.awaitsFrame = true
    · obtain ⟨hset, ha⟩ := hfirst
      have hg : s.groupCommits = false := by simp [State.groupCommits, State.swapKind, hb]
      have htv : t = (s.cleared.blocksTakeFrame order.lastTile).commitWith (s.frameNo + 1) s.clearWork.2 := by
        rw [ht, hset, State.frameAlone_commits hg ha, State.cleared]
      have hwaits : ¬ ¬ alone := fun hnone => hnone (halone.mpr ha)
      have hcommits (hlive : (s.cleared.blocksTakeFrame order.lastTile).live = s.live) :
          s.groupCommitted t (s.frameNo + 1) s.live := by
        rw [ht, hset]
        exact State.frameAlone_clearsFirst hg ha hlive
      by_cases hsame : raisedSet s.clearedAlarms = raisedSet s.alarms
      · obtain ⟨hlive, hswaps⟩ := State.cleared_swapsIn hb hsame order.lastTile (s.frameNo + 1) s.clearWork.2
        rw [← htv] at hswaps
        have hlate : ¬ early := fun ⟨_, _, _, hmoved⟩ => hmoved (hraised.trans hsame)
        exact ⟨by rw [htv, State.commitWith_live, hlive], fun _ => hswaps, fun h => absurd h hlate, nofun,
          fun _ _ _ => hcommits hlive, fun _ hnone => absurd hnone hwaits, hrest⟩
      · obtain ⟨hlive, ⟨hactive, hbuilt, hfailed⟩, hheard⟩ := State.cleared_restarts hb hsame order.lastTile
        have hearly : early := ⟨rfl, hset, halone.mpr ha, fun h => hsame (hraised.symm.trans h)⟩
        have halarms : t.alarms = s.clearedAlarms := by
          rw [htv, State.commitWith_alarms, State.blocksTakeFrame_alarms, State.cleared_alarms]
        rw [← State.commitWith_builder _ (s.frameNo + 1) s.clearWork.2, ← htv] at hactive hbuilt hfailed hheard
        exact ⟨by rw [htv, State.commitWith_live, hlive], fun h => absurd hearly h,
          fun _ => ⟨hactive, hbuilt, hfailed, fun hlast => halarms ▸ hheard hlast⟩, nofun, fun _ _ _ => hcommits hlive,
          fun _ hnone => absurd hnone hwaits, hrest⟩
    · obtain ⟨hlive, hswaps, hquiet⟩ := State.frameAlone_alarm_swapsIn hb hfirst order.lastTile
      rw [← ht] at hlive hswaps hquiet
      have hlate : ¬ early := fun ⟨_, hset, hwaits, _⟩ => hfirst ⟨hset, halone.mp hwaits⟩
      exact ⟨hlive, fun _ => hswaps, fun h => absurd h hlate, nofun,
        fun _ hwaits hset => absurd ⟨hset, halone.mp hwaits⟩ hfirst,
        fun _ hnone => hquiet (Bool.eq_false_iff.mpr fun ha => hnone (halone.mpr ha)), hrest⟩

end Sys2Proof.Machine
end

section
/-! Sampling and scaling (R67 to R71, R73 to R80): blending (O18), one axis of a scaler state (O19), a sample (O20). -/

namespace Sys2Proof.Machine

open Sys2Proof

/-! ## Blending (R78) -/

theorem blend_toNat (a b : Byte) {f : Nat} (hf : f < 256) :
    (blend a b f).toNat = (a.toNat * (256 - f) + b.toNat * f + 128) / 256 := by
  have ha : a.toNat * (256 - f) ≤ 255 * (256 - f) := Nat.mul_le_mul_right _ (by have := a.isLt; omega)
  have hb : b.toNat * f ≤ 255 * f := Nat.mul_le_mul_right _ (by have := b.isLt; omega)
  rw [blend, BitVec.toNat_ofNat, Nat.mod_eq_of_lt (by omega)]

/-- A blend lies between bounds of the first component, and of the second where the second has any weight. -/
theorem blend_within {lo hi a b : Byte} {f : Nat} (hf : f < 256) (ha : lo ≤ a ∧ a ≤ hi)
    (hb : f ≠ 0 → lo ≤ b ∧ b ≤ hi) : lo ≤ blend a b f ∧ blend a b f ≤ hi := by
  simp only [BitVec.le_def] at ha hb ⊢
  have hweighted : lo.toNat * f ≤ b.toNat * f ∧ b.toNat * f ≤ hi.toNat * f := by
    rcases Nat.eq_zero_or_pos f with rfl | hpos
    · simp
    · obtain ⟨hlo, hhi⟩ := hb hpos.ne'
      exact ⟨Nat.mul_le_mul_right _ hlo, Nat.mul_le_mul_right _ hhi⟩
  have hfirst : lo.toNat * (256 - f) ≤ a.toNat * (256 - f) ∧ a.toNat * (256 - f) ≤ hi.toNat * (256 - f) :=
    ⟨Nat.mul_le_mul_right _ ha.1, Nat.mul_le_mul_right _ ha.2⟩
  have hwhole (x : Nat) : x * (256 - f) + x * f = x * 256 := by
    rw [← Nat.mul_add, Nat.sub_add_cancel hf.le]
  have hlo := hwhole lo.toNat
  have hhi := hwhole hi.toNat
  rw [blend_toNat a b hf]
  omega

theorem blendColour_zero (a b : Colour) : blendColour a b 0 = a := by
  have hblend (x y : Byte) : blend x y 0 = x :=
    BitVec.eq_of_toNat_eq (by rw [blend_toNat _ _ (by decide)]; omega)
  simp only [blendColour, hblend]

theorem blendColour_component {component : Colour → Byte}
    (hc : component = Colour.r ∨ component = Colour.g ∨ component = Colour.b) (a b : Colour) (f : Nat) :
    component (blendColour a b f) = blend (component a) (component b) f := by
  rcases hc with rfl | rfl | rfl <;> rfl

/-! ## The index and the fraction of a position (R74 to R76) -/

theorem Axis.position_eq (a : Axis) (i : Nat) : a.position i = a.start + (i : Int) * (a.step : Int) := by
  simp [Axis.position]

/-- A position is held at an end of the crop with fraction 0, or has an index in the crop, and then a fraction other than
0 comes from a BILINEAR axis and leaves a next pixel in the crop. -/
theorem Axis.locate_cases (a : Axis) (i : Nat) :
    a.locate i = (a.first, 0) ∨ a.locate i = (a.stop - 1, 0) ∨
      ∃ k f, a.locate i = (k, f) ∧ (a.first ≤ k ∧ k ≤ a.stop - 1) ∧ f < 256 ∧
        (f ≠ 0 → a.bilinear = true ∧ k < a.stop - 1) := by
  unfold Axis.locate
  dsimp only
  generalize a.position i = p
  by_cases hb : a.bilinear = true
  · rw [if_pos hb]
    by_cases hbefore : p < (a.first * 65536 : Nat)
    · exact .inl (if_pos hbefore)
    · rw [if_neg hbefore]
      by_cases hend : a.stop - 1 ≤ p.toNat / 65536
      · exact .inr (.inl (if_pos hend))
      · refine .inr (.inr ⟨_, _, if_neg hend, ⟨?_, ?_⟩, ?_, fun _ => ⟨hb, ?_⟩⟩) <;> omega
  · rw [if_neg hb]
    by_cases hbefore : (p + 32768) / 65536 < a.first
    · exact .inl (if_pos hbefore)
    · rw [if_neg hbefore]
      by_cases hend : a.stop - 1 < ((p + 32768) / 65536).toNat
      · exact .inr (.inl (if_pos hend))
      · refine .inr (.inr ⟨_, 0, if_neg hend, ⟨?_, ?_⟩, by decide, fun h => absurd rfl h⟩) <;> omega

theorem Axis.fraction_lt (a : Axis) (i : Nat) : (a.locate i).2 < 256 := by
  rcases a.locate_cases i with h | h | ⟨k, f, h, -, hf, -⟩ <;> rw [h]
  · exact Nat.zero_lt_succ _
  · exact Nat.zero_lt_succ _
  · exact hf

/-- A pixel is blended on a BILINEAR axis alone, and not at the crop's last index. -/
theorem Axis.blends {a : Axis} {i : Nat} (hf : (a.locate i).2 ≠ 0) :
    a.bilinear = true ∧ (a.locate i).1 < a.stop - 1 := by
  rcases a.locate_cases i with h | h | ⟨k, f, h, -, -, hblend⟩ <;> rw [h] at hf ⊢
  · exact absurd rfl hf
  · exact absurd rfl hf
  · exact hblend hf

theorem Axis.index_within {a : Axis} (ha : a.first < a.stop) (i : Nat) :
    a.first ≤ (a.locate i).1 ∧ (a.locate i).1 < a.stop := by
  rcases a.locate_cases i with h | h | ⟨k, f, h, ⟨hlo, hhi⟩, -⟩ <;> rw [h] <;> dsimp only <;> omega

theorem Axis.unblended_iff (a : Axis) (i : Nat) : a.bilinear = false ∨ (a.locate i).2 = 0 ↔ (a.locate i).2 = 0 := by
  refine ⟨fun h => ?_, .inr⟩
  by_contra hf
  exact h.elim (fun hb => by simp [(Axis.blends hf).1] at hb) hf

theorem Axis.mem_needed {a : Axis} {i m : Nat} :
    m ∈ a.needed i ↔ m = (a.locate i).1 ∨ ((a.locate i).2 ≠ 0 ∧ m = a.neighbour (a.locate i).1) := by
  unfold Axis.needed
  dsimp only
  split <;> simp [*]

theorem Axis.index_needed (a : Axis) (i : Nat) : (a.locate i).1 ∈ a.needed i := Axis.mem_needed.mpr (.inl rfl)

theorem Axis.neighbour_needed {a : Axis} {i : Nat} (hf : (a.locate i).2 ≠ 0) :
    a.neighbour (a.locate i).1 ∈ a.needed i := Axis.mem_needed.mpr (.inr ⟨hf, rfl⟩)

/-- Every pixel that a position needs lies in the crop (R77). -/
theorem Axis.needed_within {a : Axis} (ha : a.first < a.stop) {i m : Nat} (hm : m ∈ a.needed i) :
    a.first ≤ m ∧ m < a.stop := by
  have hindex := Axis.index_within ha i
  rcases Axis.mem_needed.mp hm with rfl | ⟨hf, rfl⟩
  · exact hindex
  · have hnext := (Axis.blends hf).2
    unfold Axis.neighbour
    omega

theorem Axis.neighbour_of_blends {a : Axis} {i : Nat} (hf : (a.locate i).2 ≠ 0) :
    a.neighbour (a.locate i).1 = (a.locate i).1 + 1 :=
  Nat.min_eq_left (Nat.le_sub_of_add_le (Nat.add_lt_of_lt_sub (Axis.blends hf).2))

section
variable {a : Axis} {i : Nat}

theorem Axis.locate_before (hb : a.bilinear = true) (hp : a.position i < (a.first : Int) * 65536) :
    a.locate i = (a.first, 0) := by
  unfold Axis.locate
  dsimp only
  rw [if_pos hb, if_pos (by omega)]

theorem Axis.locate_inside (hb : a.bilinear = true) (hp : (a.first : Int) * 65536 ≤ a.position i)
    (hk : a.position i / 65536 < ((a.stop - 1 : Nat) : Int)) :
    a.locate i =
      ((a.position i / 65536).toNat, ((a.position i - a.position i / 65536 * 65536) / 256).toNat) := by
  unfold Axis.locate
  dsimp only
  generalize a.position i = p at hp hk ⊢
  rw [if_pos hb, if_neg (by omega), if_neg (by omega)]
  exact Prod.ext (by dsimp only; omega) (by dsimp only; omega)

theorem Axis.locate_end (hb : a.bilinear = true) (hp : (a.first : Int) * 65536 ≤ a.position i)
    (hk : ((a.stop - 1 : Nat) : Int) ≤ a.position i / 65536) : a.locate i = (a.stop - 1, 0) := by
  unfold Axis.locate
  dsimp only
  rw [if_pos hb, if_neg (by omega), if_pos (by omega)]

theorem Axis.locate_nearest (hb : a.bilinear = false) :
    let nearest := (a.position i + 32768) / 65536
    a.locate i =
      (if nearest < (a.first : Int) then a.first
        else if ((a.stop - 1 : Nat) : Int) < nearest then a.stop - 1 else nearest.toNat, 0) := by
  unfold Axis.locate
  dsimp only
  generalize (a.position i + 32768) / 65536 = k
  rw [if_neg (by simp [hb])]
  by_cases hbefore : k < (a.first : Int)
  · rw [if_pos hbefore, if_pos hbefore]
  · rw [if_neg hbefore, if_neg hbefore]
    by_cases hend : ((a.stop - 1 : Nat) : Int) < k
    · rw [if_pos (by omega), if_pos hend]
    · rw [if_neg (by omega), if_neg hend]

end

/-! ## One axis of a scaler state (R67 to R70) -/

theorem cropSize_within {first frame : Nat} (size : Nat) (h : first < frame) :
    1 ≤ cropSize first size frame ∧ first + cropSize first size frame ≤ frame := by
  unfold cropSize
  split <;> omega

@[simp] theorem axisOf_stop (first size frame interior : Nat) :
    (axisOf first size frame interior).stop = first + cropSize first size frame := rfl

theorem axisOf_start (first size frame interior : Nat) :
    (axisOf first size frame interior).start =
      (first : Int) * 65536 + ((axisOf first size frame interior).step / 2 : Nat) - 32768 := by
  simp [axisOf]

theorem axisOf_bilinear (first size frame interior : Nat) :
    (axisOf first size frame interior).bilinear = true ↔ (axisOf first size frame interior).step ≤ 262144 :=
  decide_eq_true_iff

theorem axisStep_eq (crop interior : Nat) :
    axisStep crop interior =
      if crop * 65536 / interior ≤ 1048576 then crop * 65536 / interior else 1048576 := Nat.min_def

/-- The widest interior stretches one source pixel over 16383 columns. -/
theorem axisStep_ge {crop interior : Nat} (hc : 1 ≤ crop) (hlo : 1 ≤ interior) (hhi : interior ≤ 16383) :
    4 ≤ axisStep crop interior := by
  have hquotient : 4 ≤ crop * 65536 / interior := by
    rw [Nat.le_div_iff_mul_le hlo]
    omega
  exact Nat.le_min.mpr ⟨hquotient, by decide⟩

theorem axisStep_le (crop interior : Nat) : axisStep crop interior ≤ 1048576 := Nat.min_le_right _ _

/-- Settles O19: the axis is that of the crop, and each position falls before, in or at the end of it. -/
theorem axisFollowsCropAndInterior : Obligations.AxisFollowsCropAndInterior := by
  intro first size frame interior hfirst a crop
  obtain ⟨hcrop, hframe⟩ : 1 ≤ crop ∧ first + crop ≤ frame := cropSize_within size hfirst
  have hbounds : a.first = first ∧ a.stop = first + crop := ⟨rfl, rfl⟩
  have hstep : a.step = if crop * 65536 / interior ≤ 1048576 then crop * 65536 / interior else 1048576 :=
    axisStep_eq ..
  have hstart : a.start = (first : Int) * 65536 + (a.step / 2 : Nat) - 32768 := axisOf_start ..
  have hbilinear : a.bilinear = true ↔ a.step ≤ 262144 := axisOf_bilinear ..
  have hle : a.step ≤ 1048576 := axisStep_le ..
  have hge : 1 ≤ interior → interior ≤ 16383 → 4 ≤ a.step := axisStep_ge hcrop
  clear_value a crop
  obtain ⟨rfl, hstop⟩ := hbounds
  refine ⟨fun hwide hlo hhi => ?_, hframe, fun i => ?_⟩
  · have hmin := hge hlo hhi
    refine ⟨⟨rfl, hstop, hcrop, by omega⟩, ⟨hstep, hmin⟩, hbilinear, ⟨hstart, ?_, ?_⟩, ?_, ?_⟩ <;> omega
  · dsimp only
    rw [← a.position_eq i, ← hstop]
    have hwithin := Axis.index_within (a := a) (by omega) i
    refine ⟨fun hwide => ?_, fun hwide => ?_, fun m => Nat.min_def, ⟨hwithin.1, hwithin.2, a.fraction_lt i⟩, fun m hm => ?_⟩
    · have hb := hbilinear.mpr hwide
      exact ⟨Axis.locate_before hb, Axis.locate_inside hb, Axis.locate_end hb⟩
    · exact Axis.locate_nearest (Bool.eq_false_iff.mpr fun hb => absurd (hbilinear.mp hb) hwide.not_ge)
    · exact Axis.needed_within (by omega) hm

/-! ## A sample (R79) -/

theorem rowResult_eq_blend (p : Nat → Nat → Colour) (h : Axis) (i m : Nat) :
    rowResult p h i m =
      blendColour (p (h.locate i).1 m) (p (h.neighbour (h.locate i).1) m) (h.locate i).2 := by
  unfold rowResult
  dsimp only
  split
  · rw [‹(h.locate i).2 = 0›, blendColour_zero]
  · rfl

theorem sample_eq_blend (p : Nat → Nat → Colour) (h v : Axis) (i j : Nat) :
    sample p h v i j =
      blendColour (rowResult p h i (v.locate j).1) (rowResult p h i (v.neighbour (v.locate j).1)) (v.locate j).2 := by
  unfold sample
  dsimp only
  split
  · rw [‹(v.locate j).2 = 0›, blendColour_zero]
  · rfl

/-- Settles O18: a fraction other than 0 leaves the next pixel in the crop, and one of 0 gives it no weight. -/
theorem blendRoundsToNearest : Obligations.BlendRoundsToNearest := by
  refine ⟨fun a b f hf => ⟨fun h => h ▸ blendColour_zero a b, fun component hc => ?_⟩,
    fun p h i m => ⟨h.fraction_lt i, ?_⟩⟩
  · dsimp only
    rw [blendColour_component hc, blend_toNat _ _ hf]
    omega
  · rw [rowResult_eq_blend]
    by_cases hf : (h.locate i).2 = 0
    · rw [hf, blendColour_zero, blendColour_zero]
    · rw [Axis.neighbour_of_blends hf]

/-- A sample of which neither axis blends is the pixel at its indices. -/
theorem sample_of_unblended {h v : Axis} {i j k m : Nat} (hh : h.locate i = (k, 0)) (hv : v.locate j = (m, 0))
    (p : Nat → Nat → Colour) : sample p h v i j = p k m := by
  simp only [sample_eq_blend, rowResult_eq_blend, hh, hv, blendColour_zero]

section
variable {component : Colour → Byte} (hc : component = Colour.r ∨ component = Colour.g ∨ component = Colour.b)
include hc

theorem rowResult_within {p : Nat → Nat → Colour} {h : Axis} {i m : Nat} {lo hi : Byte}
    (hp : ∀ k ∈ h.needed i, lo ≤ component (p k m) ∧ component (p k m) ≤ hi) :
    lo ≤ component (rowResult p h i m) ∧ component (rowResult p h i m) ≤ hi := by
  rw [rowResult_eq_blend, blendColour_component hc]
  exact blend_within (h.fraction_lt i) (hp _ (h.index_needed i)) fun hf => hp _ (Axis.neighbour_needed hf)

theorem sample_within {p : Nat → Nat → Colour} {h v : Axis} {i j : Nat} {lo hi : Byte}
    (hp : ∀ k ∈ h.needed i, ∀ m ∈ v.needed j, lo ≤ component (p k m) ∧ component (p k m) ≤ hi) :
    lo ≤ component (sample p h v i j) ∧ component (sample p h v i j) ≤ hi := by
  have hrow (m : Nat) (hm : m ∈ v.needed j) := rowResult_within hc fun k hk => hp k hk m hm
  rw [sample_eq_blend, blendColour_component hc]
  exact blend_within (v.fraction_lt j) (hrow _ (v.index_needed j)) fun hf => hrow _ (Axis.neighbour_needed hf)

theorem rowResult_component (p : Nat → Nat → Colour) (h : Axis) (i m : Nat) :
    component (rowResult p h i m) =
      if (h.locate i).2 = 0 then component (p (h.locate i).1 m)
      else blend (component (p (h.locate i).1 m)) (component (p (h.neighbour (h.locate i).1) m)) (h.locate i).2 := by
  unfold rowResult
  dsimp only
  split
  · rfl
  · rw [blendColour_component hc]

theorem sample_component (p : Nat → Nat → Colour) (h v : Axis) (i j : Nat) :
    component (sample p h v i j) =
      if (v.locate j).2 = 0 then component (rowResult p h i (v.locate j).1)
      else blend (component (rowResult p h i (v.locate j).1))
        (component (rowResult p h i (v.neighbour (v.locate j).1))) (v.locate j).2 := by
  unfold sample
  dsimp only
  split
  · rfl
  · rw [blendColour_component hc]

end

/-- At a step of 65 536 the crop is at least as wide as the interior, and each position is a whole pixel of it. -/
theorem axisOf_locate_whole {first size frame interior i : Nat} (hi : i < interior)
    (hstep : (axisOf first size frame interior).step = 65536) :
    (axisOf first size frame interior).locate i = (first + i, 0) := by
  obtain ⟨a, ha⟩ : ∃ a, a = axisOf first size frame interior := ⟨_, rfl⟩
  have hstart : a.start = (first : Int) * 65536 + (a.step / 2 : Nat) - 32768 := ha ▸ axisOf_start ..
  have hb : a.bilinear = true := by
    rw [ha, axisOf_bilinear, hstep]
    decide
  have hbounds : a.first = first ∧ first + interior ≤ a.stop := by
    refine ⟨by rw [ha]; rfl, ?_⟩
    have hquotient : 65536 ≤ cropSize first size frame * 65536 / interior :=
      hstep.symm.le.trans (Nat.min_le_left _ _)
    rw [Nat.le_div_iff_mul_le (by omega)] at hquotient
    rw [ha, axisOf_stop]
    omega
  rw [← ha] at hstep ⊢
  obtain ⟨hf, hstop⟩ := hbounds
  have hpos : a.position i = ((first + i : Nat) : Int) * 65536 := by
    rw [a.position_eq, hstart, hstep]
    push_cast
    ring
  rcases lt_or_ge (a.position i / 65536) ((a.stop - 1 : Nat) : Int) with hk | hk
  · rw [Axis.locate_inside hb (by omega) hk, hpos]
    exact Prod.ext (by dsimp only; omega) (by dsimp only; omega)
  · rw [Axis.locate_end hb (by omega) hk]
    exact Prod.ext (by dsimp only; omega) rfl

/-- Settles O20: both stages are blends, a pixel without weight is not needed, and a step of 65 536 gives every fraction
0. -/
theorem sampleUsesOnlyNeededPixels : Obligations.SampleUsesOnlyNeededPixels := by
  refine ⟨fun h v i j p => ⟨fun q hq => sample_congr hq, fun component hc lo hi hp => sample_within hc hp⟩,
    fun h v i j p component hc => ?_, fun sx sw wf wi sy sh hf hi i j p _ _ hwi hhi hx hy => ?_⟩
  · simp only [Axis.unblended_iff]
    rw [sample_component hc, rowResult_component hc, rowResult_component hc]
    rfl
  · exact sample_of_unblended (axisOf_locate_whole hwi hx) (axisOf_locate_whole hhi hy) p

end Sys2Proof.Machine
end

section
/-! The view of a wall frame: formed once the source unit has done its work, and not before (R8, R63 to R66, R72, R191;
O58). -/

namespace Sys2Proof.Machine

open Sys2Proof

/-! ## The scaler states of a view (R63 to R66) -/

theorem Source.slotWith_of_holdsAt {c : Source} {r : Role} {k : Fin 3} (h : c.holdsAt r k) : c.slotWith r = some k := by
  obtain ⟨hk, hbefore⟩ := h
  rw [Source.slotWith, List.find?_eq_some_iff_getElem]
  refine ⟨decide_eq_true hk, k.val, by simp, by simp, fun j hj => ?_⟩
  have hne := hbefore ⟨j, by omega⟩ hj
  simpa using hne

theorem Source.shownBase_of_holdsAt {c : Source} {k : Fin 3} (h : c.holdsAt .shown k) : c.shownBase = c.desc.base k := by
  rw [Source.shownBase, Source.slotWith_of_holdsAt h]

theorem State.presentations_get (s : State) (src : Fin 32) : s.presentations[src] = (s.channel src).presentation :=
  mapBank_get _ _ src

theorem State.sourcePresentation_eq (s : State) (src : Fin 32) :
    sourcePresentation s.presentations src.val = (s.channel src).presentation := by
  rw [sourcePresentation, dif_pos src.isLt]
  exact s.presentations_get src

/-- The windows that R63 gives a scaler state. -/
def State.scales (s : State) (w : WindowRec) (src : Fin 32) : Prop :=
  w.source = src.val ∧ w.drawn s.builder.activeSet = true ∧ 1 ≤ w.interiorW ∧ 1 ≤ w.interiorH ∧
    (s.channel src).presentation ≠ .none

/-- The scaler state of a window whose source is `src`. -/
def State.scalerFor (s : State) (id : Fin 64) (w : WindowRec) (src : Fin 32) : Scaler :=
  scalerOf id w (s.channel src).shownBase (s.channel src).shownW (s.channel src).shownH

theorem State.formScaler_eq_some {s : State} {id : Fin 64} {w : WindowRec} {sc : Scaler} :
    s.formScaler s.presentations id w = some sc ↔ ∃ src : Fin 32, s.scales w src ∧ sc = s.scalerFor id w src := by
  unfold State.formScaler State.scales
  constructor
  · intro h
    split at h
    · rename_i hsrc
      split at h
      · obtain ⟨hdrawn, hw, hh, hshows⟩ := ‹_ ∧ _›
        rw [s.sourcePresentation_eq ⟨w.source, hsrc⟩] at hshows
        exact ⟨⟨w.source, hsrc⟩, ⟨rfl, hdrawn, hw, hh, hshows⟩, (Option.some.inj h).symm⟩
      · cases h
    · cases h
  · rintro ⟨src, ⟨hsrc, hdrawn, hw, hh, hshows⟩, rfl⟩
    rw [← s.sourcePresentation_eq src, ← hsrc] at hshows
    have hlt : w.source < 32 := hsrc ▸ src.isLt
    rw [dif_pos hlt, if_pos ⟨hdrawn, hw, hh, hshows⟩]
    have hsame : (⟨w.source, hlt⟩ : Fin 32) = src := Fin.ext hsrc
    rw [hsame]
    rfl

/-- The scaler state that R63 forms for a window number, when it forms one. -/
def State.scalerAt (s : State) (id : Fin 64) : Option Scaler :=
  match s.live.records[id] with
  | some w => s.formScaler s.presentations id w
  | none => none

theorem State.formView_scalers (s : State) : s.formView.scalers = (List.finRange 64).filterMap s.scalerAt := rfl

theorem State.scalerAt_eq_some {s : State} {id : Fin 64} {sc : Scaler} :
    s.scalerAt id = some sc ↔
      ∃ (w : WindowRec) (src : Fin 32), s.live.records[id] = some w ∧ s.scales w src ∧ sc = s.scalerFor id w src := by
  unfold State.scalerAt
  cases s.live.records[id] with
  | none => simp
  | some w => simp [State.formScaler_eq_some]

theorem State.scalerAt_window {s : State} {id : Fin 64} {sc : Scaler} (h : s.scalerAt id = some sc) : sc.window = id := by
  obtain ⟨w, src, -, -, rfl⟩ := State.scalerAt_eq_some.mp h
  rfl

/-- A view with the presentations and the scaler states of the state that holds it is the one of R63. -/
theorem State.viewFormed_of_formView {t : State} (h : t.view = some t.formView) : t.viewFormed := by
  refine ⟨t.formView, h, t.presentations_get, ?_, fun sc hsc => ?_, fun id w src hw hsrc hdrawn hiw hih hshows => ?_⟩
  · rw [t.formView_scalers, List.pairwise_map, List.pairwise_filterMap]
    refine (List.pairwise_lt_finRange 64).imp fun hlt b hb c hc => ?_
    rwa [State.scalerAt_window hb, State.scalerAt_window hc]
  · rw [t.formView_scalers] at hsc
    obtain ⟨id, -, hid⟩ := List.mem_filterMap.mp hsc
    obtain ⟨w, src, hw, ⟨hsrc, hdrawn, hiw, hih, hshows⟩, rfl⟩ := State.scalerAt_eq_some.mp hid
    exact ⟨w, src, hw, hsrc, hdrawn, hiw, hih, hshows, hsrc, rfl, rfl, fun k hk => Source.shownBase_of_holdsAt hk, rfl⟩
  · have hid := State.scalerAt_eq_some.mpr ⟨w, src, hw, ⟨hsrc, hdrawn, hiw, hih, hshows⟩, rfl⟩
    exact ⟨t.scalerFor id w src, List.mem_filterMap.mpr ⟨id, List.mem_finRange id, hid⟩, rfl⟩

/-! ## The view taken, and the page issued (R63, R191) -/

theorem State.formView_congr {s t : State} (hs : t.sources = s.sources) (hl : t.live = s.live) (hb : t.builder = s.builder) :
    t.formView = s.formView := by
  unfold State.formView State.formScaler State.presentations State.channel
  rw [hs, hl, hb]

/-- The fetches of a row depend on the tables and the configuration alone. -/
theorem rowFetches_congr {s t : State} (hl : t.live = s.live) (hb : t.builder = s.builder) (hc : t.config = s.config)
    (v : FrameView) (k : Fin 16) (row : Nat) : rowFetches t v k row = rowFetches s v k row := by
  unfold rowFetches spanFetches State.activeBands
  rw [hl, hb, State.tile_congr hc]

theorem State.frameReady_view (s : State) : s.frameReady.view = some s.formView := by
  rw [State.frameReady, State.statusWrite_view]
  rfl

theorem State.frameReady_tileQueue (s : State) (k : Fin 16) :
    s.frameReady.port.queue (.tile k) =
      match (s.engines[k]).composing with
      | some c => if c.begun then s.port.queue (.tile k) else rowFetches s s.formView k c.row
      | none => s.port.queue (.tile k) := by
  show s.tilesTakeView.port.tile[k] = _
  rw [State.tilesTakeView, State.withEngines_port, State.withPort_port, mapBank_get]
  rfl

/-- The tile engines have taken the view and the status writer has issued the page. -/
theorem State.frameReady_frameIsReady (s : State) : s.frameReady.frameIsReady s.engines := by
  have hsame : s.frameReady.formView = s.formView :=
    State.formView_congr s.frameReady_sources s.frameReady_live s.frameReady_builder
  refine ⟨State.viewFormed_of_formView (by rw [s.frameReady_view, hsame]), fun k c v hc hbegun hv => ⟨?_, ?_⟩, ?_⟩
  · rw [State.frameReady_engines, mapBank_get, TileEngine.beginFetches, hc]
  · obtain rfl : s.formView = v := Option.some.inj (s.frameReady_view.symm.trans hv)
    rw [State.frameReady_tileQueue, hc,
      rowFetches_congr s.frameReady_live s.frameReady_builder s.frameReady_config]
    exact if_neg (by simp [hbegun])
  · rw [State.frameReady_status, State.cfg_of_config s.frameReady_config]
    exact s.frameReady_page

/-! ## The source unit's work and what waits for it (R72, R92) -/

/-- The view, the tile engines, and the transfers of the engines and of the page are as they were. -/
def State.outputsWait (s t : State) : Prop :=
  t.view = s.view ∧ t.engines = s.engines ∧ t.port.control[statusWriter] = s.port.control[statusWriter] ∧
    t.port.tile = s.port.tile

theorem State.outputsWait.trans {s t u : State} (h : s.outputsWait t) (g : t.outputsWait u) : s.outputsWait u := by
  obtain ⟨hv, he, hq, ht⟩ := h
  obtain ⟨gv, ge, gq, gt⟩ := g
  exact ⟨gv.trans hv, ge.trans he, gq.trans hq, gt.trans ht⟩

theorem State.outputsWait.samePort {s t : State} (hv : t.view = s.view := by simp) (he : t.engines = s.engines := by simp)
    (hp : t.port = s.port := by simp) : s.outputsWait t := by
  refine ⟨hv, he, ?_, ?_⟩ <;> rw [hp]

/-- The source unit has no header left to judge and no later wall frame start to begin. -/
def State.sourcesDone (t : State) : Prop := t.sources.toJudge = [] ∧ t.sources.frames = []

/-- From `s` to `t` the frame is made ready, once, if the source unit is done in `t`; else the outputs still wait. -/
def State.viewFollows (s t : State) : Prop :=
  (t.sourcesDone → ∃ u, s.outputsWait u ∧ t = u.frameReady) ∧ (¬ t.sourcesDone → s.outputsWait t)

theorem State.outputsWait.thenFollows {s t u : State} (h : s.outputsWait t) (g : t.viewFollows u) : s.viewFollows u := by
  obtain ⟨hdone, hwait⟩ := g
  refine ⟨fun hd => ?_, fun hd => h.trans (hwait hd)⟩
  obtain ⟨v, hv, rfl⟩ := hdone hd
  exact ⟨v, h.trans hv, rfl⟩

theorem State.outputsWait.notDone {s t : State} (h : s.outputsWait t) (hd : ¬ t.sourcesDone) : s.viewFollows t :=
  ⟨fun hdone => absurd hdone hd, fun _ => h⟩

theorem State.outputsWait.frameReady {s t : State} (h : s.outputsWait t) (hd : t.sourcesDone) :
    s.viewFollows t.frameReady :=
  ⟨fun _ => ⟨t, h, rfl⟩, fun hnot => absurd (by rwa [State.sourcesDone, State.frameReady_sources]) hnot⟩

theorem State.viewFollows.frameIsReady {s t : State} (h : s.viewFollows t) (hd : t.sourcesDone) :
    t.frameIsReady s.engines := by
  obtain ⟨u, ⟨-, he, -⟩, rfl⟩ := h.1 hd
  rw [← he]
  exact u.frameReady_frameIsReady

theorem State.sourceStart_tile (s : State) (f : SourceFrame) : (s.sourceStart f).port.tile = s.port.tile := by
  simp [State.sourceStart, State.commitSources]

theorem State.sourceStart_outputsWait (s : State) (f : SourceFrame) : s.outputsWait (s.sourceStart f) :=
  ⟨s.sourceStart_view f, s.sourceStart_engines f, s.sourceStart_controlQueue f (by decide), s.sourceStart_tile f⟩

theorem State.sourceStart_frames (s : State) (f : SourceFrame) : (s.sourceStart f).sources.frames = s.sources.frames := by
  simp [State.sourceStart, State.frameSources, State.commitSources, SourceUnit.intervals]

theorem State.sourceRun_viewFollows {frames : List SourceFrame} (h : frames ≠ []) (s : State) :
    s.viewFollows (State.sourceRun frames s) := by
  induction frames generalizing s with
  | nil => exact absurd rfl h
  | cons f rest ih =>
    obtain ⟨u, hu⟩ : ∃ u, u = (s.withSources { s.sources with frames := rest }).sourceStart f := ⟨_, rfl⟩
    have hwait : s.outputsWait u :=
      State.outputsWait.trans (.samePort rfl rfl rfl) (hu ▸ State.sourceStart_outputsWait _ f)
    have hframes : u.sources.frames = rest := hu ▸ State.sourceStart_frames _ f
    unfold State.sourceRun
    dsimp only
    rw [← hu]
    by_cases htaken : f.taken = true
    · rw [if_pos htaken]
      by_cases hjudge : u.sources.toJudge = []
      · rw [if_pos (List.isEmpty_iff.mpr hjudge)]
        by_cases hrest : rest = []
        · rw [if_pos (List.isEmpty_iff.mpr hrest)]
          exact hwait.frameReady ⟨hjudge, hframes.trans hrest⟩
        · rw [if_neg (mt List.isEmpty_iff.mp hrest)]
          exact hwait.thenFollows (ih hrest u)
      · rw [if_neg (mt List.isEmpty_iff.mp hjudge)]
        exact hwait.notDone fun hd => hjudge hd.1
    · rw [if_neg htaken]
      exact State.outputsWait.notDone (.samePort rfl rfl rfl) fun hd => List.cons_ne_nil _ _ hd.2

theorem State.sourceAdvance_viewFollows {s : State} (h : s.sources.frames ≠ []) : s.viewFollows s.sourceAdvance := by
  unfold State.sourceAdvance
  split
  · exact State.sourceRun_viewFollows h s
  · exact State.outputsWait.notDone (.samePort rfl rfl rfl) fun hd => h hd.2

/-- The last wall frame start that waits is begun: none waits after it. -/
theorem State.sourceRun_last_frames {f : SourceFrame} (h : f.taken = true) (s : State) :
    (State.sourceRun [f] s).sources.frames = [] := by
  unfold State.sourceRun
  dsimp only
  rw [if_pos h]
  split
  · rw [List.isEmpty_nil, if_pos rfl, State.frameReady_sources, State.sourceStart_frames]
    rfl
  · exact State.sourceStart_frames _ _

/-- The only wall frame start that waits for the ring processor is handed to the source unit, which begins it. -/
theorem State.handItems_viewFollows {s : State} (hjudge : s.sources.toJudge = [])
    (hframes : s.sources.frames = [⟨false, [], 0⟩]) (items : List SourceItem) :
    s.viewFollows (s.handItems items) ∧ (s.handItems items).sources.frames = [] := by
  have hhands : s.handItems items =
      State.sourceRun [⟨true, items, 0⟩]
        (s.statusTakeRing.withSources { s.sources with frames := [⟨true, items, 0⟩] }) := by
    simp [State.handItems, State.sourceAdvance, hjudge, hframes, handTo]
  rw [hhands]
  exact ⟨State.outputsWait.thenFollows (.samePort rfl rfl rfl) (State.sourceRun_viewFollows (by simp) _),
    State.sourceRun_last_frames rfl _⟩

/-! ## The judgement of a header (R95, R191) -/

theorem exec_memoryHeaderRead {m : Fin 16} {s : State} {src : Fin 32} {header : List Byte} (hr : s.control.part = .running)
    (hsrc : src = memorySource m) (hj : src ∈ s.sources.toJudge)
    (hh : s.sources.headers.find? (fun p => p.1 == src) = some (src, header)) :
    exec (.memoryHeaderRead m) s = .next (s.headerJudged src header) := by
  subst hsrc
  have hof : s.headerOf (memorySource m) = some header := by
    simp [State.headerOf, State.running, hr, hj, hh]
  show execMemoryHeaderRead m s = _
  rw [execMemoryHeaderRead, hof]

theorem State.headerJudged_viewFollows (s : State) (src : Fin 32) (header : List Byte) :
    s.viewFollows (s.headerJudged src header) := by
  unfold State.headerJudged
  dsimp only
  obtain ⟨u, hu⟩ : ∃ u, u = ((s.setChannel src ((s.channel src).judgeHeader header)).raiseIf
      ((s.channel src).judgeEvent header) causeSourceEvent) := ⟨_, rfl⟩
  have hjudged : s.outputsWait u := hu ▸ .samePort
  rw [← hu]
  obtain ⟨v, hv⟩ : ∃ v, v = (u.withSources
    { u.sources with
      toJudge := u.sources.toJudge.filter fun q => q != src
      headers := u.sources.headers.filter fun p => p.1 != src }).statusTakeSources fun q => q == src := ⟨_, rfl⟩
  have hcopied : s.outputsWait v := hjudged.trans (hv ▸ .samePort)
  rw [← hv]
  obtain ⟨w, hw⟩ : ∃ w, w = v.setChannel src ((v.channel src).agedBy v.sources.owed) := ⟨_, rfl⟩
  have haged : s.outputsWait w := hcopied.trans (hw ▸ .samePort)
  rw [← hw]
  by_cases hjudge : w.sources.toJudge = []
  · have hlast : s.outputsWait (w.withSources { w.sources with owed := 0 }) := haged.trans (.samePort rfl rfl rfl)
    rw [if_pos (List.isEmpty_iff.mpr hjudge), State.withSources_sources]
    by_cases hframes : w.sources.frames = []
    · rw [if_pos (List.isEmpty_iff.mpr hframes)]
      exact hlast.frameReady ⟨hjudge, hframes⟩
    · rw [if_neg (mt List.isEmpty_iff.mp hframes)]
      exact hlast.thenFollows (State.sourceAdvance_viewFollows hframes)
  · rw [if_neg (mt List.isEmpty_iff.mp hjudge)]
    exact haged.notDone fun hd => hjudge hd.1

/-! ## The wall frame start in the units before the source unit takes it (R8, R72) -/

/-- The blocks have taken the wall frame start of `s`: the old view and page are gone, every enabled tile begins row 0, and
the source unit has this start to begin. -/
def State.frameTaken (s v : State) : Prop :=
  v.sources = { s.sources with frames := s.sources.frames ++ [⟨false, [], 0⟩] } ∧ v.view = none ∧
    v.port.control[statusWriter] = [] ∧ v.port.tile = Vector.replicate 16 [] ∧
    ∀ k : Fin 16, (s.tile k).enable = true → (v.engines[k]).composing = some ⟨0, false, false, []⟩

theorem State.frameTaken.wait {s v u : State} (h : s.frameTaken v) (hw : v.outputsWait u) (hs : u.sources = v.sources) :
    s.frameTaken u := by
  obtain ⟨hsources, hview, hpage, htile, hengines⟩ := h
  obtain ⟨hv, he, hq, ht⟩ := hw
  exact ⟨hs.trans hsources, hv.trans hview, hq.trans hpage, ht.trans htile, by rwa [he]⟩

/-- The blocks take the start in a state `c` that has the source unit told of it and the configuration of `s`. -/
theorem State.blocksTakeFrame_frameTaken {s c : State}
    (hs : c.sources = { s.sources with frames := s.sources.frames ++ [⟨false, [], 0⟩] }) (hc : c.config = s.config)
    (lastTile : Bool) : s.frameTaken (c.blocksTakeFrame lastTile) := by
  refine ⟨by rw [State.blocksTakeFrame_sources, hs], rfl, ?_, rfl, fun k hk => ?_⟩
  · exact Port.setQueue_queue _ (.control statusWriter) []
  · rw [State.blocksTakeFrame_engine, if_pos (by rwa [State.tile_congr hc])]
    rfl

theorem State.issue_ringProcessor_outputsWait (s : State) (ts : List Transfer) :
    s.outputsWait (s.issue (.control ringProcessor) ts) :=
  ⟨rfl, rfl, State.issue_control_of_ne s ts (by decide), rfl⟩

/-- The ring processor's part hands its items to the source unit in a state in which the outputs still wait. -/
def State.handsOver (v t : State) : Prop :=
  ∃ (u : State) (items : List SourceItem), v.outputsWait u ∧ u.sources = v.sources ∧ t = u.handItems items

theorem State.commitWith_handsOver (s : State) (n : Word) (found : List (Nat × Nat)) :
    s.handsOver (s.commitWith n found) := by
  refine ⟨_, s.ring.pendingSources, ?_, ?_, rfl⟩
  · exact State.outputsWait.trans (.samePort rfl rfl rfl) (State.issue_ringProcessor_outputsWait _ _)
  · rfl

theorem State.commitGroup_handsOver (s : State) (n : Word) : s.handsOver (s.commitGroup n) := by
  obtain ⟨u, items, hw, hs, ht⟩ := s.clearWork.1.commitWith_handsOver n s.clearWork.2
  exact ⟨u, items, State.outputsWait.trans .samePort hw, hs.trans s.clearWork_sources, ht⟩

theorem State.lookIn_outputsWait (s : State) (cause : LookCause) : s.outputsWait (s.lookIn cause) := by
  have hlook : s.outputsWait (s.startLook cause) :=
    State.outputsWait.trans (.samePort rfl rfl rfl) (State.issue_ringProcessor_outputsWait _ _)
  unfold State.lookIn
  cases s.ring.state with
  | idle | collecting | skipping => exact hlook
  | awaitingCommit | writingBack => exact .samePort

theorem State.ringFrame_handsOver {s : State} (h : s.ring.look = .none) : s.handsOver s.ringFrame := by
  have htakes : s.ringFrame = s.ringTakesFrame s.frameNo := by
    simp [State.ringFrame, State.lookEvent, h, State.takeLookEvent]
  rw [htakes, State.ringTakesFrame]
  split
  · exact s.commitGroup_handsOver _
  · exact ⟨_, [], s.lookIn_outputsWait _, s.lookIn_sources _, rfl⟩

/-- Whatever commits at it, a wall frame start that the ring processor takes at once is taken by the blocks and handed to
the source unit. -/
theorem State.frameAlone_hands {s : State} (hl : s.ring.look = .none) (setFirst lastTile : Bool) :
    ∃ (v : State) (items : List SourceItem), s.frameTaken v ∧ s.frameAlone setFirst lastTile = v.handItems items := by
  have hhands {c t : State} (hs : c.sources = s.frameBegun.sources) (hc : c.config = s.config)
      (ht : (c.blocksTakeFrame lastTile).handsOver t) :
      ∃ (v : State) (items : List SourceItem), s.frameTaken v ∧ t = v.handItems items := by
    obtain ⟨u, items, hw, hu, rfl⟩ := ht
    exact ⟨u, items, (State.blocksTakeFrame_frameTaken hs hc lastTile).wait hw hu, rfl⟩
  by_cases hg : s.groupCommits = true
  · rw [State.frameAlone_group (s.groupCommits_eq.mp hg)]
    exact hhands rfl rfl (State.commitGroup_handsOver _ _)
  · rw [Bool.not_eq_true] at hg
    by_cases hfirst : setFirst = true ∧ s.awaitsFrame = true
    · obtain ⟨rfl, ha⟩ := hfirst
      rw [State.frameAlone_commits hg ha]
      exact hhands (by simp [State.frameBegun, State.pushFrame]) (by simp) (State.commitWith_handsOver _ _ _)
    · rw [State.frameAlone_blocksFirst hg hfirst]
      exact hhands rfl rfl (State.ringFrame_handsOver (by simpa using hl))

/-- Settles O58: the blocks discard the old view, and the source unit's work forms the new one when it leaves nothing to
judge and nothing to begin. -/
theorem viewIsFormedOnceSourcesAreDone : Obligations.ViewIsFormedOnceSourcesAreDone := by
  refine ⟨fun order s hi ⟨hr, hframes, hjudge, hlook⟩ => ?_, fun s m header => ?_⟩
  · obtain ⟨v, items, ⟨hsources, hview, hpage, htile, hengines⟩, ht⟩ :=
      State.frameAlone_hands hlook order.setFirst order.lastTile
    obtain ⟨hfollows, hnone⟩ := State.handItems_viewFollows (s := v) (by rw [hsources, hjudge])
      (by rw [hsources, hframes]; rfl) items
    refine ⟨_, exec_wallFrameStart_alone hi hr, ?_⟩
    rw [ht]
    refine ⟨fun hdone => ⟨v.engines, hfollows.frameIsReady ⟨hdone, hnone⟩, hengines⟩, fun hleft => ?_⟩
    obtain ⟨hv, he, hq, hts⟩ := hfollows.2 fun hdone => hleft hdone.1
    refine ⟨hv.trans hview, hq.trans hpage, fun k => ⟨?_, fun hk => he ▸ hengines k hk⟩⟩
    show (v.handItems items).port.tile[k] = []
    rw [hts, htile]
    exact Vector.getElem_replicate k.isLt
  · intro src hr hj hh
    have hfollows := s.headerJudged_viewFollows src header
    refine ⟨_, exec_memoryHeaderRead hr rfl hj hh, fun hjudge hframes => hfollows.frameIsReady ⟨hjudge, hframes⟩,
      fun hleft => ?_⟩
    obtain ⟨hv, he, hq, hts⟩ := hfollows.2 fun hdone => hleft.elim (· hdone.1) (· hdone.2)
    exact ⟨hv, he, hq, fun k => congrArg (fun tile => tile[k]) hts⟩

end Sys2Proof.Machine
end

section
/-! The slot roles of one source: where a role is held, how many slots hold it once a slot has taken another, and the
channel's operations that move roles (R87, R89, R93, R95, R96). -/

namespace Sys2Proof.Machine

open Sys2Proof

/-! ## Where a role is held -/

theorem Source.slotWith_holds {c : Source} {r : Role} {k : Fin 3} (h : c.slotWith r = some k) : c.roles[k] = some r := by
  simpa using List.find?_some h

theorem Source.slotWith_eq_none {c : Source} {r : Role} : c.slotWith r = none ↔ ∀ k : Fin 3, c.roles[k] ≠ some r := by
  simp [Source.slotWith]

/-- One summand for each slot. -/
theorem Source.slotsHolding_eq_sum (c : Source) (r : Role) :
    c.slotsHolding r = ∑ k : Fin 3, if c.roles[k] = some r then 1 else 0 := by
  have hslots : List.finRange 3 = [0, 1, 2] := rfl
  simp only [Source.slotsHolding, hslots, List.countP_cons, List.countP_nil, beq_iff_eq, Fin.sum_univ_three, zero_add]
  omega

theorem Source.slotsHolding_eq_zero {c : Source} {r : Role} : c.slotsHolding r = 0 ↔ c.slotWith r = none := by
  simp [Source.slotWith_eq_none, Source.slotsHolding, List.countP_eq_zero]

theorem Source.slotWith_of_holding {c : Source} {r : Role} (h : c.slotsHolding r ≠ 0) : ∃ k, c.slotWith r = some k := by
  rw [ne_eq, Source.slotsHolding_eq_zero] at h
  exact Option.ne_none_iff_exists'.mp h

/-- A role that at most one slot holds is held at the slot that `slotWith` finds and nowhere else. -/
theorem Source.holds_iff {c : Source} {r : Role} {i : Fin 3} (h : c.slotsHolding r ≤ 1) (hi : c.slotWith r = some i)
    (k : Fin 3) : c.roles[k] = some r ↔ k = i := by
  rw [Source.slotsHolding_eq_sum, Finset.sum_boole, Nat.cast_id, Finset.card_le_one] at h
  have hri := Source.slotWith_holds hi
  exact ⟨fun hk => h k (by simpa using hk) i (by simpa using hri), fun hk => hk ▸ hri⟩

/-! ## A slot that takes another role -/

theorem Source.setRole_get (c : Source) (i : Fin 3) (r : Role) (k : Fin 3) :
    (c.setRole i r).roles[k] = if k = i then some r else c.roles[k] :=
  vset_get_eq _ _ _ _

theorem Source.setRole_slotsHolding {c : Source} {i : Fin 3} {p : Role} (h : c.roles[i] = some p) (r q : Role) :
    (c.setRole i r).slotsHolding q + (if p = q then 1 else 0) = c.slotsHolding q + (if r = q then 1 else 0) := by
  rw [Source.slotsHolding_eq_sum, Source.slotsHolding_eq_sum, ← Finset.add_sum_erase _ _ (Finset.mem_univ i),
    ← Finset.add_sum_erase _ _ (Finset.mem_univ i)]
  have hrest : ∀ k ∈ Finset.univ.erase i, (if (c.setRole i r).roles[k] = some q then 1 else 0) =
      if c.roles[k] = some q then 1 else 0 := fun k hk => by
    rw [Source.setRole_get, if_neg (Finset.ne_of_mem_erase hk)]
  rw [Finset.sum_congr rfl hrest, Source.setRole_get, if_pos rfl, h]
  simp only [Option.some.injEq]
  omega

/-- Two slots that take other roles. -/
theorem Source.setRole_setRole_slotsHolding {c : Source} {i j : Fin 3} {p p' : Role} (hne : j ≠ i)
    (hi : c.roles[i] = some p) (hj : c.roles[j] = some p') (r r' q : Role) :
    ((c.setRole i r).setRole j r').slotsHolding q + (if p = q then 1 else 0) + (if p' = q then 1 else 0) =
      c.slotsHolding q + (if r = q then 1 else 0) + (if r' = q then 1 else 0) := by
  have hfirst := Source.setRole_slotsHolding hi r q
  have hsecond := Source.setRole_slotsHolding (c := c.setRole i r) (i := j) (p := p')
    (by rw [Source.setRole_get, if_neg hne, hj]) r' q
  omega

/-- Slots that hold different roles are different. -/
theorem Source.slots_ne {c : Source} {i j : Fin 3} {p q : Role} (hi : c.roles[i] = some p) (hj : c.roles[j] = some q)
    (h : p ≠ q) : j ≠ i := by
  rintro rfl
  exact h (Option.some.inj (hi.symm.trans hj))

/-! ## Legal roles (R87) -/

/-- Its slots in use, and no others, hold a role. -/
def Source.slotsUsed (src : Fin 32) (c : Source) : Prop := ∀ i : Fin 3, (c.roles[i]).isSome = true ↔ i ∈ slotsInUse src

theorem Source.rolesLegal_on {src : Fin 32} {c : Source} (he : c.desc.enable = true) :
    c.rolesLegal src ↔
      c.slotsUsed src ∧ c.slotsHolding .filling = 1 ∧ c.slotsHolding .shown ≤ 1 ∧
        c.slotsHolding .ready ≤ if isCapture src then 1 else 0 := by
  rw [Source.rolesLegal, if_pos he]
  rfl

theorem Source.rolesLegal_off {src : Fin 32} {c : Source} (he : c.desc.enable = false) :
    c.rolesLegal src ↔ ∀ i : Fin 3, c.roles[i] = none := by
  rw [Source.rolesLegal, if_neg (by simp [he])]

/-- The roles are legal or not by the roles and the enable alone. -/
theorem Source.rolesLegal_congr {src : Fin 32} {c c' : Source} (hr : c'.roles = c.roles)
    (he : c'.desc.enable = c.desc.enable) (h : c.rolesLegal src) : c'.rolesLegal src := by
  simpa only [Source.rolesLegal, Source.slotsHolding, hr, he] using h

/-- A source some slot of which holds a role is enabled. -/
theorem Source.rolesLegal.enabled {src : Fin 32} {c : Source} (h : c.rolesLegal src) {k : Fin 3} {r : Role}
    (hk : c.roles[k] = some r) : c.desc.enable = true := by
  by_contra he
  rw [Source.rolesLegal_off (by simpa using he)] at h
  exact absurd ((h k).symm.trans hk) (by simp)

theorem Source.slotsUsed.setRole {src : Fin 32} {c : Source} {i : Fin 3} {p : Role} (h : c.slotsUsed src)
    (hi : c.roles[i] = some p) (r : Role) : (c.setRole i r).slotsUsed src := by
  intro k
  rw [← h k, Source.setRole_get]
  split
  · rw [‹k = i›, hi]
    rfl
  · rfl

/-- Each slot in use holds one of the four roles. -/
theorem Source.slotsUsed.total {src : Fin 32} {c : Source} (h : c.slotsUsed src) :
    c.slotsHolding .filling + c.slotsHolding .ready + c.slotsHolding .shown + c.slotsHolding .spare =
      if isCapture src then 3 else 2 := by
  have hslot (k : Fin 3) : ((((if c.roles[k] = some Role.filling then 1 else 0) + if c.roles[k] = some Role.ready then 1 else 0) +
      if c.roles[k] = some Role.shown then 1 else 0) + if c.roles[k] = some Role.spare then 1 else 0) =
      if k ∈ slotsInUse src then 1 else 0 := by
    simp only [← h k]
    cases c.roles[k] with
    | none => rfl
    | some r => cases r <;> rfl
  simp only [Source.slotsHolding_eq_sum, ← Finset.sum_add_distrib, hslot, slotsInUse]
  split <;> rfl

/-! ## The operations that move roles (R88, R89, R93, R95, R96) -/

@[simp] theorem Source.setRoleOpt_none (c : Source) (r : Role) : c.setRoleOpt none r = c := rfl
@[simp] theorem Source.setRoleOpt_some (c : Source) (i : Fin 3) (r : Role) : c.setRoleOpt (some i) r = c.setRole i r := rfl

@[simp] theorem Source.setRole_desc (c : Source) (i : Fin 3) (r : Role) : (c.setRole i r).desc = c.desc := rfl

@[simp] theorem Source.setRoleOpt_desc (c : Source) (i : Option (Fin 3)) (r : Role) : (c.setRoleOpt i r).desc = c.desc := by
  cases i <;> rfl

/-- Two slots that exchange their roles. -/
theorem Source.rolesLegal.exchange {src : Fin 32} {c : Source} {i j : Fin 3} {p q : Role} (h : c.rolesLegal src)
    (hi : c.roles[i] = some p) (hj : c.roles[j] = some q) (hne : p ≠ q) :
    ((c.setRole i q).setRole j p).rolesLegal src := by
  have hslots := Source.slots_ne hi hj hne
  have he := h.enabled hi
  obtain ⟨hused, hfilling, hshown, hready⟩ := (Source.rolesLegal_on he).mp h
  have hcount (r : Role) : ((c.setRole i q).setRole j p).slotsHolding r = c.slotsHolding r := by
    have hmoved := Source.setRole_setRole_slotsHolding hslots hi hj q p r
    omega
  have hj' : (c.setRole i q).roles[j] = some q := by rw [Source.setRole_get, if_neg hslots, hj]
  rw [Source.rolesLegal_on (by simpa using he), hcount, hcount, hcount]
  exact ⟨(hused.setRole hi q).setRole hj' p, hfilling, hshown, hready⟩

/-- The FILLING slot takes a role that no slot holds, and a SPARE one becomes FILLING. -/
theorem Source.rolesLegal.refill {src : Fin 32} {c : Source} {i j : Fin 3} {r : Role} (h : c.rolesLegal src)
    (hi : c.roles[i] = some .filling) (hj : c.roles[j] = some .spare) (hr : c.slotWith r = none)
    (hrole : r = .shown ∨ r = .ready ∧ isCapture src = true) :
    ((c.setRole i r).setRole j .filling).rolesLegal src := by
  have hslots := Source.slots_ne hi hj (by decide)
  have he := h.enabled hi
  obtain ⟨hused, hfilling, hshown, hready⟩ := (Source.rolesLegal_on he).mp h
  have hj' : (c.setRole i r).roles[j] = some .spare := by rw [Source.setRole_get, if_neg hslots, hj]
  have hcount := Source.setRole_setRole_slotsHolding hslots hi hj r .filling
  have hf := hcount .filling
  have hs := hcount .shown
  have hrd := hcount .ready
  rw [← Source.slotsHolding_eq_zero] at hr
  rw [Source.rolesLegal_on (by simpa using he)]
  refine ⟨(hused.setRole hi r).setRole hj' .filling, ?_⟩
  rcases hrole with rfl | ⟨rfl, hc⟩
  · simp only [reduceCtorEq, if_false, if_true] at hf hs hrd
    omega
  · simp only [reduceCtorEq, if_false, if_true, hc] at hf hs hrd hready ⊢
    omega

/-- The SHOWN slot, where there is one, becomes SPARE: no slot is SHOWN then. -/
theorem Source.rolesLegal.release {src : Fin 32} {c : Source} (h : c.rolesLegal src) :
    (c.setRoleOpt (c.slotWith .shown) .spare).rolesLegal src ∧
      (c.setRoleOpt (c.slotWith .shown) .spare).slotsHolding .shown = 0 := by
  cases hshown : c.slotWith .shown with
  | none => exact ⟨h, Source.slotsHolding_eq_zero.mpr hshown⟩
  | some i =>
    have hi := Source.slotWith_holds hshown
    have he := h.enabled hi
    obtain ⟨hused, hfilling, hone, hready⟩ := (Source.rolesLegal_on he).mp h
    have hcount := Source.setRole_slotsHolding hi .spare
    have hf := hcount .filling
    have hs := hcount .shown
    have hr := hcount .ready
    simp only [reduceCtorEq, if_false, if_true] at hf hs hr
    rw [Source.setRoleOpt_some, Source.rolesLegal_on (by simpa using he)]
    refine ⟨⟨hused.setRole hi _, ?_⟩, ?_⟩ <;> omega

/-- The READY slot becomes SHOWN while no slot is. -/
theorem Source.rolesLegal.reveal {src : Fin 32} {c : Source} {i : Fin 3} (h : c.rolesLegal src)
    (hi : c.roles[i] = some .ready) (hnone : c.slotsHolding .shown = 0) : (c.setRole i .shown).rolesLegal src := by
  have he := h.enabled hi
  obtain ⟨hused, hfilling, hone, hready⟩ := (Source.rolesLegal_on he).mp h
  have hcount := Source.setRole_slotsHolding hi .shown
  have hf := hcount .filling
  have hs := hcount .shown
  have hr := hcount .ready
  simp only [reduceCtorEq, if_false, if_true] at hf hs hr
  rw [Source.rolesLegal_on (by simpa using he)]
  refine ⟨hused.setRole hi _, ?_⟩
  omega

theorem Source.rolesLegal.expire {src : Fin 32} {c : Source} (h : c.rolesLegal src) : c.expire.rolesLegal src :=
  Source.rolesLegal_congr (c := c.setRoleOpt (c.slotWith .shown) .spare) rfl rfl h.release.1

theorem Source.rolesLegal.promote {src : Fin 32} {c : Source} (h : c.rolesLegal src) : c.promote.rolesLegal src := by
  obtain ⟨hreleased, hnone⟩ := h.release
  refine Source.rolesLegal_congr (c := (c.setRoleOpt (c.slotWith .shown) .spare).setRoleOpt (c.slotWith .ready) .shown)
    rfl rfl ?_
  cases hready : c.slotWith .ready with
  | none => exact hreleased
  | some i =>
    have hi := Source.slotWith_holds hready
    refine hreleased.reveal ?_ hnone
    cases hshown : c.slotWith .shown with
    | none => exact hi
    | some j =>
      rw [Source.setRoleOpt_some, Source.setRole_get, if_neg (Source.slots_ne (Source.slotWith_holds hshown) hi (by decide)),
        hi]

/-- An enabled source has a FILLING slot. -/
theorem Source.rolesLegal.filling {src : Fin 32} {c : Source} (h : c.rolesLegal src) (he : c.desc.enable = true) :
    ∃ i, c.slotWith .filling = some i := by
  obtain ⟨-, hone, -⟩ := (Source.rolesLegal_on he).mp h
  exact Source.slotWith_of_holding (by omega)

/-- A source with a slot in use that holds none of the other roles has a SPARE one. -/
theorem Source.rolesLegal.spare {src : Fin 32} {c : Source} (h : c.rolesLegal src) (he : c.desc.enable = true)
    (hroom : c.slotWith (if isCapture src then .ready else .shown) = none) : ∃ i, c.slotWith .spare = some i := by
  obtain ⟨hused, hfilling, hshown, hready⟩ := (Source.rolesLegal_on he).mp h
  have htotal := hused.total
  rw [← Source.slotsHolding_eq_zero] at hroom
  refine Source.slotWith_of_holding ?_
  split at htotal
  · simp_all
    omega
  · simp_all
    omega

theorem Source.rolesLegal.publish {src : Fin 32} {c : Source} (h : c.rolesLegal src) (he : c.desc.enable = true)
    (hc : isCapture src = true) (w d : Nat) : (c.publish w d).rolesLegal src := by
  obtain ⟨i, hfilling⟩ := h.filling he
  have hi := Source.slotWith_holds hfilling
  cases hready : c.slotWith .ready with
  | some j =>
    refine Source.rolesLegal_congr ?_ ?_ (h.exchange hi (Source.slotWith_holds hready) (by decide))
    · simp [Source.publish, hready, hfilling, Source.setRole]
    · simp [Source.publish, hready]
  | none =>
    obtain ⟨j, hspare⟩ := h.spare he (by rw [if_pos hc, hready])
    refine Source.rolesLegal_congr ?_ ?_ (h.refill hi (Source.slotWith_holds hspare) hready (.inr ⟨rfl, hc⟩))
    · simp [Source.publish, hready, hfilling, hspare, Source.setRole]
    · simp [Source.publish, hready]

theorem Source.rolesLegal.publishMemory {src : Fin 32} {c : Source} (h : c.rolesLegal src) (hc : isCapture src = false)
    (w d : Nat) : (c.publishMemory w d).rolesLegal src := by
  cases he : c.desc.enable with
  | false =>
    have hnone (r : Role) : c.slotWith r = none :=
      Source.slotWith_eq_none.mpr fun k => by simp [(Source.rolesLegal_off he).mp h k]
    exact Source.rolesLegal_congr (by simp [Source.publishMemory, hnone]) (by simp [Source.publishMemory]) h
  | true =>
    obtain ⟨i, hfilling⟩ := h.filling he
    have hi := Source.slotWith_holds hfilling
    cases hshown : c.slotWith .shown with
    | some j =>
      refine Source.rolesLegal_congr ?_ ?_ (h.exchange hi (Source.slotWith_holds hshown) (by decide))
      · simp [Source.publishMemory, hshown, hfilling]
      · simp [Source.publishMemory]
    | none =>
      obtain ⟨j, hspare⟩ := h.spare he (by simp [hc, hshown])
      refine Source.rolesLegal_congr ?_ ?_ (h.refill hi (Source.slotWith_holds hspare) hshown (.inl rfl))
      · simp [Source.publishMemory, hshown, hfilling, hspare]
      · simp [Source.publishMemory]

/-! ## A channel's work at a wall frame start (R88, R92, R101, R102) -/

theorem Source.rolesLegal.initial {src : Fin 32} {d : Descriptor} (he : d.enable = true) :
    (Source.initial src d).rolesLegal src := by
  have hsome : ∀ q : Fin 32, (Source.initial q { Descriptor.unloaded with enable := true }).rolesLegal q := by
    unfold Source.rolesLegal
    decide
  exact Source.rolesLegal_congr (c := Source.initial src { Descriptor.unloaded with enable := true }) rfl he (hsome src)

/-- A source that is not enabled and holds no roles. -/
theorem Source.rolesLegal.unused {src : Fin 32} {c : Source} (he : c.desc.enable = false)
    (hr : c.roles = Vector.replicate 3 none) : c.rolesLegal src := by
  rw [Source.rolesLegal_off he, hr]
  exact fun i => Vector.getElem_replicate i.isLt

theorem Source.rolesLegal.applyItem {src : Fin 32} {c : Source} (h : c.rolesLegal src) (item : SourceItem) :
    (Source.applyItem src c item).rolesLegal src := by
  cases item with
  | config q d =>
    by_cases hq : q = src
    · cases he : d.enable with
      | true =>
        refine Source.rolesLegal_congr ?_ ?_ (Source.rolesLegal.initial he)
        · simp [Source.applyItem, hq, he]
        · simp [Source.applyItem, hq, he]
      | false =>
        refine .unused ?_ ?_
        · simp [Source.applyItem, hq, he, Source.disabled]
        · simp [Source.applyItem, hq, he, Source.disabled, Source.unloaded]
    · simpa [Source.applyItem, hq] using h
  | freeze q on =>
    unfold Source.applyItem
    dsimp only
    split
    · exact Source.rolesLegal_congr rfl rfl h
    · exact h

theorem Source.rolesLegal.commit {src : Fin 32} {c : Source} (h : c.rolesLegal src) (items : List SourceItem) :
    (c.commit src items).rolesLegal src := by
  have hnoted : ({ c with before := c.presentation } : Source).rolesLegal src := Source.rolesLegal_congr rfl rfl h
  unfold Source.commit
  generalize ({ c with before := c.presentation } : Source) = d at hnoted
  induction items generalizing d with
  | nil => exact hnoted
  | cons item rest ih => exact ih _ (hnoted.applyItem item)

theorem Source.rolesLegal.decide {src : Fin 32} {c : Source} (h : c.rolesLegal src) : c.decide.rolesLegal src :=
  Source.rolesLegal_congr rfl rfl h

theorem Source.rolesLegal.finish {src : Fin 32} {c : Source} (h : c.rolesLegal src) : c.finish.rolesLegal src := by
  unfold Source.finish
  split
  · exact h.expire.decide
  · exact h.decide

theorem Source.rolesLegal.frame {src : Fin 32} {c : Source} (h : c.rolesLegal src) : (c.frame src).rolesLegal src := by
  unfold Source.frame
  split
  · split
    · exact h.promote.decide
    · exact h.finish
  · exact h.decide

theorem Source.rolesLegal.judgeHeader {src : Fin 32} {c : Source} (h : c.rolesLegal src) (hc : isCapture src = false)
    (header : List Byte) : (c.judgeHeader header).rolesLegal src := by
  have hused : c.useUpTag.rolesLegal src := Source.rolesLegal_congr rfl rfl h
  unfold Source.judgeHeader
  split
  · split
    · exact (h.publishMemory hc _ _).decide
    · exact hused.finish
  · exact h.finish

theorem Source.rolesLegal.agedBy {src : Fin 32} {c : Source} (h : c.rolesLegal src) (n : Nat) :
    (c.agedBy n).rolesLegal src := by
  induction n with
  | zero => exact h
  | succ n ih =>
    unfold Source.agedBy Source.aged
    split
    · exact Source.rolesLegal_congr rfl rfl ih
    · exact ih

end Sys2Proof.Machine
end

section
/-! Every step keeps the slot roles of every source legal (R87; O4). -/

namespace Sys2Proof.Machine

open Sys2Proof

/-! ## The source unit's work (R92) -/

/-- Each source whose roles are legal keeps them so. -/
structure State.keepsRoles (s t : State) : Prop where
  legal : ∀ src, (s.channel src).rolesLegal src → (t.channel src).rolesLegal src

/-- Work that leaves the channels alone. -/
theorem State.keepsRoles.of_channels {s t : State} (h : t.sources.channels = s.sources.channels) : s.keepsRoles t := by
  refine ⟨fun src => ?_⟩
  rw [State.channel, State.channel, h]
  exact id

/-- Work that leaves the source unit alone. -/
theorem State.keepsRoles.same {s t : State} (h : t.sources = s.sources := by simp) : s.keepsRoles t :=
  .of_channels (congrArg _ h)

theorem State.keepsRoles.trans {s t u : State} (h : s.keepsRoles t) (g : t.keepsRoles u) : s.keepsRoles u :=
  ⟨fun src => g.legal src ∘ h.legal src⟩

/-- Work on the roles, followed by work that leaves the source unit alone. -/
theorem State.keepsRoles.then {s t u : State} (h : s.keepsRoles t) (g : u.sources = t.sources := by simp) :
    s.keepsRoles u :=
  h.trans (.same g)

theorem State.setChannel_channel (s : State) (src : Fin 32) (c : Source) (q : Fin 32) :
    (s.setChannel src c).channel q = if q = src then c else s.channel q :=
  vset_get_eq _ _ _ _

theorem State.setChannel_keepsRoles {s : State} {src : Fin 32} {c : Source}
    (h : (s.channel src).rolesLegal src → c.rolesLegal src) : s.keepsRoles (s.setChannel src c) := by
  refine ⟨fun q hq => ?_⟩
  rw [State.setChannel_channel]
  split
  · rename_i heq
    subst heq
    exact h hq
  · exact hq

theorem State.commitSources_channel (s : State) (items : List SourceItem) (src : Fin 32) :
    (s.commitSources items).channel src = (s.channel src).commit src items :=
  mapBank_get _ _ src

theorem State.frameSources_channel (s : State) (src : Fin 32) :
    s.frameSources.channel src =
      if (s.channel src).readsHeader src then s.channel src else (s.channel src).frame src := by
  unfold State.frameSources
  rw [State.channel, State.issue_sources, State.withSources_sources, mapBank_get]
  rfl

theorem State.frameSources_keepsRoles (s : State) : s.keepsRoles s.frameSources := by
  refine ⟨fun src h => ?_⟩
  rw [State.frameSources_channel]
  split
  · exact h
  · exact h.frame

theorem State.intervals_keepsRoles (s : State) (n : Nat) : s.keepsRoles (s.withSources (s.sources.intervals n)) := by
  refine ⟨fun src h => ?_⟩
  rw [State.channel, State.withSources_sources, SourceUnit.intervals_channel]
  split
  · exact h
  · exact h.agedBy n

theorem State.sourceStart_keepsRoles (s : State) (f : SourceFrame) : s.keepsRoles (s.sourceStart f) := by
  have hcommitted : s.keepsRoles (s.commitSources f.items) := by
    refine ⟨fun src h => ?_⟩
    rw [State.commitSources_channel]
    exact h.commit f.items
  unfold State.sourceStart
  dsimp only
  have hreset : s.keepsRoles (((s.commitSources f.items).statusResetInputs f.items).raiseIf
      (resetEvent s.inputs f.items) causeSourceEvent) := hcommitted.then
  generalize State.raiseIf _ (resetEvent s.inputs f.items) causeSourceEvent = t at hreset ⊢
  have hframe := hreset.trans t.frameSources_keepsRoles
  have hcopied : s.keepsRoles ((t.frameSources.raiseIf t.frameSourcesEvent causeSourceEvent).statusTakeSources
      fun src => !(t.channel src).readsHeader src) := hframe.then
  exact hcopied.trans (State.intervals_keepsRoles _ _)

theorem State.sourceRun_keepsRoles (frames : List SourceFrame) (s : State) :
    s.keepsRoles (State.sourceRun frames s) := by
  induction frames generalizing s with
  | nil =>
    unfold State.sourceRun
    exact .of_channels rfl
  | cons f rest ih =>
    have hrest : s.keepsRoles (s.withSources { s.sources with frames := rest }) := .of_channels rfl
    have hstart := hrest.trans (State.sourceStart_keepsRoles _ f)
    unfold State.sourceRun
    dsimp only
    split
    · split
      · split
        · exact hstart.then
        · exact hstart.trans (ih _)
      · exact hstart
    · exact .of_channels rfl

theorem State.sourceAdvance_keepsRoles (s : State) : s.keepsRoles s.sourceAdvance := by
  unfold State.sourceAdvance
  split
  · exact State.sourceRun_keepsRoles _ s
  · exact .same rfl

theorem State.handItems_keepsRoles (s : State) (items : List SourceItem) : s.keepsRoles (s.handItems items) := by
  have htaken (frames : List SourceFrame) :
      s.keepsRoles (s.statusTakeRing.withSources { s.statusTakeRing.sources with frames := frames }) := .of_channels rfl
  exact (htaken _).trans (State.sourceAdvance_keepsRoles _)

theorem State.headerJudged_keepsRoles (s : State) {src : Fin 32} (hsrc : isCapture src = false) (header : List Byte) :
    s.keepsRoles (s.headerJudged src header) := by
  have hjudged : s.keepsRoles ((s.setChannel src ((s.channel src).judgeHeader header)).raiseIf
      ((s.channel src).judgeEvent header) causeSourceEvent) :=
    State.keepsRoles.then (State.setChannel_keepsRoles fun h => h.judgeHeader hsrc header)
  unfold State.headerJudged
  dsimp only
  generalize State.raiseIf _ _ causeSourceEvent = t at hjudged ⊢
  have hcopied (toJudge : List (Fin 32)) (headers : List (Fin 32 × List Byte)) : s.keepsRoles
      ((t.withSources { t.sources with toJudge := toJudge, headers := headers }).statusTakeSources fun q => q == src) :=
    hjudged.trans (.of_channels rfl)
  specialize hcopied (t.sources.toJudge.filter fun q => q != src) (t.sources.headers.filter fun p => p.1 != src)
  generalize State.statusTakeSources _ _ = u at hcopied ⊢
  have haged := hcopied.trans (State.setChannel_keepsRoles (src := src) fun h => h.agedBy u.sources.owed)
  generalize u.setChannel src _ = v at haged ⊢
  have hlast : s.keepsRoles (v.withSources { v.sources with owed := 0 }) := haged.trans (.of_channels rfl)
  split
  · split
    · exact hlast.then
    · exact hlast.trans (State.sourceAdvance_keepsRoles _)
  · exact haged

theorem State.finishSource_keepsRoles (s : State) (src : Fin 32) : s.keepsRoles (s.finishSource src) := by
  have hfinished : s.keepsRoles (s.setChannel src ((s.channel src).commit src []).finish) :=
    State.setChannel_keepsRoles fun h => (h.commit []).finish
  exact hfinished.then (State.raise_sources _ _)

theorem State.ageSources_keepsRoles (s : State) : s.keepsRoles s.ageSources := by
  unfold State.ageSources
  split
  · exact s.intervals_keepsRoles 1
  · exact .of_channels rfl

theorem State.unitsTick_keepsRoles (s : State) (sources : Bool) (inputs : BitVec 16) :
    s.keepsRoles (s.unitsTick sources inputs) := by
  unfold State.unitsTick
  split
  · exact s.ageSources_keepsRoles.then
  · exact .same

/-! ## Capture inputs and their sources (R89, R116) -/

theorem judgeLocked_roles (i : CaptureInput) (c : Source) (f : CaptureFrame) :
    (judgeLocked i c f).2.roles = c.roles ∧ (judgeLocked i c f).2.desc = c.desc := by
  unfold judgeLocked
  split <;> exact ⟨rfl, rfl⟩

/-- The end of a frame counts it, and moves no role. -/
theorem endFrame_roles (i : CaptureInput) (c : Source) :
    (endFrame i c).2.roles = c.roles ∧ (endFrame i c).2.desc = c.desc := by
  unfold endFrame
  split
  · exact ⟨rfl, rfl⟩
  · exact ⟨rfl, rfl⟩
  · split <;> exact ⟨rfl, rfl⟩
  · exact ⟨rfl, rfl⟩
  · split
    · exact ⟨rfl, rfl⟩
    · exact judgeLocked_roles i c _

theorem State.frameStartMark_keepsRoles (s : State) (c : Fin 16) : s.keepsRoles (s.frameStartMark c) := by
  obtain ⟨i, hi⟩ : ∃ i, i = (s.endLine c).inputs[c] := ⟨_, rfl⟩
  obtain ⟨hroles, hdesc⟩ := endFrame_roles i ((s.endLine c).channel (captureSource c))
  have hcounted : ((s.endLine c).setInput c (endFrame i ((s.endLine c).channel (captureSource c))).1.beginFrame).keepsRoles _ :=
    State.setChannel_keepsRoles (src := captureSource c) (Source.rolesLegal_congr hroles (congrArg _ hdesc))
  have hinput : s.keepsRoles ((s.endLine c).setInput c (endFrame i ((s.endLine c).channel (captureSource c))).1.beginFrame) :=
    .same
  have hended := hinput.trans hcounted
  unfold State.frameStartMark
  dsimp only
  rw [← hi]
  split
  · exact hended.then
  · exact hended.then

theorem State.publishCapture_keepsRoles {s : State} {c : Fin 16} (h : s.listens c = true) (w d : Nat) :
    s.keepsRoles (s.publishCapture c w d) := by
  have he : (s.channel (captureSource c)).desc.enable = true := by
    simp only [State.listens, Bool.and_eq_true] at h
    exact h.2
  have hc : isCapture (captureSource c) = true := decide_eq_true c.isLt
  unfold State.publishCapture
  dsimp only
  exact State.keepsRoles.then (State.setChannel_keepsRoles fun hl => hl.publish he hc w d)

end Sys2Proof.Machine
end

section
/-! Every step keeps the slot roles of every source legal (R87): the ring processor, the wall frame start, and every command
(O4). -/

namespace Sys2Proof.Machine

open Sys2Proof

/-! ## The ring processor (R142, R144 to R154) -/

theorem State.commitWith_keepsRoles (s : State) (n : Word) (found : List (Nat × Nat)) :
    s.keepsRoles (s.commitWith n found) := by
  have hissued (r : Ring) (ts : List Transfer) : s.keepsRoles ((s.withRing r).issue (.control ringProcessor) ts) := .same rfl
  unfold State.commitWith
  exact (hissued _ _).trans (State.handItems_keepsRoles _ _)

theorem State.commitGroup_keepsRoles (s : State) (n : Word) : s.keepsRoles (s.commitGroup n) := by
  have hcleared : s.keepsRoles s.clearWork.1 := .same
  exact hcleared.trans (State.commitWith_keepsRoles _ _ _)

theorem State.takeLookEvent_keepsRoles (s : State) (ev : LookCause) : s.keepsRoles (s.takeLookEvent ev) := by
  cases ev with
  | frame n =>
    have hlook : s.keepsRoles (s.lookIn (.frame n)) := .same
    show s.keepsRoles (s.ringTakesFrame n)
    unfold State.ringTakesFrame
    split
    · exact s.commitGroup_keepsRoles n
    · exact hlook.trans (State.handItems_keepsRoles _ _)
  | attend => exact .same (s.lookIn_sources _)
  | atOnce => exact .same (s.lookIn_sources _)

theorem State.takeKept_keepsRoles (s : State) (ev : LookCause) (more : Bool) : s.keepsRoles (s.takeKept ev more) := by
  have htakes := s.takeLookEvent_keepsRoles ev
  cases ev with
  | frame n =>
    unfold State.takeKept
    dsimp only
    split
    · exact htakes.then
    · exact htakes.then
  | attend => exact htakes
  | atOnce => exact htakes

theorem State.serveKept_keepsRoles (evs : List LookCause) (s : State) : s.keepsRoles (State.serveKept evs s) := by
  have hnone : s.keepsRoles (s.withRing { s.ring with kept := [] }) := .same rfl
  induction evs generalizing s with
  | nil => exact hnone
  | cons ev rest ih =>
    have htakes := hnone.trans (State.takeKept_keepsRoles _ ev (rest.any LookCause.isFrame))
    unfold State.serveKept
    dsimp only
    split
    · exact htakes.trans (ih _ (.same rfl))
    · exact htakes.then rfl

theorem State.settleLooks_keepsRoles (s : State) : s.keepsRoles s.settleLooks := State.serveKept_keepsRoles _ s

theorem State.lookEvent_keepsRoles (s : State) (ev : LookCause) : s.keepsRoles (s.lookEvent ev) := by
  unfold State.lookEvent
  split
  · exact s.takeLookEvent_keepsRoles ev
  · split
    · exact .same rfl
    · exact .same

theorem State.abortGroup_keepsRoles (s : State) (extra : List Held) (code detail : Nat) (skip : Bool) :
    s.keepsRoles (s.abortGroup extra code detail skip) := by
  have hissued (r : Ring) (ts : List Transfer) : s.keepsRoles ((s.withRing r).issue (.control ringProcessor) ts) := .same rfl
  unfold State.abortGroup
  dsimp only
  exact (hissued _ _).trans (State.settleLooks_keepsRoles _)

theorem State.failBuild_keepsRoles (s : State) (k : Fin 16) (code : Nat) : s.keepsRoles (s.failBuild k code) := by
  have hdiscarded (b : Builder) : s.keepsRoles (s.withBuilder b) := .same rfl
  have habort := (hdiscarded _).trans (State.abortGroup_keepsRoles
    (s.withBuilder { s.builder with state := .idle, shadow := none, failed := satInc s.builder.failed }) []
    resTooComplex (k.val + 256 * code) false)
  unfold State.failBuild
  dsimp only
  split
  · exact habort
  · exact habort.then

theorem State.completeGroup_keepsRoles (s : State) : s.keepsRoles s.completeGroup := by
  have hwaits : s.keepsRoles (s.withRing { s.ring with state := .awaitingCommit }) := .same rfl
  unfold State.completeGroup
  dsimp only
  split
  · exact (hwaits.then (State.startBuild_sources _ _)).trans (State.settleLooks_keepsRoles _)
  · exact hwaits.trans (State.settleLooks_keepsRoles _)

theorem State.takeSlot_keepsRoles (s : State) (slot : List Byte) (check : Ring → Verdict) :
    s.keepsRoles (s.takeSlot slot check) := by
  have hring (r : Ring) : s.keepsRoles (s.withRing r) := .same rfl
  unfold State.takeSlot
  dsimp only
  split
  · exact (hring _).trans (State.abortGroup_keepsRoles _ _ _ _ _)
  · split
    · exact (hring _).trans (State.abortGroup_keepsRoles _ _ _ _ _)
    · split
      · exact (hring _).then (State.lookAtOnce_sources _)
      · exact (hring _).trans (State.completeGroup_keepsRoles _)

/-! ## The wall frame start (R92) -/

theorem State.frameAlone_keepsRoles (s : State) (setFirst lastTile : Bool) :
    s.keepsRoles (s.frameAlone setFirst lastTile) := by
  have hbegun : s.keepsRoles s.frameBegun := .of_channels rfl
  have hblocks : s.keepsRoles (s.frameBegun.blocksTakeFrame lastTile) := hbegun.then
  have hcleared : s.keepsRoles (s.frameBegun.clearWork.1.blocksTakeFrame lastTile) := hbegun.then
  show s.keepsRoles
    (if s.groupCommits then (s.frameBegun.blocksTakeFrame lastTile).commitGroup s.frameBegun.frameNo
     else if setFirst && s.awaitsFrame then
       (s.frameBegun.clearWork.1.blocksTakeFrame lastTile).commitWith s.frameBegun.frameNo s.frameBegun.clearWork.2
     else (s.frameBegun.blocksTakeFrame lastTile).ringFrame)
  split
  · exact hblocks.trans (State.commitGroup_keepsRoles _ _)
  split
  · exact hcleared.trans (State.commitWith_keepsRoles _ _ _)
  · exact hblocks.trans (State.lookEvent_keepsRoles _ _)

theorem State.frameChangeAfter_keepsRoles (s : State) (high : Groups) (lastTile : Bool) :
    s.keepsRoles (s.frameChangeAfter high lastTile) := by
  have hmoved : s.keepsRoles
      ((s.withAlarms (sampledAll s.alarms high)).raiseIf (someSettles s.alarms high) causeAlarmEvent) := .same
  have hframe := hmoved.trans (State.frameAlone_keepsRoles _ false lastTile)
  unfold State.frameChangeAfter
  dsimp only
  split
  · exact hframe
  · exact hframe.then

theorem State.frameChangeBefore_keepsRoles (s : State) (high : Groups) (lastTile : Bool) :
    s.keepsRoles (s.frameChangeBefore high lastTile) := by
  have hcleared : s.keepsRoles (if s.awaitsFrame then s.clearWork else (s, [])).1 := by
    split
    · exact .same
    · exact .same rfl
  unfold State.frameChangeBefore
  dsimp only
  generalize (if s.awaitsFrame then s.clearWork else (s, [])) = cleared at hcleared ⊢
  have hsampled : s.keepsRoles (cleared.1.sampleContacts high) := hcleared.then
  generalize cleared.1.sampleContacts high = sampled at hsampled ⊢
  have hbegun : s.keepsRoles (sampled.withFrameNo (s.frameNo + 1)).pushFrame := hsampled.trans (.of_channels rfl)
  have htaken : s.keepsRoles
      (((sampled.withFrameNo (s.frameNo + 1)).pushFrame.blocksTakeFrame lastTile).withAlarms cleared.1.alarms) :=
    hbegun.then
  generalize State.withAlarms _ cleared.1.alarms = t at htaken ⊢
  split
  · exact (s.frameAlone_keepsRoles true lastTile).then
  · split
    · exact (htaken.trans (State.commitWith_keepsRoles _ _ _)).then rfl
    · exact (htaken.trans (State.lookEvent_keepsRoles _ _)).then rfl

theorem State.frameAndInterval_keepsRoles (s : State) (order : FrameOrder) (x : TogetherInterval) :
    s.keepsRoles (s.frameAndInterval order x) := by
  have hsampled : s.keepsRoles (s.alarmTakes (.interval x.high)) := .same
  unfold State.frameAndInterval
  dsimp only
  split
  · split
    · exact hsampled.trans (State.frameAlone_keepsRoles _ _ _)
    · exact s.frameChangeAfter_keepsRoles _ _
  · split
    · exact s.frameChangeBefore_keepsRoles _ _
    · exact (s.frameAlone_keepsRoles _ _).then (State.alarmTakes_sources _ _)

theorem State.takeFrame_keepsRoles (s : State) (order : FrameOrder) : s.keepsRoles (s.takeFrame order) := by
  unfold State.takeFrame
  split
  · exact s.frameAlone_keepsRoles _ _
  · rename_i x _
    exact ((s.unitsTick_keepsRoles x.sourcesFirst x.inputsFirst).trans (State.frameAndInterval_keepsRoles _ order x)).trans
      (State.unitsTick_keepsRoles _ _ _)

/-! ## The grant and the part state (R94, R106) -/

theorem State.sourceGranted_keepsRoles (s : State) (x : Transfer) (bytes : List Byte) :
    s.keepsRoles (s.sourceGranted x bytes) := by
  unfold State.sourceGranted
  split
  · exact .of_channels rfl
  · exact .same rfl

theorem State.controlRead_keepsRoles (s : State) (k : Fin 5) (x : Transfer) (bytes : List Byte) :
    s.keepsRoles (s.controlRead k x bytes) := by
  unfold State.controlRead
  split
  · exact .same rfl
  split
  · exact .same
  split
  · exact s.sourceGranted_keepsRoles x bytes
  split
  · exact .same
  · exact .same rfl

/-- A header that has been read joins those to be judged; no other grant reaches the source unit. -/
theorem State.grant_keepsRoles (s : State) (r : Requester) : s.keepsRoles (s.grant r) := by
  unfold State.grant
  split
  · exact .same rfl
  · rename_i x rest _
    have hcarried : s.keepsRoles ((s.withPort (s.port.granted r)).withMem (x.applied s.mem)) := .same rfl
    refine hcarried.trans ?_
    unfold State.respond
    split
    · exact .same
    · exact .same
    · split
      · exact State.controlRead_keepsRoles _ _ _ _
      · exact .same rfl
      · exact .same rfl

/-- Every source ends without a role, and not enabled. -/
theorem State.keepsRoles.of_unused {s t : State}
    (h : ∀ src, (t.channel src).desc.enable = false ∧ (t.channel src).roles = Vector.replicate 3 none) : s.keepsRoles t :=
  ⟨fun src _ => .unused (h src).1 (h src).2⟩

theorem Source.rolesLegal.loaded (src : Fin 32) (d : Descriptor) : (Source.loaded src d).rolesLegal src := by
  unfold Source.loaded
  split
  · exact .initial ‹_›
  · exact .unused (by simpa using ‹¬ d.enable = true›) rfl

theorem State.loadPassed_keepsRoles (s : State) : s.keepsRoles s.loadPassed := by
  refine ⟨fun src _ => ?_⟩
  have hchannel : s.loadPassed.channel src =
      Source.loaded src (configDescriptor s.control.loadBytes src.val) := by
    unfold State.loadPassed
    rw [State.channel, State.raise_sources]
    exact Vector.getElem_ofFn src.isLt
  rw [hchannel]
  exact .loaded src _

/-! ## Every command -/

/-- A command that keeps legal roles legal. -/
def State.rolesAfter (s : State) (o : Host.Outcome State Fault Refusal) : Prop :=
  ∀ t, o = .next t → s.keepsRoles t

section
variable {s t : State} {p : Prop} [Decidable p]

theorem State.keepsRoles.next (h : s.keepsRoles t) : s.rolesAfter (.next t) := by
  rintro _ ⟨⟩
  exact h

/-- A command that leaves the source unit alone. -/
theorem State.rolesAfter.apart (h : t.sources = s.sources := by simp) : s.rolesAfter (.next t) :=
  State.keepsRoles.next (.same h)

theorem State.rolesAfter.idle : s.rolesAfter (.next s) := .apart rfl

theorem State.rolesAfter.fault (r : Fault) : s.rolesAfter (.fault r) := fun _ h => nomatch h

/-- A command that unloads the source unit (R106). -/
theorem State.rolesAfter.unloads (h : t.sources = s.sources.unloaded) : s.rolesAfter (.next t) := by
  refine State.keepsRoles.next (.of_unused fun src => ?_)
  rw [State.channel, h, SourceUnit.unloaded, mapBank_get]
  exact ⟨rfl, rfl⟩

theorem State.rolesAfter.resets (h : t.sources = State.reset.sources) : s.rolesAfter (.next t) := by
  refine State.keepsRoles.next (.of_unused fun src => ?_)
  have hchannel : t.channel src = Source.unloaded := by
    rw [State.channel, h]
    exact Vector.getElem_replicate src.isLt
  rw [hchannel]
  exact ⟨rfl, rfl⟩

theorem State.rolesAfter.ite {a b : Host.Outcome State Fault Refusal} (ha : p → s.rolesAfter a) (hb : s.rolesAfter b) :
    s.rolesAfter (if p then a else b) := by
  split
  · exact ha ‹_›
  · exact hb

theorem State.rolesAfter.nextIte {u : State} (ha : p → s.rolesAfter (.next t)) (hb : s.rolesAfter (.next u)) :
    s.rolesAfter (.next (if p then t else u)) := by
  split
  · exact ha ‹_›
  · exact hb

end

theorem State.takeKind_rolesAfter (s : State) (kind : Nat) (check : List Byte → Ring → Verdict) :
    s.rolesAfter (.next (s.takeKind kind check)) := by
  unfold State.takeKind
  split
  · exact (s.takeSlot_keepsRoles _ _).next
  · exact .idle

theorem execTakeScene_rolesAfter (s : State) : s.rolesAfter (execTakeScene s) := by
  unfold execTakeScene
  split
  · exact .nextIte (fun _ => (s.takeSlot_keepsRoles _ _).next) .idle
  · exact .nextIte (fun _ => .idle) (s.takeKind_rolesAfter _ _)
  all_goals exact .idle

theorem execBadKind_rolesAfter (s : State) : s.rolesAfter (execBadKind s) := by
  unfold execBadKind
  split
  · exact .nextIte (fun _ => (s.takeSlot_keepsRoles _ _).next) .idle
  all_goals exact .idle

theorem execSlotNotPosted_rolesAfter (s : State) : s.rolesAfter (execSlotNotPosted s) := by
  unfold execSlotNotPosted
  split
  · exact .idle
  · dsimp only
    generalize (if s.countsWait _ = true then s.ring.wait + 1 else s.ring.wait) = wait
    have hended : s.keepsRoles (s.withRing { s.ring with wait := wait, look := .none }) := .same rfl
    exact .ite (fun _ => .apart rfl) (hended.trans (State.settleLooks_keepsRoles _)).next

theorem execSkippedSlot_rolesAfter (s : State) : s.rolesAfter (execSkippedSlot s) := by
  unfold execSkippedSlot
  split
  · exact .idle
  · exact .apart

theorem execWriteBackDone_rolesAfter (s : State) : s.rolesAfter (execWriteBackDone s) := by
  unfold execWriteBackDone
  split
  · exact .nextIte (fun _ => .apart) .idle
  · exact .idle

theorem execAbortReturnDone_rolesAfter (s : State) : s.rolesAfter (execAbortReturnDone s) := by
  unfold execAbortReturnDone
  split
  · exact .idle
  · exact .nextIte (fun _ => .apart) .idle

theorem exec_rolesAfter (c : Instr) (s : State) : s.rolesAfter (exec c s) := by
  cases c with
  | powerOnReset dram => exact .resets rfl
  | resetPin cut => exact .resets rfl
  | pcieLinkReset lost => exact .apart rfl
  | load start =>
    rw [exec_load]
    exact .nextIte (fun _ => .unloads rfl) .apart
  | start =>
    rw [exec_start]
    exact .nextIte (fun _ => .apart) .apart
  | stop load start => exact .unloads rfl
  | loadEnd =>
    rcases exec_loadEnd_cases s with h | ⟨-, h | ⟨code, index, h⟩⟩ <;> rw [h]
    · exact .idle
    · exact s.loadPassed_keepsRoles.next
    · exact .apart
  | heldStart =>
    rw [exec_heldStart]
    exact .nextIte (fun _ => .apart) .idle
  | causeClear w => exact .apart rfl
  | causeEnableWrite w => exact .apart rfl
  | areaBaseWrite w => exact .nextIte (fun _ => .apart rfl) .apart
  | attend w => exact .nextIte (fun _ => (s.lookEvent_keepsRoles _).next) .apart
  | resetReasonClear w => exact .apart rfl
  | ignoredRegisterWrite offset w => exact .idle
  | bar2Access op =>
    cases op with
    | read addr len => exact .ite (fun _ => .fault _) (.apart rfl)
    | write addr data => exact .ite (fun _ => .fault _) (.apart rfl)
  | transferGrant =>
    rw [exec_transferGrant]
    cases s.port.choose with
    | none => exact .idle
    | some r => exact (s.grant_keepsRoles r).next
  | wallFrameStart order => exact .nextIte (fun _ => (s.takeFrame_keepsRoles order).next) .idle
  | millisecondInterval high =>
    have hsampled : s.keepsRoles (s.alarmTakes (.interval high)) := .same
    exact .ite (fun _ => (hsampled.trans (State.unitsTick_keepsRoles _ _ _)).next) .idle
  | debouncedAssert i => exact .nextIte (fun _ => .apart) .idle
  | debouncedRelease i => exact .nextIte (fun _ => .apart) .idle
  | lossOfSignal c => exact .ite (fun _ => .apart) .idle
  | staleLimitReached src => exact .ite (fun _ => (s.finishSource_keepsRoles src).next) .idle
  | expiry src => exact .ite (fun _ => (s.finishSource_keepsRoles src).next) .idle
  | memoryHeaderRead m =>
    have hsrc : isCapture (memorySource m) = false := by simp [isCapture, memorySource]
    show s.rolesAfter (execMemoryHeaderRead m s)
    unfold execMemoryHeaderRead
    split
    · exact (s.headerJudged_keepsRoles hsrc _).next
    · exact .idle
  | lineStart t => exact .apart
  | rowComposed t => exact .apart
  | frameStartMark c => exact .ite (fun _ => (s.frameStartMark_keepsRoles c).next) .idle
  | captureLock c => exact .ite (fun _ => (s.frameStartMark_keepsRoles c).next) .idle
  | congestionHalved c => exact .ite (fun _ => (s.frameStartMark_keepsRoles c).next) .idle
  | congestionNormal c => exact .ite (fun _ => (s.frameStartMark_keepsRoles c).next) .idle
  | lineStartMark c => exact .ite (fun _ => .apart) .idle
  | pixel c p => exact .ite (fun _ => .apart) .idle
  | goodFrameReport c => exact .ite (fun _ => .apart) .idle
  | capturePublication c =>
    show s.rolesAfter (execCapturePublication c s)
    unfold execCapturePublication
    split
    · exact .nextIte (fun h => (State.publishCapture_keepsRoles h _ _).next) .idle
    · exact .idle
  | tileBuilt =>
    rcases exec_tileBuilt_cases s with h | ⟨kind, shadow, t, table, h⟩ | ⟨t, code, h⟩ <;> rw [h]
    · exact .idle
    · exact .apart rfl
    · exact (s.failBuild_keepsRoles t code).next
  | nop => exact s.takeKind_rolesAfter _ _
  | takeScene => exact execTakeScene_rolesAfter s
  | putWindow => exact s.takeKind_rolesAfter _ _
  | removeWindow => exact s.takeKind_rolesAfter _ _
  | restack => exact s.takeKind_rolesAfter _ _
  | saveScene => exact s.takeKind_rolesAfter _ _
  | freeze => exact s.takeKind_rolesAfter _ _
  | clearAlarm => exact s.takeKind_rolesAfter _ _
  | sourceConfig => exact s.takeKind_rolesAfter _ _
  | clearWall => exact s.takeKind_rolesAfter _ _
  | badKind => exact execBadKind_rolesAfter s
  | slotNotPosted => exact execSlotNotPosted_rolesAfter s
  | skippedSlot => exact execSkippedSlot_rolesAfter s
  | chainTimeout => exact .ite (fun _ => (s.abortGroup_keepsRoles _ _ _ _).next) .idle
  | skipTimeout =>
    have hended : s.keepsRoles (s.withRing { s.ring with state := .idle, look := .none }) := .same rfl
    exact .ite (fun _ => (hended.trans (State.settleLooks_keepsRoles _)).next) .idle
  | writeBackDone => exact execWriteBackDone_rolesAfter s
  | abortReturnDone => exact execAbortReturnDone_rolesAfter s

/-- Settles O4: the source unit's work moves roles by exchange, refill, release and reveal, a configuration or a load sets
up the initial roles, and every other command leaves the channels alone. -/
theorem sourceRolesStayLegal : Obligations.SourceRolesStayLegal := by
  intro s t hs h
  rcases step_cases h with rfl | ⟨c, rest, -, he⟩
  · exact hs
  · exact fun src => (exec_rolesAfter c (s.withPending rest) t he).legal src (hs src)

end Sys2Proof.Machine
end

section
/-! A channel's work in the terms of the rules: promotion, expiry, presentation, the judgement of a header, age, and what a
page reports (R92 to R98, R100 to R102, R107). -/

namespace Sys2Proof.Machine

open Sys2Proof

/-! ## Step 1: what a group commits (R100 to R102) -/

theorem isCapture_iff (src : Fin 32) : isCapture src = true ↔ src.val < 16 := decide_eq_true_iff

theorem Source.commit_nil (src : Fin 32) (c : Source) : c.commit src [] = { c with before := c.presentation } := rfl

theorem Source.commit_append (src : Fin 32) (c : Source) (items : List SourceItem) (item : SourceItem) :
    c.commit src (items ++ [item]) = Source.applyItem src (c.commit src items) item := by
  rw [Source.commit, List.foldl_append]
  rfl

/-- The initial state of R88, the presentation of the wall frame before kept. -/
theorem Source.restarted_eq (src : Fin 32) (d : Descriptor) (c : Source) :
    { Source.initial src d with before := c.before } = c.restarted src d := by
  unfold Source.initial Source.restarted initialRoles isCapture
  simp only [decide_eq_true_eq]
  rfl

theorem Source.disabled_eq (d : Descriptor) (c : Source) : c.disabled d = c.switchedOff d := rfl

/-- A configuration as it acts on a source (R101, R102). -/
theorem Source.applyItem_config (src q : Fin 32) (d : Descriptor) (c : Source) :
    Source.applyItem src c (.config q d) =
      if q = src then (if d.enable then c.restarted src d else c.switchedOff d) else c := by
  rw [Source.applyItem, Source.restarted_eq, Source.disabled_eq]

/-- A freeze as it acts on a source (R100). -/
theorem Source.applyItem_freeze (src q : Fin 32) (on : Bool) (c : Source) :
    Source.applyItem src c (.freeze q on) = if q = src ∧ c.desc.enable = true then { c with frozen := on } else c := by
  simp only [Source.applyItem, Bool.and_eq_true, decide_eq_true_eq]

theorem Source.applyItem_before (src : Fin 32) (c : Source) (item : SourceItem) :
    (Source.applyItem src c item).before = c.before := by
  cases item with
  | config q d =>
    rw [Source.applyItem_config]
    split
    · split <;> rfl
    · rfl
  | freeze q on =>
    rw [Source.applyItem_freeze]
    split <;> rfl

/-- R97 compares with the presentation before step 1, whatever commits. -/
theorem Source.commit_before (src : Fin 32) (c : Source) (items : List SourceItem) :
    (c.commit src items).before = c.presentation := by
  induction items using List.reverseRecOn with
  | nil => rfl
  | append_singleton items item ih => rw [Source.commit_append, Source.applyItem_before, ih]

/-! ## Age (R98) -/

theorem Source.older_older (c : Source) (m n : Nat) : (c.older m).older n = c.older (m + n) := by
  by_cases h : c.desc.enable = true ∧ (∃ k : Fin 3, c.roles[k] = some .shown) ∧ c.frozen = false
  · simp only [Source.older, if_pos h]
    congr 1
    omega
  · simp only [Source.older, if_neg h]

theorem Source.agedBy_eq_older (c : Source) (n : Nat) : c.agedBy n = c.older n := by
  induction n with
  | zero =>
    unfold Source.agedBy Source.older
    split
    · rw [Nat.add_zero, Nat.max_eq_left (Nat.min_le_right _ _)]
    · rfl
  | succ n ih => rw [Source.agedBy, ih, Source.aged_eq_older, Source.older_older]

/-- Growing older changes the age alone. -/
theorem Source.older_presentation (c : Source) (n : Nat) : (c.older n).presentation = c.presentation := by
  unfold Source.older
  split <;> rfl

/-! ## Presentation (R97) -/

theorem Source.judged_off {c : Source} (he : c.desc.enable = false) : c.judged = .none := by
  simp [Source.judged, he]

theorem Source.judged_on {c : Source} (he : c.desc.enable = true) :
    c.judged =
      if ∀ k : Fin 3, c.roles[k] ≠ some .shown then .none
      else if c.desc.staleLimit ≠ 0 ∧ c.desc.staleLimit ≤ c.age then .stale
      else .fresh := by
  unfold Source.judged
  simp only [he, Bool.not_true, Bool.false_or, Option.isNone_iff_eq_none, Source.slotWith_eq_none]

/-- A frame on view that has just come is FRESH, whatever the stale limit. -/
theorem Source.judged_fresh {c : Source} {k : Fin 3} (he : c.desc.enable = true) (hk : c.roles[k] = some .shown)
    (ha : c.age = 0) : c.judged = .fresh := by
  rw [Source.judged_on he, if_neg fun h => h k hk, if_neg fun h => h.1 (Nat.le_zero.mp (ha ▸ h.2))]

/-! ## Expiry (R96) -/

theorem Source.expires_iff (c : Source) :
    c.expires = true ↔
      (∃ k : Fin 3, c.roles[k] = some .shown) ∧ c.desc.expiryLimit ≠ 0 ∧ c.desc.expiryLimit ≤ c.age := by
  simp only [Source.expires, Bool.and_eq_true, Source.slotWith_isSome, bne_iff_ne, decide_eq_true_eq, and_assoc]

theorem Source.release_roles {c : Source} (h : c.slotsHolding .shown ≤ 1) :
    (c.setRoleOpt (c.slotWith .shown) .spare).roles =
      mapBank c.roles fun _ r => if r = some .shown then some .spare else r := by
  refine bank_ext fun k => ?_
  rw [mapBank_get]
  cases hshown : c.slotWith .shown with
  | none => rw [if_neg (Source.slotWith_eq_none.mp hshown k), Source.setRoleOpt_none]
  | some i => simp only [Source.setRoleOpt_some, Source.setRole_get, Source.holds_iff h hshown k]

/-- A role given to a slot changes the roles alone. -/
theorem Source.setRoleOpt_eq (c : Source) (i : Option (Fin 3)) (r : Role) :
    c.setRoleOpt i r = { c with roles := (c.setRoleOpt i r).roles } := by
  cases i <;> rfl

theorem Source.expire_eq {c : Source} (h : c.slotsHolding .shown ≤ 1) :
    c.expire =
      { c with
        roles := mapBank c.roles fun _ r => if r = some .shown then some .spare else r
        age := 0, expired := satInc c.expired, shownW := 0, shownH := 0 } := by
  unfold Source.expire
  rw [Source.setRoleOpt_eq, Source.release_roles h]

/-- Steps 3 and 4 of R92 for an enabled source that promotes nothing. -/
theorem Source.finish_eq_settled {src : Fin 32} {c : Source} (h : c.rolesLegal src) (he : c.desc.enable = true) :
    c.finish = c.settled := by
  obtain ⟨-, -, hone, -⟩ := (Source.rolesLegal_on he).mp h
  unfold Source.finish Source.settled
  by_cases hx : c.expires = true
  · have hgone : c.expire.judged = .none := by
      rw [Source.judged_on (c := c.expire) (by simpa [Source.expire] using he), if_pos]
      exact Source.slotWith_eq_none.mp (Source.slotsHolding_eq_zero.mp h.release.2)
    rw [if_pos hx, if_pos (c.expires_iff.mp hx), Source.decide, hgone, Source.expire_eq hone]
    rfl
  · rw [if_neg hx, if_neg (mt c.expires_iff.mpr hx), Source.decide, Source.judged_on he]

/-! ## Promotion and publication (R93, R95) -/

theorem Source.promote_roles {src : Fin 32} {c : Source} {i : Fin 3} (h : c.rolesLegal src) (hc : isCapture src = true)
    (hready : c.slotWith .ready = some i) :
    c.promote.roles =
      mapBank c.roles fun _ r => if r = some .ready then some .shown else if r = some .shown then some .spare else r := by
  have he := h.enabled (Source.slotWith_holds hready)
  obtain ⟨-, -, hone, honce⟩ := (Source.rolesLegal_on he).mp h
  rw [if_pos hc] at honce
  refine bank_ext fun k => ?_
  have hroles : c.promote.roles = ((c.setRoleOpt (c.slotWith .shown) .spare).setRole i .shown).roles := by
    simp only [Source.promote, hready, Source.setRoleOpt_some]
  rw [hroles, Source.setRole_get, Source.release_roles hone, mapBank_get, mapBank_get]
  simp only [Source.holds_iff honce hready k]

theorem Source.promote_eq (c : Source) :
    c.promote =
      { c with
        roles := c.promote.roles, shownW := c.readyW, shownH := c.readyH, age := 0, published := satInc c.published } := by
  unfold Source.promote
  cases c.slotWith .shown <;> cases c.slotWith .ready <;> rfl

/-- Promotion, and the presentation after it: a frame that has just been shown is FRESH. -/
theorem Source.promote_decide {src : Fin 32} {c : Source} {i : Fin 3} (h : c.rolesLegal src) (hc : isCapture src = true)
    (hready : c.slotWith .ready = some i) :
    c.promote.decide =
      { c with
        roles := mapBank c.roles fun _ r =>
          if r = some .ready then some .shown else if r = some .shown then some .spare else r
        shownW := c.readyW, shownH := c.readyH, age := 0, presentation := .fresh
        published := if c.published = 0xFFFFFFFF then c.published else c.published + 1 } := by
  have hi := Source.slotWith_holds hready
  have hroles := Source.promote_roles h hc hready
  have hshown : c.promote.roles[i] = some .shown := by
    rw [hroles, mapBank_get, if_pos hi]
  have he : c.promote.desc.enable = true := by
    rw [Source.promote_eq]
    exact h.enabled hi
  rw [Source.decide, Source.judged_fresh he hshown rfl, Source.promote_eq, hroles]
  rfl

/-- A memory source shows the slot it has read, and fills the one it has shown, or else its SPARE one. -/
theorem Source.publishMemory_setRole {src : Fin 32} {c : Source} (h : c.rolesLegal src) (hc : isCapture src = false)
    (he : c.desc.enable = true) (w d : Nat) :
    ∃ i j, (c.publishMemory w d).roles = ((c.setRole i .shown).setRole j .filling).roles ∧
      (∀ k, c.roles[k] = some .filling ↔ k = i) ∧
      ∀ k, c.roles[k] = some .shown ∨ (c.roles[k] = some .spare ∧ ∀ l : Fin 3, c.roles[l] ≠ some .shown) ↔ k = j := by
  obtain ⟨hused, hfilling, hone, -⟩ := (Source.rolesLegal_on he).mp h
  obtain ⟨i, hi⟩ := h.filling he
  have htotal := hused.total
  rw [if_neg (by simp [hc])] at htotal
  cases hshown : c.slotWith .shown with
  | some j =>
    refine ⟨i, j, by simp [Source.publishMemory, hshown, hi], Source.holds_iff hfilling.le hi, fun k => ?_⟩
    have hany : ¬ ∀ l : Fin 3, c.roles[l] ≠ some .shown := fun hn => hn j (Source.slotWith_holds hshown)
    simp only [hany, and_false, or_false, Source.holds_iff hone hshown k]
  | none =>
    obtain ⟨j, hspare⟩ := h.spare he (by simp [hc, hshown])
    have hnone := Source.slotWith_eq_none.mp hshown
    have hsingle : c.slotsHolding .spare ≤ 1 := by omega
    refine ⟨i, j, by simp [Source.publishMemory, hshown, hi, hspare], Source.holds_iff hfilling.le hi, fun k => ?_⟩
    simp only [hnone k, false_or, Source.holds_iff hsingle hspare k, and_iff_left_iff_imp]
    exact fun _ => hnone

theorem Source.publishMemory_roles {src : Fin 32} {c : Source} (h : c.rolesLegal src) (hc : isCapture src = false)
    (he : c.desc.enable = true) (w d : Nat) :
    (c.publishMemory w d).roles =
      mapBank c.roles fun _ r =>
        if r = some .filling then some .shown
        else if r = some .shown then some .filling
        else if r = some .spare ∧ ∀ j : Fin 3, c.roles[j] ≠ some .shown then some .filling
        else r := by
  obtain ⟨i, j, hroles, hi, hj⟩ := Source.publishMemory_setRole h hc he w d
  refine bank_ext fun k => ?_
  rw [hroles, Source.setRole_get, Source.setRole_get, mapBank_get]
  by_cases hk : k = j
  · rw [if_pos hk]
    rcases (hj k).mpr hk with hshown | ⟨hspare, hnone⟩
    · rw [hshown, if_neg (by decide), if_pos rfl]
    · rw [hspare, if_neg (by decide), if_neg (by decide), if_pos ⟨rfl, hnone⟩]
  · obtain ⟨hshown, hspare⟩ := not_or.mp (mt (hj k).mp hk)
    simp only [if_neg hk, if_neg hshown, if_neg hspare, hi k]

theorem Source.publishMemory_eq (c : Source) (w d : Nat) :
    c.publishMemory w d =
      { c with
        roles := (c.publishMemory w d).roles, shownW := w, shownH := d, age := 0, published := satInc c.published
        expected := c.expected + 1 } := by
  unfold Source.publishMemory
  cases c.slotWith .filling <;> cases c.slotWith .shown <;> cases c.slotWith .spare <;> rfl

/-- Publication of a memory source, and the presentation after it: a picture that has just been shown is FRESH. -/
theorem Source.publishMemory_decide {src : Fin 32} {c : Source} (h : c.rolesLegal src) (hc : isCapture src = false)
    (he : c.desc.enable = true) (w d : Nat) :
    (c.publishMemory w d).decide =
      { c with
        roles := mapBank c.roles fun _ r =>
          if r = some .filling then some .shown
          else if r = some .shown then some .filling
          else if r = some .spare ∧ ∀ j : Fin 3, c.roles[j] ≠ some .shown then some .filling
          else r
        shownW := w, shownH := d, age := 0, presentation := .fresh
        published := if c.published = 0xFFFFFFFF then c.published else c.published + 1
        expected := c.expected + 1 } := by
  have hroles := Source.publishMemory_roles h hc he w d
  obtain ⟨i, hi⟩ := h.filling he
  have hshown : (c.publishMemory w d).roles[i] = some .shown := by
    rw [hroles, mapBank_get, if_pos (Source.slotWith_holds hi)]
  have he' : (c.publishMemory w d).desc.enable = true := by
    rw [Source.publishMemory_eq]
    exact he
  rw [Source.decide, Source.judged_fresh he' hshown rfl, Source.publishMemory_eq, hroles]
  rfl

/-! ## Steps 2 to 4 of a source whose header is not read (R92) -/

theorem Source.readsHeader_iff (src : Fin 32) (c : Source) :
    c.readsHeader src = true ↔ c.desc.enable = true ∧ 16 ≤ src.val ∧ c.frozen = false := by
  simp only [Source.readsHeader, isCapture, Bool.and_eq_true, Bool.not_eq_true', decide_eq_false_iff_not, Nat.not_lt,
    and_assoc]

/-- Step 2 promotes a frame of the source. -/
def Source.promotes (src : Fin 32) (c : Source) : Prop :=
  c.desc.enable = true ∧ src.val < 16 ∧ c.frozen = false ∧ ∃ k : Fin 3, c.roles[k] = some .ready

theorem Source.promotes_iff {src : Fin 32} {c : Source} (he : c.desc.enable = true) :
    (isCapture src && c.promotable) = true ↔ c.promotes src := by
  simp only [Source.promotes, Source.promotable, Bool.and_eq_true, isCapture_iff, Bool.not_eq_true', Source.slotWith_isSome,
    he, true_and]

theorem Source.frame_off {src : Fin 32} {c : Source} (he : c.desc.enable = false) :
    c.frame src = { c with presentation := .none } := by
  rw [Source.frame, if_neg (by simp [he]), Source.decide, Source.judged_off he]

theorem Source.frame_promotes {src : Fin 32} {c : Source} (h : c.promotes src) : c.frame src = c.promote.decide := by
  rw [Source.frame, if_pos h.1, if_pos ((Source.promotes_iff h.1).mpr h)]

theorem Source.frame_finishes {src : Fin 32} {c : Source} (he : c.desc.enable = true) (h : ¬ c.promotes src) :
    c.frame src = c.finish := by
  rw [Source.frame, if_pos he, if_neg (mt (Source.promotes_iff he).mp h)]

/-- A promoted frame has just been shown. -/
theorem Source.promotes.frame {src : Fin 32} {c : Source} (h : c.rolesLegal src) (hp : c.promotes src) :
    c.frame src =
      { c with
        roles := mapBank c.roles fun _ r =>
          if r = some .ready then some .shown else if r = some .shown then some .spare else r
        shownW := c.readyW, shownH := c.readyH, age := 0, presentation := .fresh
        published := if c.published = 0xFFFFFFFF then c.published else c.published + 1 } := by
  rw [Source.frame_promotes hp]
  obtain ⟨-, hsrc, -, hready⟩ := hp
  obtain ⟨i, hi⟩ := Option.isSome_iff_exists.mp ((c.slotWith_isSome .ready).mpr hready)
  exact Source.promote_decide h ((isCapture_iff src).mpr hsrc) hi

theorem Source.finish_before (c : Source) : c.finish.before = c.before := by
  have hexpire : c.expire.before = c.before := by
    unfold Source.expire
    rw [Source.setRoleOpt_eq]
  unfold Source.finish
  split
  · exact hexpire
  · rfl

/-- Whether steps 3 and 4 set SOURCE_EVENT (R96, R97). -/
theorem Source.finishEvent_iff (c : Source) :
    c.finishEvent = true ↔ c.finish.presentation ≠ c.before ∨ c.expires = true := by
  rw [Source.finishEvent, Bool.or_eq_true, or_comm, Source.presentationMoved, bne_iff_ne, Source.finish_before]

theorem Source.frameEvent_iff (src : Fin 32) (c : Source) :
    c.frameEvent src = true ↔
      (c.frame src).presentation ≠ c.before ∨ c.desc.enable = true ∧ ¬ c.promotes src ∧ c.expires = true := by
  unfold Source.frameEvent
  by_cases he : c.desc.enable = true
  · by_cases hp : c.promotes src
    · have hbefore : c.promote.decide.before = c.before := by
        rw [Source.decide, Source.promote_eq]
      rw [if_pos he, if_pos ((Source.promotes_iff he).mpr hp), Source.frame_promotes hp, Source.presentationMoved,
        bne_iff_ne, hbefore]
      simp only [hp, not_true, false_and, and_false, or_false]
    · rw [if_pos he, if_neg (mt (Source.promotes_iff he).mp hp), Source.frame_finishes he hp, Source.finishEvent_iff]
      simp only [he, hp, not_false_iff, true_and]
  · rw [if_neg he, Source.frame, if_neg he, Source.presentationMoved, bne_iff_ne]
    simp only [he, Bool.false_eq_true, false_and, or_false, Source.decide]

/-! ## The judgement of a header (R95) -/

theorem Source.goodHeader_iff (c : Source) (w d : Nat) :
    c.goodHeader w d = true ↔
      (1 ≤ w ∧ w ≤ 4096) ∧ (1 ≤ d ∧ d ≤ 2400) ∧ 16 + w * d * 4 ≤ c.desc.size * 4096 := by
  simp only [Source.goodHeader, Bool.and_eq_true, decide_eq_true_eq, and_assoc]
  rfl

/-- The header is one to show: it has the expected tag, and a good width and height. -/
def Source.accepts (c : Source) (header : List Byte) : Prop :=
  headerTag header = c.expected ∧ c.goodHeader (headerWidth header) (headerHeight header) = true

/-- The header uses the tag up: it has the expected tag, and a bad width or height. -/
def Source.rejects (c : Source) (header : List Byte) : Prop :=
  headerTag header = c.expected ∧ ¬ c.goodHeader (headerWidth header) (headerHeight header) = true

theorem Source.judgeHeader_accepts {c : Source} {header : List Byte} (h : c.accepts header) :
    c.judgeHeader header = (c.publishMemory (headerWidth header) (headerHeight header)).decide := by
  rw [Source.judgeHeader, if_pos h.1, if_pos h.2]

theorem Source.judgeHeader_rejects {c : Source} {header : List Byte} (h : c.rejects header) :
    c.judgeHeader header = c.useUpTag.finish := by
  rw [Source.judgeHeader, if_pos h.1, if_neg h.2]

theorem Source.judgeHeader_ignores {c : Source} {header : List Byte} (h : headerTag header ≠ c.expected) :
    c.judgeHeader header = c.finish := by
  rw [Source.judgeHeader, if_neg h]

/-- Whether the judgement sets SOURCE_EVENT (R95 to R97, R105). -/
theorem Source.judgeEvent_iff (c : Source) (header : List Byte) :
    c.judgeEvent header = true ↔
      c.rejects header ∨ (c.judgeHeader header).presentation ≠ c.before ∨ ¬ c.accepts header ∧ c.expires = true := by
  unfold Source.judgeEvent
  by_cases ht : headerTag header = c.expected
  · by_cases hg : c.goodHeader (headerWidth header) (headerHeight header) = true
    · have ha : c.accepts header := ⟨ht, hg⟩
      have hbefore : (c.publishMemory (headerWidth header) (headerHeight header)).decide.before = c.before := by
        rw [Source.decide, Source.publishMemory_eq]
      have hr : ¬ c.rejects header := fun hr => hr.2 hg
      rw [if_pos ht, if_pos hg, Source.judgeHeader_accepts ha, Source.presentationMoved, bne_iff_ne, hbefore]
      simp only [ha, hr, not_true, false_and, or_false, false_or]
    · have hr : c.rejects header := ⟨ht, hg⟩
      rw [if_pos ht, if_neg hg]
      simp only [hr, true_or]
  · have hr : ¬ c.rejects header := fun hr => ht hr.1
    have ha : ¬ c.accepts header := fun ha => ht ha.1
    rw [if_neg ht, Source.judgeHeader_ignores ht, Source.finishEvent_iff]
    simp only [hr, ha, not_false_iff, true_and, false_or]

/-! ## What a page reports of a source (R107) -/

theorem State.sourceEntry_eq (s : State) (src : Fin 32) :
    s.sourceEntry src = reportedEntry src (s.channel src) s.status.inputs[captureOf src] := by
  unfold State.sourceEntry reportedEntry
  by_cases he : (s.channel src).desc.enable = true
  · by_cases hc : src.val < 16
    · simp [he, hc, isCapture, Nat.not_le.mpr hc, SourceEntry.blank]
    · simp [he, hc, isCapture, Nat.not_lt.mp hc, SourceEntry.blank]
  · simp [he, SourceEntry.blank]

end Sys2Proof.Machine
end

section
/-! The source unit takes a wall frame start, and what commits there acts on the capture inputs (R92 to R98, R101, R121). -/

namespace Sys2Proof.Machine

open Sys2Proof

/-! ## What commits, and the inputs it resets (R101, R121) -/

theorem SourceItem.configures_iff (src : Fin 32) (item : SourceItem) :
    item.configures src = true ↔ ∃ d, item = .config src d := by
  cases item with
  | config q d =>
    simp only [SourceItem.configures, beq_iff_eq, SourceItem.config.injEq]
    exact ⟨fun h => ⟨d, h, rfl⟩, fun ⟨_, h, _⟩ => h⟩
  | freeze q on => simp [SourceItem.configures]

theorem resetsInput_iff (items : List SourceItem) (k : Fin 16) :
    items.any (SourceItem.configures (captureSource k)) = true ↔ resetsInput items k := by
  simp only [List.any_eq_true, SourceItem.configures_iff, resetsInput]
  exact ⟨fun ⟨_, hm, d, hd⟩ => ⟨d, hd ▸ hm⟩, fun ⟨d, hm⟩ => ⟨_, hm, d, rfl⟩⟩

theorem resetEvent_iff (inputs : Vector CaptureInput 16) (items : List SourceItem) :
    resetEvent inputs items = true ↔ ∃ k : Fin 16, resetsInput items k ∧ (inputs[k]).state ≠ .noSignal := by
  simp only [resetEvent, anyBank_eq_true, Bool.and_eq_true, resetsInput_iff, bne_iff_ne]

/-- SOURCE_EVENT is set, or stays as it was. -/
theorem State.raiseIf_sourceEvent (s : State) (b : Bool) :
    (s.raiseIf b causeSourceEvent).link.cause.getLsbD 3 = true ↔ s.link.cause.getLsbD 3 = true ∨ b = true := by
  cases b with
  | true =>
    have hbit : causeSourceEvent.getLsbD 3 = true := rfl
    rw [State.raiseIf, if_pos rfl, State.raise_cause, BitVec.getLsbD_or, hbit, Bool.or_true]
    simp only [or_true]
  | false => simp only [State.raiseIf, Bool.false_eq_true, if_false, or_false]

/-! ## The parts of the source unit's work -/

/-- The state in which the channels do their work: what commits has acted. -/
def State.afterCommit (s : State) (items : List SourceItem) : State :=
  ((s.commitSources items).statusResetInputs items).raiseIf (resetEvent s.inputs items) causeSourceEvent

/-- The state in which the millisecond intervals reach the channels: they have done their work, and stand so in the copy. -/
def State.afterChannels (s : State) : State :=
  (s.frameSources.raiseIf s.frameSourcesEvent causeSourceEvent).statusTakeSources fun src =>
    !(s.channel src).readsHeader src

theorem State.sourceStart_eq (s : State) (f : SourceFrame) :
    s.sourceStart f =
      (s.afterCommit f.items).afterChannels.withSources
        ((s.afterCommit f.items).afterChannels.sources.intervals f.after) := rfl

theorem State.afterCommit_channel (s : State) (items : List SourceItem) (src : Fin 32) :
    (s.afterCommit items).channel src = (s.channel src).commit src items := by
  rw [State.afterCommit, State.channel, State.raiseIf_sources, State.statusResetInputs_sources]
  exact s.commitSources_channel items src

/-- A bank of the capture inputs in which the entries of those that are reset change. -/
theorem resetBank_get {α : Type} (v : Vector α 16) (items : List SourceItem) (f : α → α) (k : Fin 16) :
    let w := mapBank v fun c x => if items.any (SourceItem.configures (captureSource c)) then f x else x
    (resetsInput items k → w[k] = f v[k]) ∧ (¬ resetsInput items k → w[k] = v[k]) := by
  dsimp only
  rw [mapBank_get]
  exact ⟨fun h => if_pos ((resetsInput_iff items k).mpr h), fun h => if_neg (mt (resetsInput_iff items k).mp h)⟩

theorem State.afterCommit_inputs (s : State) (items : List SourceItem) :
    (s.afterCommit items).inputs = resetInputs s.inputs items := by
  rw [State.afterCommit, State.raiseIf_inputs]
  rfl

theorem State.afterCommit_capture (s : State) (items : List SourceItem) :
    (s.afterCommit items).port.capture =
      mapBank s.port.capture fun c ts =>
        if items.any (SourceItem.configures (captureSource c)) then orphan ts else ts := by
  rw [State.afterCommit, State.raiseIf_port]
  rfl

theorem State.afterCommit_sourceQueue (s : State) (items : List SourceItem) :
    (s.afterCommit items).port.control = s.port.control := by
  rw [State.afterCommit, State.raiseIf_port]
  rfl

theorem State.afterCommit_status (s : State) (items : List SourceItem) :
    (s.afterCommit items).status =
      { s.status with
        inputs := mapBank s.status.inputs fun c e =>
          if items.any (SourceItem.configures (captureSource c)) then CaptureInput.initial.entry else e } := by
  rw [State.afterCommit, State.raiseIf_status]
  rfl

theorem State.afterChannels_channel (s : State) (src : Fin 32) :
    s.afterChannels.channel src =
      if (s.channel src).readsHeader src then s.channel src else (s.channel src).frame src := by
  rw [State.afterChannels, State.channel, State.statusTakeSources_sources, State.raiseIf_sources]
  exact s.frameSources_channel src

theorem State.afterChannels_toJudge (s : State) :
    s.afterChannels.sources.toJudge = sourcesWhere fun src => (s.channel src).readsHeader src := by
  rw [State.afterChannels, State.statusTakeSources_sources, State.raiseIf_sources]
  rfl

theorem mem_sourcesWhere (f : Fin 32 → Bool) (src : Fin 32) : src ∈ sourcesWhere f ↔ f src = true := by
  simp [sourcesWhere]

theorem sourcesWhere_ascending (f : Fin 32 → Bool) : (sourcesWhere f).Pairwise (· < ·) :=
  (List.pairwise_lt_finRange 32).filter f

theorem State.statusTakeSources_entry (s : State) (done : Fin 32 → Bool) (src : Fin 32) :
    (s.statusTakeSources done).status.sources[src] =
      if done src then reportedEntry src ((s.statusTakeSources done).channel src) s.status.inputs[captureOf src]
      else s.status.sources[src] := by
  rw [State.channel, State.statusTakeSources_sources, ← State.channel, ← State.sourceEntry_eq]
  exact mapBank_get _ _ src

theorem State.statusTakeSources_inputEntries (s : State) (done : Fin 32 → Bool) :
    (s.statusTakeSources done).status.inputs = s.status.inputs := by
  rw [State.statusTakeSources, State.withStatus_status]

/-- The copy of a source whose channel has done its work, and of one whose header is still to be read. -/
theorem State.afterChannels_entry (s : State) (src : Fin 32) :
    s.afterChannels.status.sources[src] =
      if (s.channel src).readsHeader src then s.status.sources[src]
      else reportedEntry src (s.afterChannels.channel src) s.status.inputs[captureOf src] := by
  rw [State.afterChannels]
  obtain ⟨u, hu⟩ : ∃ u, u = s.frameSources.raiseIf s.frameSourcesEvent causeSourceEvent := ⟨_, rfl⟩
  have hstatus : u.status = s.status := by rw [hu, State.raiseIf_status, State.frameSources_status]
  rw [← hu, State.statusTakeSources_entry, hstatus]
  cases (s.channel src).readsHeader src with
  | true => simp only [Bool.not_true, Bool.false_eq_true, if_false, if_true]
  | false => simp only [Bool.not_false, Bool.false_eq_true, if_false, if_true]

theorem State.afterChannels_statusInputs (s : State) : s.afterChannels.status.inputs = s.status.inputs := by
  rw [State.afterChannels, State.statusTakeSources_inputEntries, State.raiseIf_status, State.frameSources_status]

theorem State.frameSources_port (s : State) :
    s.frameSources.port =
      s.port.issue (.control sourceUnit)
        ((sourcesWhere fun src => (s.channel src).readsHeader src).map fun src => (s.channel src).headerRead src) := by
  unfold State.frameSources State.channel
  rw [State.issue, State.withPort_port, State.withSources_port]

theorem State.afterChannels_port (s : State) :
    s.afterChannels.port =
      s.port.issue (.control sourceUnit)
        (s.afterChannels.sources.toJudge.map fun src => (s.channel src).headerRead src) := by
  rw [s.afterChannels_toJudge, State.afterChannels, State.statusTakeSources_port, State.raiseIf_port, State.frameSources_port]

/-! ## SOURCE_EVENT (R96, R97, R121) -/

theorem State.frameSourcesEvent_iff (s : State) :
    s.frameSourcesEvent = true ↔
      ∃ src, (s.channel src).readsHeader src = false ∧ (s.channel src).frameEvent src = true := by
  simp only [State.frameSourcesEvent, anyBank_eq_true, Bool.and_eq_true, Bool.not_eq_true']
  rfl

theorem State.sourceStart_event (s : State) (f : SourceFrame) :
    (s.sourceStart f).link.cause.getLsbD 3 = true ↔
      (s.link.cause.getLsbD 3 = true ∨ resetEvent s.inputs f.items = true) ∨
        (s.afterCommit f.items).frameSourcesEvent = true := by
  rw [State.sourceStart_eq, State.withSources_link, State.afterChannels, State.statusTakeSources_link,
    State.raiseIf_sourceEvent, State.frameSources_link, State.afterCommit, State.raiseIf_sourceEvent,
    State.statusResetInputs_link, State.commitSources_link]

/-! ## The wall frame start as the source unit takes it -/

theorem Source.fillingBase_of_holdsAt {c : Source} {k : Fin 3} (h : c.holdsAt .filling k) :
    c.fillingBase = c.desc.base k := by
  rw [Source.fillingBase, Source.slotWith_of_holdsAt h]

/-- The channel of a source once the unit has taken a wall frame start. -/
theorem State.sourceStart_channel (s : State) (f : SourceFrame) (src : Fin 32) :
    let c := (s.channel src).commit src f.items
    (s.sourceStart f).channel src = if c.readsHeader src then c else (c.frame src).older f.after := by
  dsimp only
  rw [State.sourceStart_eq, State.channel, State.withSources_sources, SourceUnit.intervals_channel]
  simp only [State.afterChannels_toJudge, mem_sourcesWhere, State.afterCommit_channel]
  have hchannel := (s.afterCommit f.items).afterChannels_channel src
  rw [State.afterCommit_channel] at hchannel
  rw [State.channel] at hchannel
  rw [hchannel, Source.agedBy_eq_older]
  split <;> rfl

theorem State.sourceStart_toJudge (s : State) (f : SourceFrame) :
    (s.sourceStart f).sources.toJudge =
      sourcesWhere fun src => ((s.channel src).commit src f.items).readsHeader src := by
  rw [State.sourceStart_eq, State.withSources_sources, SourceUnit.intervals, State.afterChannels_toJudge]
  simp only [State.afterCommit_channel]

theorem State.mem_sourceStart_toJudge (s : State) (f : SourceFrame) (src : Fin 32) :
    src ∈ (s.sourceStart f).sources.toJudge ↔ ((s.channel src).commit src f.items).readsHeader src = true := by
  rw [State.sourceStart_toJudge, mem_sourcesWhere]

theorem State.afterChannels_owed (s : State) : s.afterChannels.sources.owed = 0 := by
  rw [State.afterChannels, State.statusTakeSources_sources, State.raiseIf_sources, State.frameSources, State.issue_sources,
    State.withSources_sources]

theorem State.afterChannels_headers (s : State) : s.afterChannels.sources.headers = [] := by
  rw [State.afterChannels, State.statusTakeSources_sources, State.raiseIf_sources, State.frameSources, State.issue_sources,
    State.withSources_sources]

theorem State.sourceStart_owed (s : State) (f : SourceFrame) :
    (s.sourceStart f).sources.owed = if (s.sourceStart f).sources.toJudge = [] then 0 else f.after := by
  rw [State.sourceStart_eq, State.withSources_sources, SourceUnit.intervals, State.afterChannels_owed]
  simp only [List.isEmpty_iff, Nat.zero_add]

theorem State.sourceStart_port (s : State) (f : SourceFrame) :
    (s.sourceStart f).port =
      (s.afterCommit f.items).port.issue (.control sourceUnit)
        ((s.sourceStart f).sources.toJudge.map fun src => ((s.channel src).commit src f.items).headerRead src) := by
  rw [State.sourceStart_toJudge, State.sourceStart_eq, State.withSources_port, State.afterChannels_port,
    State.afterChannels_toJudge]
  simp only [State.afterCommit_channel]

/-- A source whose header is not read stands in the copy as its channel does when it has done its work. -/
theorem State.sourceStart_entry (s : State) (f : SourceFrame) (src : Fin 32) :
    let c := (s.channel src).commit src f.items
    (s.sourceStart f).status.sources[src] =
      if c.readsHeader src then s.status.sources[src]
      else reportedEntry src (c.frame src) (s.sourceStart f).status.inputs[captureOf src] := by
  dsimp only
  rw [State.sourceStart_eq, State.withSources_status, State.afterChannels_entry, State.afterChannels_channel,
    State.afterChannels_statusInputs, State.afterCommit_channel, State.afterCommit_status]
  split <;> rfl

theorem State.afterCommit_event_iff (s : State) (items : List SourceItem) :
    (s.afterCommit items).frameSourcesEvent = true ↔
      ∃ src, ((s.channel src).commit src items).readsHeader src = false ∧
        ((s.channel src).commit src items).frameEvent src = true := by
  simp only [State.frameSourcesEvent_iff, State.afterCommit_channel]

/-- What step 2, 3 and 4 of R92 make of a source that commits to `c` and whose header is not read. -/
theorem Source.frame_cases {src : Fin 32} {c : Source} (h : c.rolesLegal src) :
    (c.desc.enable = false → c.frame src = { c with presentation := .none }) ∧
      (c.promotes src → c.frame src =
        { c with
          roles := mapBank c.roles fun _ r =>
            if r = some .ready then some .shown else if r = some .shown then some .spare else r
          shownW := c.readyW, shownH := c.readyH, age := 0, presentation := .fresh
          published := if c.published = 0xFFFFFFFF then c.published else c.published + 1 }) ∧
      (c.desc.enable = true → ¬ c.promotes src → c.frame src = c.settled) :=
  ⟨Source.frame_off, fun hp => hp.frame h, fun he hp => (Source.frame_finishes he hp).trans (Source.finish_eq_settled h he)⟩

/-- Whether a wall frame start sets SOURCE_EVENT, in the terms of R96, R97 and R121. -/
theorem State.sourceStart_sets_event (s : State) (f : SourceFrame) :
    let c (src : Fin 32) := (s.channel src).commit src f.items
    (s.sourceStart f).link.cause.getLsbD 3 = true ↔
      s.link.cause.getLsbD 3 = true ∨
        (∃ src, ¬ (c src).readsHeader src = true ∧
          (((s.sourceStart f).channel src).presentation ≠ (s.channel src).presentation ∨
            (c src).desc.enable = true ∧ ¬ (c src).promotes src ∧ (c src).expires = true)) ∨
        ∃ k : Fin 16, resetsInput f.items k ∧ (s.inputs[k]).state ≠ .noSignal := by
  dsimp only
  rw [State.sourceStart_event, resetEvent_iff, State.afterCommit_event_iff, or_assoc, or_comm (a := ∃ k : Fin 16, _)]
  refine or_congr_right (or_congr_left (exists_congr fun src => ?_))
  rw [← Bool.not_eq_true]
  refine and_congr_right fun hr => ?_
  have hchannel := s.sourceStart_channel f src
  dsimp only at hchannel
  rw [if_neg hr] at hchannel
  rw [hchannel, Source.older_presentation, Source.frameEvent_iff, Source.commit_before]

/-- The source unit takes a wall frame start in the terms of R92 to R98. -/
theorem State.sourceStart_sourcesTake {s : State} (hs : s.rolesLegal) (f : SourceFrame) :
    s.sourcesTake (s.sourceStart f) f := by
  have hreads (src : Fin 32) := Source.readsHeader_iff src ((s.channel src).commit src f.items)
  refine ⟨⟨fun src => ?_, ?_, ?_, s.sourceStart_owed f⟩,
    ⟨(s.sourceStart f).sources.toJudge.map fun src => ((s.channel src).commit src f.items).headerRead src, ?_,
      List.length_map _, fun n src k hn hk => ?_⟩, fun src => ?_, ?_⟩
  · rw [State.mem_sourceStart_toJudge, hreads]
  · rw [State.sourceStart_toJudge]
    exact sourcesWhere_ascending _
  · rw [State.sourceStart_eq, State.withSources_sources, SourceUnit.intervals, State.afterChannels_headers]
  · rw [State.sourceStart_port, Port.issue_queue, Port.queue, State.afterCommit_sourceQueue]
    rfl
  · rw [List.getElem?_map, hn, Option.map_some, Source.headerRead, Source.fillingBase_of_holdsAt hk]
  · have hchannel := s.sourceStart_channel f src
    have hentry := s.sourceStart_entry f src
    dsimp only at hchannel hentry
    refine ⟨fun hr => ?_, fun hr => ?_⟩
    · rw [if_pos ((hreads src).mpr hr)] at hchannel hentry
      exact ⟨hchannel, hentry⟩
    · rw [if_neg (mt (hreads src).mp hr)] at hchannel hentry
      obtain ⟨hoff, hpromotes, hsettles⟩ := Source.frame_cases ((hs src).commit f.items)
      exact ⟨_, hoff, hpromotes, hsettles, hchannel, hentry⟩
  · refine (s.sourceStart_sets_event f).trans (or_congr_right (or_congr_left (exists_congr fun src => ?_)))
    rw [hreads src, Source.expires_iff]
    refine and_congr_right fun _ => or_congr_right ?_
    exact ⟨fun ⟨he, hp, hx⟩ => ⟨⟨he, hx⟩, hp⟩, fun ⟨⟨he, hx⟩, hp⟩ => ⟨he, hp, hx⟩⟩

/-- What commits at a wall frame start acts on the capture inputs in the terms of R101 and R121. -/
theorem State.sourceStart_inputsTake (s : State) (f : SourceFrame) : s.inputsTake (s.sourceStart f) f.items := by
  intro k
  have hinputs : (s.sourceStart f).inputs = resetInputs s.inputs f.items := by
    rw [State.sourceStart_eq, State.withSources_inputs, State.afterChannels, State.statusTakeSources_inputs,
      State.raiseIf_inputs, State.frameSources_inputs, State.afterCommit_inputs]
  obtain ⟨hreset, hstays⟩ := resetBank_get s.inputs f.items (fun _ => CaptureInput.initial) k
  obtain ⟨horphaned, hwaits⟩ := resetBank_get s.port.capture f.items orphan k
  have hqueue : (s.sourceStart f).port.queue (.capture k) = (s.afterCommit f.items).port.capture[k] := by
    rw [State.sourceStart_port, Port.issue_queue_of_ne _ _ (by simp)]
    rfl
  rw [hinputs, hqueue, State.afterCommit_capture]
  exact ⟨fun h => ⟨hreset h, horphaned h⟩, fun h => ⟨hstays h, hwaits h⟩⟩

end Sys2Proof.Machine
end

section
/-! A wall frame start that the ring processor takes at once, as the source unit takes it (O55), and the items that commit
there (O56). -/

namespace Sys2Proof.Machine

open Sys2Proof

/-! ## What the source unit's work is read from -/

/-- The capture inputs, their transfers and those of the source unit, the source entries of the copy, and SOURCE_EVENT are as
they were. -/
def State.sourceSideStays (s t : State) : Prop :=
  t.inputs = s.inputs ∧ t.port.capture = s.port.capture ∧ t.port.control[sourceUnit] = s.port.control[sourceUnit] ∧
    t.status.sources = s.status.sources ∧ t.link.cause.getLsbD 3 = s.link.cause.getLsbD 3

theorem State.sourceSideStays.trans {s t u : State} (h : s.sourceSideStays t) (g : t.sourceSideStays u) :
    s.sourceSideStays u := by
  obtain ⟨hi, hc, hq, he, hl⟩ := h
  obtain ⟨gi, gc, gq, ge, gl⟩ := g
  exact ⟨gi.trans hi, gc.trans hc, gq.trans hq, ge.trans he, gl.trans hl⟩

theorem State.sourceSideStays.refl (s : State) : s.sourceSideStays s := ⟨rfl, rfl, rfl, rfl, rfl⟩

theorem State.sourceSideStays.same {s t : State} (hi : t.inputs = s.inputs := by simp) (hp : t.port = s.port := by simp)
    (hs : t.status = s.status := by simp) (hl : t.link = s.link := by simp) : s.sourceSideStays t := by
  refine ⟨hi, ?_, ?_, ?_, ?_⟩
  · rw [hp]
  · rw [hp]
  · rw [hs]
  · rw [hl]

/-- Other causes leave SOURCE_EVENT alone. -/
theorem State.raiseIf_sourceSideStays (s : State) (b : Bool) {bits : BitVec 8} (h : bits.getLsbD 3 = false) :
    s.sourceSideStays (s.raiseIf b bits) := by
  refine ⟨by simp, by simp, by simp, by simp, ?_⟩
  unfold State.raiseIf
  split
  · rw [State.raise_cause, BitVec.getLsbD_or, h, Bool.or_false]
  · rfl

theorem State.issue_ringProcessor_sourceSideStays (s : State) (ts : List Transfer) :
    s.sourceSideStays (s.issue (.control ringProcessor) ts) :=
  ⟨rfl, rfl, State.issue_control_of_ne s ts (by decide), rfl, rfl⟩

/-- A wall frame start is taken alike from two states with the same channels that are alike beside them. -/
theorem State.sourceSideStays.sourcesTake {s s' t : State} {f : SourceFrame} (h : s.sourceSideStays s')
    (hc : s'.sources.channels = s.sources.channels) (ht : s'.sourcesTake t f) : s.sourcesTake t f := by
  obtain ⟨hi, -, hq, he, hl⟩ := h
  have hqueue : s'.port.queue (.control sourceUnit) = s.port.queue (.control sourceUnit) := hq
  unfold State.sourcesTake State.channel at ht ⊢
  rw [hc, hi, hqueue, he, hl] at ht
  exact ht

theorem State.sourceSideStays.inputsTake {s s' t : State} {items : List SourceItem} (h : s.sourceSideStays s')
    (ht : s'.inputsTake t items) : s.inputsTake t items := by
  obtain ⟨hi, hc, -⟩ := h
  simpa only [State.inputsTake, Port.queue, hi, hc] using ht

/-- Making the frame ready leaves what the source unit has done. -/
theorem State.sourcesTake.frameReady {s t : State} {f : SourceFrame} (h : s.sourcesTake t f) :
    s.sourcesTake t.frameReady f := by
  have hq := t.frameReady_controlQueue (k := sourceUnit) (by decide)
  simpa only [State.sourcesTake, State.channel, Port.queue, t.frameReady_sources, t.frameReady_status, t.frameReady_link, hq]
    using h

theorem State.inputsTake.frameReady {s t : State} {items : List SourceItem} (h : s.inputsTake t items) :
    s.inputsTake t.frameReady items := by
  have hq : t.frameReady.port.capture = t.port.capture := by
    show t.tilesTakeView.port.capture = t.port.capture
    rw [State.tilesTakeView, State.withEngines_port, State.withPort_port]
  simpa only [State.inputsTake, Port.queue, t.frameReady_inputs, hq] using h

/-! ## The blocks and the ring processor before the source unit (R59, R142, R152) -/

theorem State.frameBegun_sourceSideStays (s : State) : s.sourceSideStays s.frameBegun := ⟨rfl, rfl, rfl, rfl, rfl⟩

theorem State.sourceSideStays.frameBegun {s t : State} (h : s.sourceSideStays t) :
    s.frameBegun.sourceSideStays t.frameBegun := by
  obtain ⟨hi, hc, hq, he, hl⟩ := h
  exact ⟨hi, hc, hq, he, hl⟩

theorem State.clearWork_sourceSideStays (s : State) : s.sourceSideStays s.clearWork.1 := by
  unfold State.clearWork State.alarmWork
  dsimp only
  have hraised := s.raiseIf_sourceSideStays (applyClears s.ring.pendingClears s.alarms).2.1 (bits := causeAlarmEvent) rfl
  exact hraised.trans .same

theorem State.swap_sourceSideStays (s : State) : s.sourceSideStays s.swap := by
  cases hb : s.builder.state with
  | donePending kind =>
    have hswapped : s.sourceSideStays ((s.withBuilder s.builder.swapped).withLive (s.liveAfter kind)) :=
      .same rfl rfl rfl rfl
    rw [State.swap_eq hb]
    exact hswapped.trans (State.raiseIf_sourceSideStays _ _ (by decide))
  | idle =>
    rw [State.swap_none (State.swapKind_none (by simp [hb]))]
    exact .refl s
  | building kind n =>
    rw [State.swap_none (State.swapKind_none (by simp [hb]))]
    exact .refl s

theorem State.blocksTakeFrame_sourceSideStays (s : State) (lastTile : Bool) :
    s.sourceSideStays (s.blocksTakeFrame lastTile) := by
  have hbuilder : s.sourceSideStays (if lastTile then s.swap.completeLate else s.swap) := by
    split
    · exact s.swap_sourceSideStays.trans .same
    · exact s.swap_sourceSideStays
  unfold State.blocksTakeFrame
  generalize (if lastTile then s.swap.completeLate else s.swap) = t at hbuilder ⊢
  refine hbuilder.trans ⟨rfl, rfl, ?_, rfl, rfl⟩
  exact State.setQueue_control_of_ne t [] (by decide)

/-- The ring processor's part hands `items` to the source unit, in a state in which nothing that it reads has changed. -/
def State.handsTo (v t : State) (items : List SourceItem) : Prop :=
  ∃ u, v.sourceSideStays u ∧ u.sources = v.sources ∧ t = u.handItems items

theorem State.commitWith_handsTo (s : State) (n : Word) (found : List (Nat × Nat)) :
    s.handsTo (s.commitWith n found) s.ring.pendingSources := by
  refine ⟨_, ?_, ?_, rfl⟩
  · exact State.sourceSideStays.trans (.same rfl rfl rfl rfl) (State.issue_ringProcessor_sourceSideStays _ _)
  · rfl

theorem State.commitGroup_handsTo (s : State) (n : Word) : s.handsTo (s.commitGroup n) s.ring.pendingSources := by
  obtain ⟨u, hside, hsources, ht⟩ := s.clearWork.1.commitWith_handsTo n s.clearWork.2
  rw [State.clearWork_ring] at ht
  exact ⟨u, s.clearWork_sourceSideStays.trans hside, hsources.trans s.clearWork_sources, ht⟩

theorem State.lookIn_sourceSideStays (s : State) (cause : LookCause) : s.sourceSideStays (s.lookIn cause) := by
  have hlook : s.sourceSideStays (s.startLook cause) :=
    State.sourceSideStays.trans (.same rfl rfl rfl rfl) (State.issue_ringProcessor_sourceSideStays _ _)
  unfold State.lookIn
  cases s.ring.state with
  | idle | collecting | skipping => exact hlook
  | awaitingCommit | writingBack => exact .refl s

theorem State.ringFrame_handsTo {s : State} (h : s.ring.look = .none) :
    s.handsTo s.ringFrame (if s.awaitsFrame then s.ring.pendingSources else []) := by
  have htakes : s.ringFrame = s.ringTakesFrame s.frameNo := by
    simp [State.ringFrame, State.lookEvent, h, State.takeLookEvent]
  rw [htakes, State.ringTakesFrame]
  split
  · exact s.commitGroup_handsTo _
  · exact ⟨_, s.lookIn_sourceSideStays _, s.lookIn_sources _, rfl⟩

theorem State.itemsCommitted_eq (s : State) :
    s.itemsCommitted = if s.groupCommits = true ∨ s.awaitsFrame = true then s.ring.pendingSources else [] := by
  unfold State.itemsCommitted
  simp only [State.groupCommits_eq, State.awaitsFrame_eq]

/-- A wall frame start that the ring processor takes at once reaches the source unit with what commits at it. -/
theorem State.frameAlone_handsTo {s : State} (hl : s.ring.look = .none) (setFirst lastTile : Bool) :
    s.frameBegun.handsTo (s.frameAlone setFirst lastTile) s.itemsCommitted := by
  have hblocks {c t : State} {items : List SourceItem} (hside : s.frameBegun.sourceSideStays c)
      (hs : c.sources = s.frameBegun.sources) (ht : (c.blocksTakeFrame lastTile).handsTo t items) :
      s.frameBegun.handsTo t items := by
    obtain ⟨u, hu, hsources, rfl⟩ := ht
    refine ⟨u, (hside.trans (c.blocksTakeFrame_sourceSideStays lastTile)).trans hu, ?_, rfl⟩
    rw [hsources, State.blocksTakeFrame_sources, hs]
  rw [State.itemsCommitted_eq]
  by_cases hg : s.groupCommits = true
  · rw [State.frameAlone_group (s.groupCommits_eq.mp hg), if_pos (.inl hg)]
    have hands := (s.frameBegun.blocksTakeFrame lastTile).commitGroup_handsTo (s.frameNo + 1)
    rw [State.blocksTakeFrame_ring] at hands
    exact hblocks (.refl _) rfl hands
  · rw [Bool.not_eq_true] at hg
    by_cases hfirst : setFirst = true ∧ s.awaitsFrame = true
    · obtain ⟨rfl, ha⟩ := hfirst
      have hcleared := s.clearWork_sourceSideStays.frameBegun
      have hands := (s.clearWork.1.frameBegun.blocksTakeFrame lastTile).commitWith_handsTo (s.frameNo + 1) s.clearWork.2
      rw [State.blocksTakeFrame_ring, State.frameBegun_ring, State.clearWork_ring] at hands
      rw [State.frameAlone_commits hg ha, if_pos (.inr ha)]
      exact hblocks hcleared (by simp [State.frameBegun, State.pushFrame]) hands
    · rw [State.frameAlone_blocksFirst hg hfirst]
      have hands := State.ringFrame_handsTo (s := s.frameBegun.blocksTakeFrame lastTile) (by simpa using hl)
      simp only [State.awaitsFrame, State.blocksTakeFrame_ring] at hands
      simp only [hg, Bool.false_eq_true, false_or]
      exact hblocks (.refl _) rfl hands

/-! ## The source unit takes the start at once (R92) -/

/-- With no header to judge and no other start to begin, the unit begins the start that it is handed. -/
theorem State.handItems_begins {s : State} (hjudge : s.sources.toJudge = []) (hframes : s.sources.frames = [⟨false, [], 0⟩])
    (items : List SourceItem) :
    let t := (s.statusTakeRing.withSources { s.sources with frames := [] }).sourceStart ⟨true, items, 0⟩
    s.handItems items = t ∨ s.handItems items = t.frameReady := by
  have hhands : s.handItems items =
      State.sourceRun [⟨true, items, 0⟩]
        (s.statusTakeRing.withSources { s.sources with frames := [⟨true, items, 0⟩] }) := by
    simp [State.handItems, State.sourceAdvance, hjudge, hframes, handTo]
  dsimp only
  rw [hhands]
  unfold State.sourceRun
  dsimp only
  rw [if_pos rfl, List.isEmpty_nil, if_pos rfl]
  split
  · exact .inr rfl
  · exact .inl rfl

/-- A wall frame start taken at once is `sourceStart` with what commits there, in a state in which the source unit and what
its work is read from stand as before. -/
theorem State.frameAlone_begins {s : State} (h : s.readyForFrame) (setFirst lastTile : Bool) :
    ∃ u, s.sourceSideStays u ∧ u.sources = s.sources ∧
      (s.frameAlone setFirst lastTile = u.sourceStart ⟨true, s.itemsCommitted, 0⟩ ∨
        s.frameAlone setFirst lastTile = (u.sourceStart ⟨true, s.itemsCommitted, 0⟩).frameReady) := by
  obtain ⟨-, hframes, hjudge, hlook⟩ := h
  obtain ⟨v, hside, hsources, ht⟩ := State.frameAlone_handsTo hlook setFirst lastTile
  have hpushed : v.sources = { s.sources with frames := [⟨false, [], 0⟩] } := by
    rw [hsources, State.frameBegun, State.pushFrame, State.withSources_sources, State.withFrameNo_sources, hframes]
    rfl
  refine ⟨v.statusTakeRing.withSources { v.sources with frames := [] }, ?_, ?_, ?_⟩
  · exact (s.frameBegun_sourceSideStays.trans hside).trans ⟨rfl, rfl, rfl, rfl, rfl⟩
  · rw [State.withSources_sources, hpushed, ← hframes]
  · rw [ht]
    exact State.handItems_begins (by rw [hpushed, hjudge]) (by rw [hpushed]) _

/-- Settles O55: the start reaches the source unit with what commits there, and its work is `sourceStart`. -/
theorem sourceUnitTakesTheFrame : Obligations.SourceUnitTakesTheFrame := by
  intro order s hi hready hs
  obtain ⟨u, hside, hsources, ht⟩ := State.frameAlone_begins hready order.setFirst order.lastTile
  have hu : u.rolesLegal := fun src => by
    rw [State.channel, hsources]
    exact hs src
  have htakes := hside.sourcesTake (congrArg _ hsources) (State.sourceStart_sourcesTake hu ⟨true, s.itemsCommitted, 0⟩)
  have hframes : (u.sourceStart ⟨true, s.itemsCommitted, 0⟩).sources.frames = [] := by
    rw [State.sourceStart_frames, hsources]
    exact hready.2.1
  refine ⟨_, exec_wallFrameStart_alone hi hready.1, ?_⟩
  rcases ht with ht | ht <;> rw [ht]
  · exact ⟨htakes, hframes⟩
  · exact ⟨htakes.frameReady, by rw [State.frameReady_sources, hframes]⟩

/-- Settles O56: the items act in order on a channel, and on the inputs as `sourceStart` begins the start. -/
theorem committedItemsActInOrder : Obligations.CommittedItemsActInOrder := by
  refine ⟨Source.commit_nil, fun src c items item => ?_, fun order s hi hready => ?_⟩
  · dsimp only
    rw [Source.commit_append]
    cases item with
    | config q d => exact Source.applyItem_config src q d _
    | freeze q on => exact Source.applyItem_freeze src q on _
  · obtain ⟨u, hside, -, ht⟩ := State.frameAlone_begins hready order.setFirst order.lastTile
    have htakes := hside.inputsTake (u.sourceStart_inputsTake ⟨true, s.itemsCommitted, 0⟩)
    refine ⟨_, exec_wallFrameStart_alone hi hready.1, ?_⟩
    rcases ht with ht | ht <;> rw [ht]
    · exact htakes
    · exact htakes.frameReady

end Sys2Proof.Machine
end

section
/-! The judgement of a memory source's header, and the wall frame start that the source unit begins after the last one
(O40). -/

namespace Sys2Proof.Machine

open Sys2Proof

/-! ## The channel of the source (R95 to R97) -/

/-- What a header makes of its source: a picture to show, a tag used up, or nothing. -/
theorem Source.judgeHeader_eq {src : Fin 32} {c : Source} (h : c.rolesLegal src) (hc : isCapture src = false)
    (he : c.desc.enable = true) (header : List Byte) :
    let w := headerWidth header
    let d := headerHeight header
    c.judgeHeader header =
      if headerTag header = c.expected then
        (if (1 ≤ w ∧ w ≤ 4096) ∧ (1 ≤ d ∧ d ≤ 2400) ∧ 16 + w * d * 4 ≤ c.desc.size * 4096 then
          { c with
            roles := mapBank c.roles fun _ r =>
              if r = some .filling then some .shown
              else if r = some .shown then some .filling
              else if r = some .spare ∧ ∀ j : Fin 3, c.roles[j] ≠ some .shown then some .filling
              else r
            shownW := w, shownH := d, age := 0, presentation := .fresh
            published := if c.published = 0xFFFFFFFF then c.published else c.published + 1
            expected := c.expected + 1 }
        else
          { c with
            badFrame := if c.badFrame = 0xFFFFFFFF then c.badFrame else c.badFrame + 1
            expected := c.expected + 1 }.settled)
      else c.settled := by
  dsimp only
  by_cases ht : headerTag header = c.expected
  · rw [if_pos ht]
    by_cases hg : c.goodHeader (headerWidth header) (headerHeight header) = true
    · rw [if_pos ((c.goodHeader_iff _ _).mp hg), Source.judgeHeader_accepts ⟨ht, hg⟩,
        Source.publishMemory_decide h hc he]
    · have hused : c.useUpTag.rolesLegal src := Source.rolesLegal_congr rfl rfl h
      rw [if_neg (mt (c.goodHeader_iff _ _).mpr hg), Source.judgeHeader_rejects ⟨ht, hg⟩,
        Source.finish_eq_settled hused he]
      rfl
  · rw [if_neg ht, Source.judgeHeader_ignores ht, Source.finish_eq_settled h he]

/-! ## The state with the header judged -/

/-- The channel has been judged, with SOURCE_EVENT, and its header is done with. -/
def State.headerTaken (s : State) (src : Fin 32) (header : List Byte) : State :=
  let c := s.channel src
  let t := (s.setChannel src (c.judgeHeader header)).raiseIf (c.judgeEvent header) causeSourceEvent
  t.withSources
    { t.sources with
      toJudge := t.sources.toJudge.filter fun q => q != src
      headers := t.sources.headers.filter fun p => p.1 != src }

/-- The judged channel stands in the copy and has taken the intervals that came meanwhile. -/
def State.headerAged (s : State) (src : Fin 32) (header : List Byte) : State :=
  let u := (s.headerTaken src header).statusTakeSources fun q => q == src
  u.setChannel src ((u.channel src).agedBy u.sources.owed)

/-- Intervals are owed no more once no header is left to judge. -/
def State.owedToJudge (s : State) : State :=
  s.withSources { s.sources with owed := if s.sources.toJudge.isEmpty then 0 else s.sources.owed }

def State.headerDone (s : State) (src : Fin 32) (header : List Byte) : State := (s.headerAged src header).owedToJudge

/-- What follows the judgement: the next wall frame start when no header is left, and the frame ready when none waits. -/
theorem State.headerJudged_eq (s : State) (src : Fin 32) (header : List Byte) :
    let w := s.headerDone src header
    s.headerJudged src header =
      if w.sources.toJudge.isEmpty then (if w.sources.frames.isEmpty then w.frameReady else w.sourceAdvance) else w := by
  dsimp only
  have hsteps : s.headerJudged src header =
      let v := s.headerAged src header
      if v.sources.toJudge.isEmpty then
        let w := v.withSources { v.sources with owed := 0 }
        (if w.sources.frames.isEmpty then w.frameReady else w.sourceAdvance)
      else v := rfl
  rw [hsteps, State.headerDone, State.owedToJudge]
  generalize s.headerAged src header = v
  dsimp only [State.withSources_sources]
  split
  · rfl
  · rfl

theorem State.headerTaken_sources (s : State) (src : Fin 32) (header : List Byte) :
    (s.headerTaken src header).sources =
      { s.sources with
        channels := vset s.sources.channels src ((s.channel src).judgeHeader header)
        toJudge := s.sources.toJudge.filter fun q => q != src
        headers := s.sources.headers.filter fun p => p.1 != src } := by
  unfold State.headerTaken
  dsimp only
  rw [State.withSources_sources, State.raiseIf_sources]
  rfl

theorem State.headerTaken_channel (s : State) (src : Fin 32) (header : List Byte) :
    (s.headerTaken src header).channel src = (s.channel src).judgeHeader header := by
  rw [State.channel, State.headerTaken_sources, vset_get]

theorem State.headerTaken_status (s : State) (src : Fin 32) (header : List Byte) :
    (s.headerTaken src header).status = s.status := by
  unfold State.headerTaken
  dsimp only
  rw [State.withSources_status, State.raiseIf_status, State.setChannel_status]

theorem State.headerTaken_event (s : State) (src : Fin 32) (header : List Byte) :
    (s.headerTaken src header).link.cause.getLsbD 3 = true ↔
      s.link.cause.getLsbD 3 = true ∨ (s.channel src).judgeEvent header = true := by
  unfold State.headerTaken
  dsimp only
  rw [State.withSources_link, State.raiseIf_sourceEvent, State.setChannel_link]

theorem State.headerDone_sources (s : State) (src : Fin 32) (header : List Byte) :
    let toJudge := s.sources.toJudge.filter fun q => q != src
    (s.headerDone src header).sources =
      { s.sources with
        channels := vset s.sources.channels src (((s.channel src).judgeHeader header).agedBy s.sources.owed)
        toJudge := toJudge
        headers := s.sources.headers.filter fun p => p.1 != src
        owed := if toJudge.isEmpty then 0 else s.sources.owed } := by
  have hchannel := s.headerTaken_channel src header
  dsimp only
  rw [State.headerDone, State.owedToJudge, State.withSources_sources, State.headerAged, State.setChannel,
    State.withSources_sources, State.statusTakeSources_sources, State.channel,
    State.statusTakeSources_sources, ← State.channel, hchannel, State.headerTaken_sources,
    vset_vset]

/-- The judged source has aged. -/
theorem State.headerDone_channel (s : State) (src : Fin 32) (header : List Byte) :
    (s.headerDone src header).channel src = ((s.channel src).judgeHeader header).older s.sources.owed := by
  rw [State.channel, State.headerDone_sources]
  exact (vset_get ..).trans (Source.agedBy_eq_older ..)

theorem State.headerDone_channel_of_ne (s : State) {src q : Fin 32} (header : List Byte) (hq : q ≠ src) :
    (s.headerDone src header).channel q = s.channel q := by
  rw [State.channel, State.headerDone_sources]
  exact vset_get_of_ne _ _ hq

theorem State.headerDone_status (s : State) (src : Fin 32) (header : List Byte) :
    (s.headerDone src header).status =
      ((s.headerTaken src header).statusTakeSources fun q => q == src).status := rfl

theorem State.headerDone_statusInputs (s : State) (src : Fin 32) (header : List Byte) :
    (s.headerDone src header).status.inputs = s.status.inputs := by
  rw [State.headerDone_status, State.statusTakeSources_inputEntries, State.headerTaken_status]

/-- The source stands in the copy as it was judged, and each other source as before. -/
theorem State.headerDone_entry (s : State) (src q : Fin 32) (header : List Byte) :
    (s.headerDone src header).status.sources[q] =
      if q = src then reportedEntry src ((s.channel src).judgeHeader header) s.status.inputs[captureOf src]
      else s.status.sources[q] := by
  rw [State.headerDone_status, State.statusTakeSources_entry, State.headerTaken_status]
  by_cases hq : q = src
  · subst hq
    rw [if_pos (beq_self_eq_true q), if_pos rfl, State.channel, State.statusTakeSources_sources, ← State.channel,
      State.headerTaken_channel]
  · rw [if_neg (by simp [hq]), if_neg hq]

theorem State.headerDone_event (s : State) (src : Fin 32) (header : List Byte) :
    (s.headerDone src header).link.cause.getLsbD 3 = true ↔
      s.link.cause.getLsbD 3 = true ∨ (s.channel src).judgeEvent header = true := by
  rw [← State.headerTaken_event]
  rfl

/-- Nothing changes but the source unit, the causes and the copy. -/
theorem State.headerDone_rest (s : State) (src : Fin 32) (header : List Byte) :
    let w := s.headerDone src header
    (w.mem = s.mem ∧ w.live = s.live ∧ w.builder = s.builder ∧ w.ring = s.ring ∧ w.alarms = s.alarms ∧
      w.alarmsLater = s.alarmsLater ∧ w.inputs = s.inputs ∧ w.control = s.control ∧ w.config = s.config ∧
      w.frameNo = s.frameNo ∧ w.pending = s.pending) ∧
      w.port = s.port ∧ w.view = s.view ∧ w.engines = s.engines := by
  simp [State.headerDone, State.owedToJudge, State.headerAged, State.headerTaken]

theorem State.headerDone_rolesLegal {s : State} (h : s.rolesLegal) {src : Fin 32} (hsrc : isCapture src = false)
    (header : List Byte) : (s.headerDone src header).rolesLegal := by
  intro q
  by_cases hq : q = src
  · subst hq
    rw [State.headerDone_channel, ← Source.agedBy_eq_older]
    exact ((h q).judgeHeader hsrc header).agedBy _
  · rw [State.headerDone_channel_of_ne _ _ hq]
    exact h q

/-! ## What follows the judgement (R72, R92) -/

/-- Work on the sources, the inputs and what is sent leaves the rest of the state as it was. -/
theorem State.eq_of_rest {s t : State} (hcontrol : t.control = s.control := by simp) (hmem : t.mem = s.mem := by simp)
    (hconfig : t.config = s.config := by simp) (hnumber : t.frameNo = s.frameNo := by simp)
    (hlive : t.live = s.live := by simp) (hbuilder : t.builder = s.builder := by simp)
    (halarms : t.alarms = s.alarms := by simp) (hlater : t.alarmsLater = s.alarmsLater := by simp)
    (hring : t.ring = s.ring := by simp) (hpending : t.pending = s.pending := by simp) :
    t = { s with
      link := t.link, port := t.port, sources := t.sources, inputs := t.inputs, engines := t.engines, view := t.view,
      status := t.status } := by
  rw [← hcontrol, ← hmem, ← hconfig, ← hnumber, ← hlive, ← hbuilder, ← halarms, ← hlater, ← hring, ← hpending]

/-- To make the frame ready changes the view, the engines and the transfers alone. -/
theorem State.frameReady_eq (s : State) :
    s.frameReady =
      { s with view := s.frameReady.view, engines := s.frameReady.engines, port := s.frameReady.port } := by
  have hrest := State.eq_of_rest (s := s) (t := s.frameReady)
  rwa [s.frameReady_link, s.frameReady_sources, s.frameReady_inputs, s.frameReady_status] at hrest

/-- What the start of a wall frame leaves as it was. -/
theorem State.sourceStart_frame (s : State) (f : SourceFrame) :
    let t := s.sourceStart f
    t = { s with
      sources := t.sources, inputs := t.inputs, link := t.link, port := t.port
      status := { s.status with inputs := t.status.inputs, sources := t.status.sources } } := by
  have hstatus : (s.sourceStart f).status =
      { s.status with
        inputs := (s.sourceStart f).status.inputs, sources := (s.sourceStart f).status.sources } := by
    rw [State.sourceStart_eq, State.withSources_status, State.afterChannels, State.statusTakeSources, State.withStatus_status,
      State.raiseIf_status, State.frameSources_status, State.afterCommit_status]
  dsimp only
  rw [← hstatus]
  have hrest := State.eq_of_rest (s := s) (t := s.sourceStart f)
  rwa [s.sourceStart_engines, s.sourceStart_view] at hrest

/-- The copy of an input that is reset, and of one that is not (R121, R123). -/
theorem State.sourceStart_statusInputs (s : State) (f : SourceFrame) (k : Fin 16) :
    let t := s.sourceStart f
    (resetsInput f.items k → t.status.inputs[k] = CaptureInput.initial.reported) ∧
      (¬ resetsInput f.items k → t.status.inputs[k] = s.status.inputs[k]) := by
  dsimp only
  rw [State.sourceStart_eq, State.withSources_status, State.afterChannels_statusInputs, State.afterCommit_status]
  exact resetBank_get s.status.inputs f.items (fun _ => CaptureInput.initial.entry) k

/-- A wall frame start that the ring processor has not taken waits. -/
theorem State.sourceAdvance_waits {s : State} (h : ∀ f, s.sources.frames.head? = some f → f.taken = false) :
    s.sourceAdvance = s := by
  have hrun (frames : List SourceFrame) (hframes : s.sources.frames = frames) : State.sourceRun frames s = s := by
    cases frames with
    | nil =>
      rw [State.sourceRun, ← hframes]
      rfl
    | cons f later =>
      have hf : f.taken = false := h f (by rw [hframes, List.head?_cons])
      rw [State.sourceRun, hf, ← hframes]
      rfl
  rw [State.sourceAdvance, hrun _ rfl, ite_self]

/-- A wall frame start that the ring processor has taken is begun, and what waits behind it follows. -/
theorem State.sourceAdvance_begins {s : State} {f : SourceFrame} {later : List SourceFrame}
    (hjudge : s.sources.toJudge = []) (hframes : s.sources.frames = f :: later) (hf : f.taken = true) :
    let v := (s.withSources { s.sources with frames := later }).sourceStart f
    s.sourceAdvance =
      if v.sources.toJudge = [] then (if later = [] then v.frameReady else v.sourceAdvance) else v := by
  dsimp only
  rw [State.sourceAdvance, if_pos (List.isEmpty_iff.mpr hjudge), hframes, State.sourceRun, if_pos hf]
  have hlater : ((s.withSources { s.sources with frames := later }).sourceStart f).sources.frames = later := by
    rw [State.sourceStart_frames, State.withSources_sources]
  dsimp only
  generalize State.sourceStart _ f = v at hlater ⊢
  simp only [State.sourceAdvance, List.isEmpty_iff, hlater]
  by_cases hdone : v.sources.toJudge = []
  · simp only [if_pos hdone]
  · simp only [if_neg hdone]

/-- A header is left to judge, or no wall frame start is to be begun. -/
theorem State.headerJudged_waits {s : State} {src : Fin 32} {header : List Byte}
    (h : (∃ q ∈ s.sources.toJudge, q ≠ src) ∨ ∀ f, s.sources.frames.head? = some f → f.taken = false) :
    ∃ view engines port,
      s.headerJudged src header =
        { s.headerDone src header with view := view, engines := engines, port := port } := by
  rw [State.headerJudged_eq]
  have hframes : (s.headerDone src header).sources.frames = s.sources.frames := by rw [State.headerDone_sources]
  have hjudge : (s.headerDone src header).sources.toJudge = s.sources.toJudge.filter fun q => q != src := by
    rw [State.headerDone_sources]
  generalize s.headerDone src header = w at hframes hjudge ⊢
  split
  · next hempty =>
    have hnone : ¬ ∃ q ∈ s.sources.toJudge, q ≠ src := by
      simpa [hjudge] using hempty
    rw [← hframes] at h
    split
    · exact ⟨_, _, _, w.frameReady_eq⟩
    · exact ⟨w.view, w.engines, w.port, State.sourceAdvance_waits (h.resolve_left hnone)⟩
  · exact ⟨w.view, w.engines, w.port, rfl⟩

/-- The last header has been judged, and the unit begins the wall frame start that waits. -/
theorem State.headerJudged_begins {s : State} {src : Fin 32} {header : List Byte} {f : SourceFrame}
    {later : List SourceFrame} (hlast : ∀ q ∈ s.sources.toJudge, q = src) (hframes : s.sources.frames = f :: later)
    (hf : f.taken = true) :
    let w := s.headerDone src header
    let v := (w.withSources { w.sources with frames := later }).sourceStart f
    s.headerJudged src header =
      if v.sources.toJudge = [] then (if later = [] then v.frameReady else v.sourceAdvance) else v := by
  have hwframes : (s.headerDone src header).sources.frames = f :: later := by rw [State.headerDone_sources, hframes]
  have hjudge : (s.headerDone src header).sources.toJudge = [] := by
    rw [State.headerDone_sources, List.filter_eq_nil_iff]
    exact fun q hq => by simp [hlast q hq]
  dsimp only
  rw [State.headerJudged_eq]
  generalize s.headerDone src header = w at hwframes hjudge ⊢
  rw [if_pos (List.isEmpty_iff.mpr hjudge), if_neg (by simp [hwframes])]
  exact State.sourceAdvance_begins hjudge hwframes hf

/-- A wall frame start that has waited, and of which the unit is rid, acts as one taken at once. -/
theorem State.sourceStart_takes {u : State} (h : u.rolesLegal) (f : SourceFrame) (later : List SourceFrame) :
    let v := (u.withSources { u.sources with frames := later }).sourceStart f
    u.sourcesTake v f ∧ u.inputsTake v f.items ∧ v.sources.frames = later ∧
      (∀ k : Fin 16,
        (resetsInput f.items k → v.status.inputs[k] = CaptureInput.initial.reported) ∧
          (¬ resetsInput f.items k → v.status.inputs[k] = u.status.inputs[k])) ∧
      v = { u with
        sources := v.sources, inputs := v.inputs, link := v.link, port := v.port
        status := { u.status with inputs := v.status.inputs, sources := v.status.sources } } := by
  have hside : u.sourceSideStays (u.withSources { u.sources with frames := later }) := ⟨rfl, rfl, rfl, rfl, rfl⟩
  have hlegal : (u.withSources { u.sources with frames := later }).rolesLegal := h
  have hframes : (u.withSources { u.sources with frames := later }).sources.frames = later := rfl
  refine ⟨hside.sourcesTake rfl (State.sourceStart_sourcesTake hlegal f), hside.inputsTake (State.sourceStart_inputsTake _ f),
    (State.sourceStart_frames _ f).trans hframes, State.sourceStart_statusInputs _ f, ?_⟩
  exact State.sourceStart_frame (u.withSources { u.sources with frames := later }) f

/-- Settles O40: the header is judged on its channel, and what follows is either waiting or the next wall frame start. -/
theorem memoryHeaderIsJudged : Obligations.MemoryHeaderIsJudged := by
  intro s m header src c hr hlegal he hj hh tag w h good count shown judged judges
  have hsrc : isCapture src = false := by simp [src, isCapture, memorySource]
  have hjudged : c.judgeHeader header = judged := Source.judgeHeader_eq hlegal hsrc he header
  have hexec := exec_memoryHeaderRead hr rfl hj hh
  obtain ⟨hrest, houtputs⟩ := s.headerDone_rest src header
  have hdone : judges (s.headerDone src header) := by
    refine ⟨?_, fun q hq => s.headerDone_channel_of_ne header hq, ?_, ⟨?_, ?_, ?_, ?_⟩, ⟨?_, fun q hq => ?_, ?_⟩, hrest⟩
    · rw [s.headerDone_channel, ← hjudged]
    · have hgood : c.goodHeader (headerWidth header) (headerHeight header) = true ↔ good := c.goodHeader_iff w h
      have hevent : c.judgeEvent header = true ↔ _ := c.judgeEvent_iff header
      rw [hjudged, Source.expires_iff, Source.rejects, Source.accepts, hgood] at hevent
      exact (s.headerDone_event src header).trans (or_congr_right hevent)
    · rw [State.headerDone_sources]
    · rw [State.headerDone_sources]
    · rw [State.headerDone_sources]
    · rw [State.headerDone_sources]
      simp only [List.isEmpty_iff]
    · rw [State.headerDone_entry, if_pos rfl, State.headerDone_statusInputs, ← hjudged]
    · rw [State.headerDone_entry, if_neg hq]
    · exact s.headerDone_statusInputs src header
  refine ⟨fun hwaits => ?_, fun f later hlast hroles hframes hf => ?_⟩
  · obtain ⟨view, engines, port, ht⟩ := State.headerJudged_waits (header := header) hwaits
    exact ⟨_, hexec.trans (congrArg _ ht), hdone⟩
  · have hbegun := hexec.trans (congrArg _ (State.headerJudged_begins (header := header) hlast hframes hf))
    have huroles := State.headerDone_rolesLegal hroles hsrc header
    generalize s.headerDone src header = u at hdone houtputs hbegun huroles
    obtain ⟨hsources, hinputs, hrest⟩ := State.sourceStart_takes huroles f later
    dsimp only at hbegun
    generalize (u.withSources { u.sources with frames := later }).sourceStart f = v at hsources hinputs hrest hbegun
    refine ⟨u, v, hdone, houtputs, hsources, hinputs, hrest, fun hv => ?_, fun hv hl => ?_, fun hv hl => ?_⟩
    · rwa [if_neg hv] at hbegun
    · rw [if_pos hv, if_pos hl] at hbegun
      exact ⟨_, hbegun, v.frameReady_frameIsReady, v.frameReady_eq⟩
    · rwa [if_pos hv, if_neg hl] at hbegun

end Sys2Proof.Machine
end

section
/-! A capture input's lines on their way to the port: the transfers that it issues and what a grant moves on (R114, R115;
O47). -/

namespace Sys2Proof.Machine

open Sys2Proof

/-! ## The pieces of a line (R114) -/

/-- A line of whole words in a slot at a multiple of 4096 goes out in transfers of R15. -/
theorem linePieces_within {base w row : Nat} (hbase : base % 4096 = 0) {q : Nat × Nat} (hq : q ∈ linePieces base w row) :
    4 ≤ q.2 ∧ q.1 % 256 + q.2 ≤ 256 := by
  obtain ⟨hpos, hblock, -, -⟩ := pieces_within hq
  obtain ⟨-, hwords⟩ := pieces_words (by unfold lineOffset; omega) (by omega) hq
  omega

theorem linePieces_cover (base w row : Nat) :
    ((linePieces base w row).flatMap fun q => (List.range q.2).map (q.1 + ·)) =
      (List.range (4 * w)).map (base + 16 + 4 * (row * w) + ·) := by
  simp only [← List.range'_eq_map_range]
  rw [linePieces, areaPieces_cover, lineOffset, Nat.add_assoc]

/-! ## The bytes of a line -/

theorem FifoLine.bytes_length (l : FifoLine) : l.bytes.length = 4 * l.pixels.length := by
  simp [FifoLine.bytes, List.length_flatMap, pixelBytes, Nat.mul_comm]

/-- Byte k of pixel n of the pixels of a line. -/
theorem pixelBytes_get {ps : List Colour} {n k : Nat} {px : Colour} (hn : ps[n]? = some px) (hk : k < 4) :
    (ps.flatMap pixelBytes)[4 * n + k]? = some ([px.r, px.g, px.b, 0].getD k 0) := by
  induction ps generalizing n with
  | nil => simp at hn
  | cons p rest ih =>
    rw [List.flatMap_cons]
    cases n with
    | zero =>
      obtain rfl : p = px := by simpa using hn
      rw [List.getElem?_append_left (by simpa [pixelBytes] using hk), List.getD_eq_getElem?_getD,
        List.getElem?_eq_getElem (by simpa [pixelBytes] using hk)]
      simp [pixelBytes, hk]
    | succ n =>
      rw [List.getElem?_append_right (by simp only [pixelBytes, List.length_cons, List.length_nil]; omega),
        show 4 * (n + 1) + k - (pixelBytes p).length = 4 * n + k by
          simp only [pixelBytes, List.length_cons, List.length_nil]; omega]
      exact ih (by simpa using hn)

/-! ## The transfer that an input issues next (R114, R115) -/

/-- Nothing of a line goes out yet: it is the line of a torn frame, or a good frame before it has still to be published. -/
def CaptureInput.heldBack (i : CaptureInput) (l : FifoLine) : Prop :=
  l.dead = true ∨ (l.prior = false ∧ (i.good ≠ none ∨ i.report ≠ none))

section
variable {i : CaptureInput} {base : Nat} {l : FifoLine} {younger : List FifoLine}

theorem CaptureInput.heldBack_iff :
    i.heldBack l ↔ (l.dead || (!l.prior && (i.good.isSome || i.report.isSome))) = true := by
  simp [CaptureInput.heldBack, Option.isSome_iff_ne_none]

theorem CaptureInput.nextTransfer_heldBack (hf : i.fifo = l :: younger) (hh : i.heldBack l) : i.nextTransfer base = none := by
  rw [CaptureInput.heldBack_iff] at hh
  simp only [CaptureInput.nextTransfer, hf, hh, if_true]

theorem CaptureInput.nextTransfer_sent (hf : i.fifo = l :: younger) (hp : (linePieces base i.lockedW l.row)[l.sent]? = none) :
    i.nextTransfer base = none := by
  simp [CaptureInput.nextTransfer, hf, hp]

/-- The piece to come goes out as soon as the line's pixels reach its end. -/
theorem CaptureInput.nextTransfer_piece {addr len : Nat} (hf : i.fifo = l :: younger) (hh : ¬ i.heldBack l)
    (hp : (linePieces base i.lockedW l.row)[l.sent]? = some (addr, len)) :
    i.nextTransfer base =
      if addr - (base + lineOffset i.lockedW l.row) + len ≤ 4 * l.pixels.length then
        some ⟨addr, .write ((l.bytes.drop (addr - (base + lineOffset i.lockedW l.row))).take len), 1⟩
      else none := by
  rw [CaptureInput.heldBack_iff] at hh
  simp only [CaptureInput.nextTransfer, hf, if_neg hh, hp, l.bytes_length]

end

/-! ## The input's queue at the port -/

theorem State.captureIssue_queue (s : State) (c : Fin 16) :
    (s.captureIssue c).port.queue (.capture c) =
      if s.port.queue (.capture c) = [] then ((s.inputs[c]).nextTransfer (s.channel (captureSource c)).fillingBase).toList
      else s.port.queue (.capture c) := by
  unfold State.captureIssue
  by_cases hq : s.port.queue (.capture c) = []
  · rw [if_pos (List.isEmpty_iff.mpr hq), if_pos hq]
    cases (s.inputs[c]).nextTransfer (s.channel (captureSource c)).fillingBase with
    | none => exact hq
    | some x => exact s.port.setQueue_queue (.capture c) [x]
  · rw [if_neg (by simpa using hq), if_neg hq]

theorem State.captureIssue_input (s : State) (c k : Fin 16) : (s.captureIssue c).inputs[k] = s.inputs[k] := by
  rw [State.captureIssue_inputs]

theorem CaptureInput.lineGranted_nil {i : CaptureInput} (hf : i.fifo = []) (base : Nat) : i.lineGranted base = i := by
  simp only [CaptureInput.lineGranted, hf]

theorem CaptureInput.lineGranted_cons {i : CaptureInput} {l : FifoLine} {younger : List FifoLine} (hf : i.fifo = l :: younger)
    (base : Nat) :
    i.lineGranted base =
      { i with
        fifo :=
          if l.dead = true ∨ (linePieces base i.lockedW l.row).length ≤ l.sent + 1 then younger
          else { l with sent := l.sent + 1 } :: younger } := by
  simp only [CaptureInput.lineGranted, hf, Bool.or_eq_true, decide_eq_true_eq]
  split <;> rfl

theorem State.captureGranted_ownLine (s : State) (c : Fin 16) :
    (s.captureGranted c 1).inputs =
      vset s.inputs c ((s.inputs[c]).lineGranted (s.channel (captureSource c)).fillingBase) := by
  simp only [State.captureGranted, if_true, State.captureIssue_inputs]
  rfl

theorem State.captureGranted_orphan (s : State) (c : Fin 16) {tag : Nat} (h : tag ≠ 1) :
    (s.captureGranted c tag).inputs = s.inputs := by
  simp only [State.captureGranted, if_neg h, State.captureIssue_inputs]

theorem State.captureGranted_queue (s : State) (c : Fin 16) (tag : Nat) :
    (s.captureGranted c tag).port.queue (.capture c) =
      if s.port.queue (.capture c) = [] then
        (((s.captureGranted c tag).inputs[c]).nextTransfer (s.channel (captureSource c)).fillingBase).toList
      else s.port.queue (.capture c) := by
  unfold State.captureGranted
  dsimp only
  rw [State.captureIssue_queue, State.captureIssue_input]
  by_cases htag : tag = 1
  · rw [if_pos htag]
    rfl
  · rw [if_neg htag]

/-! ## The statement -/

/-- Settles O47: the pieces of a line, the transfer its input issues, and the grant of one. -/
theorem captureWritesLinesInOrder : Obligations.CaptureWritesLinesInOrder := by
  refine ⟨fun base w row hbase => ⟨fun q hq => linePieces_within hbase hq, linePieces_cover base w row⟩, ?_, ?_⟩
  · intro i base l younger hf
    refine ⟨CaptureInput.nextTransfer_heldBack hf, CaptureInput.nextTransfer_sent hf, fun addr len hh hp => ?_⟩
    obtain ⟨-, -, hlo, -⟩ := pieces_within (List.mem_of_getElem? hp)
    have hnext := CaptureInput.nextTransfer_piece hf hh hp
    have hlen := l.bytes_length
    unfold lineOffset at hnext hlo
    refine ⟨fun hshort => hnext.trans (if_neg (by omega)), fun hall => ?_⟩
    rw [if_pos (by omega)] at hnext
    refine ⟨_, hnext, ?_, fun n k px hn hstart hend hk => ?_⟩
    · rw [List.length_take, List.length_drop]
      omega
    · rw [List.getElem?_take_of_lt (by omega), List.getElem?_drop, ← pixelBytes_get hn hk]
      congr 1
      omega
  · intro s c x rest k hnext hq hk
    have hbase : ((s.carriedOut (.capture c) x).channel (captureSource c)).fillingBase =
        (s.channel (captureSource c)).desc.base k := Source.fillingBase_of_holdsAt hk
    have hinputs : (s.carriedOut (.capture c) x).inputs = s.inputs := rfl
    refine ⟨_, exec_grant hnext hq, fun hgone => ?_, fun htag l younger hf => ?_, ?_⟩
    · show ((s.carriedOut (.capture c) x).captureGranted c x.tag).inputs = s.inputs
      by_cases htag : x.tag = 1
      · have hempty := hgone.resolve_left (not_not.mpr htag)
        rw [htag, State.captureGranted_ownLine, hinputs, CaptureInput.lineGranted_nil hempty]
        exact vset_self _ _
      · exact State.captureGranted_orphan _ c htag
    · show ((s.carriedOut (.capture c) x).captureGranted c x.tag).inputs = _
      rw [htag, State.captureGranted_ownLine, hbase, hinputs, CaptureInput.lineGranted_cons hf]
    · show ((s.carriedOut (.capture c) x).captureGranted c x.tag).port.queue (.capture c) = _
      rw [State.captureGranted_queue, State.carriedOut_queue hq, hbase]
      rfl

end Sys2Proof.Machine
end

section
/-! A good frame's report, and the publication of its frame (R89, R90, R117; O48). -/

namespace Sys2Proof.Machine

open Sys2Proof

/-! ## The signal is taken (R109) -/

theorem State.listens_of {s : State} {c : Fin 16} (hr : s.control.part = .running)
    (he : (s.channel (captureSource c)).desc.enable = true) : s.listens c = true := by
  simp [State.listens, State.running, hr, he]

/-! ## The report (R117) -/

theorem CaptureInput.reportDue_of {i : CaptureInput} {d : Nat × Nat} (hg : i.good = some d)
    (hp : ∀ l ∈ i.fifo, l.prior = false) : i.reportDue = true := by
  simpa [CaptureInput.reportDue, hg] using hp

theorem exec_goodFrameReport {s : State} {c : Fin 16} {d : Nat × Nat} (hs : s.listens c = true)
    (hg : (s.inputs[c]).good = some d) (hp : ∀ l ∈ (s.inputs[c]).fifo, l.prior = false) :
    exec (.goodFrameReport c) s = .next (s.setInput c { s.inputs[c] with good := none, report := some d }) := by
  show execGoodFrameReport c s = _
  unfold execGoodFrameReport
  dsimp only
  rw [hs, CaptureInput.reportDue_of hg hp, hg]
  rfl

theorem exec_capturePublication {s : State} {c : Fin 16} {w h : Nat} (hs : s.listens c = true)
    (hr : (s.inputs[c]).report = some (w, h)) : exec (.capturePublication c) s = .next (s.publishCapture c w h) := by
  show execCapturePublication c s = _
  unfold execCapturePublication
  rw [hr, hs]
  rfl

/-! ## The channel of a published frame (R89) -/

/-- A second slot, which held another role, takes one after the first has. -/
theorem Source.setRole_setRole_get (c : Source) (i j : Fin 3) (p q : Role) (k : Fin 3) :
    ((c.setRole i p).setRole j q).roles[k] = if k = j then some q else if k = i then some p else c.roles[k] := by
  rw [Source.setRole_get, Source.setRole_get]

/-- Publication with a READY slot: it and the FILLING slot exchange their roles, and its frame is superseded. -/
theorem Source.publish_supersedes {c : Source} {i j : Fin 3} (hi : c.slotWith .filling = some i)
    (hj : c.slotWith .ready = some j) (w h : Nat) :
    c.publish w h =
      { c with
        roles := ((c.setRole i .ready).setRole j .filling).roles, readyW := w, readyH := h, sequence := c.sequence + 1,
        superseded := satInc c.superseded } := by
  simp only [Source.publish, hi, hj, Source.setRoleOpt_some, Source.setRole]

/-- Publication without a READY slot: the SPARE one becomes FILLING. -/
theorem Source.publish_spare {c : Source} {i j : Fin 3} (hi : c.slotWith .filling = some i) (hr : c.slotWith .ready = none)
    (hj : c.slotWith .spare = some j) (w h : Nat) :
    c.publish w h =
      { c with
        roles := ((c.setRole i .ready).setRole j .filling).roles, readyW := w, readyH := h, sequence := c.sequence + 1 } := by
  simp only [Source.publish, hi, hr, hj, Source.setRoleOpt_some, Source.setRole]

/-- The role of slot k once the frame in the FILLING slot has been published (R89). -/
def Source.publishedRole (c : Source) (k : Fin 3) : Option Role :=
  if c.roles[k] = some .filling then some .ready
  else if c.roles[k] = some .ready then some .filling
  else if (∀ j : Fin 3, c.roles[j] ≠ some .ready) ∧ c.slotWith .spare = some k then some .filling
  else c.roles[k]

/-- R89 for an enabled capture source with legal roles. -/
theorem Source.publish_published {c : Source} {src : Fin 32} (hl : c.rolesLegal src) (he : c.desc.enable = true)
    (hc : isCapture src = true) (w h : Nat) :
    (∀ k : Fin 3, (c.publish w h).roles[k] = c.publishedRole k) ∧
      c.publish w h =
        { c with
          roles := (c.publish w h).roles, readyW := w, readyH := h, sequence := c.sequence + 1,
          superseded :=
            if (∃ j : Fin 3, c.roles[j] = some .ready) ∧ c.superseded ≠ 0xFFFFFFFF then c.superseded + 1
            else c.superseded } := by
  obtain ⟨i, hi⟩ := hl.filling he
  obtain ⟨-, hfilling, -, hready⟩ := (Source.rolesLegal_on he).mp hl
  rw [if_pos hc] at hready
  have hfill (k : Fin 3) := Source.holds_iff (by omega) hi k
  cases hr : c.slotWith .ready with
  | some j =>
    have hrd (k : Fin 3) := Source.holds_iff hready hr k
    have hne : j ≠ i := Source.slots_ne (Source.slotWith_holds hi) (Source.slotWith_holds hr) (by decide)
    rw [Source.publish_supersedes hi hr]
    refine ⟨fun k => ?_, ?_⟩
    · have hany : ¬ ∀ k : Fin 3, c.roles[k] ≠ some .ready := fun hn => hn j (Source.slotWith_holds hr)
      rw [Source.setRole_setRole_get, Source.publishedRole]
      simp only [hfill, hrd, hany, false_and, if_false]
      split
      · subst k
        rw [if_neg hne]
      · rfl
    · congr 1
      have hany : ∃ k : Fin 3, c.roles[k] = some .ready := ⟨j, Source.slotWith_holds hr⟩
      simp only [hany, true_and, satInc, ne_eq, ite_not]
  | none =>
    obtain ⟨j, hj⟩ := hl.spare he (by rw [if_pos hc, hr])
    have hnone := Source.slotWith_eq_none.mp hr
    have hne : j ≠ i := Source.slots_ne (Source.slotWith_holds hi) (Source.slotWith_holds hj) (by decide)
    rw [Source.publish_spare hi hr hj]
    refine ⟨fun k => ?_, ?_⟩
    · have hall : ∀ k : Fin 3, c.roles[k] ≠ some .ready := hnone
      rw [Source.setRole_setRole_get, Source.publishedRole, hj, if_neg (hnone k)]
      simp only [hfill, hall, ne_eq, not_false_eq_true, implies_true, true_and, Option.some.injEq]
      split
      · subst k
        rw [if_neg hne, if_pos rfl]
      · rw [if_neg (Ne.symm ‹¬ k = j›)]
    · congr 1
      rw [if_neg fun ⟨⟨k, hk⟩, _⟩ => hnone k hk]

/-! ## The state of a published frame (R89, R90) -/

theorem Source.headerWrite_eq {c : Source} {k : Fin 3} (hk : c.slotWith .filling = some k) (w h : Nat) :
    c.headerWrite w h =
      ⟨c.desc.base k,
        .write (leBytes 2 (c.sequence + 1).toNat ++ leBytes 2 w ++ leBytes 2 h ++ List.replicate 10 0), 0⟩ := by
  simp only [Source.headerWrite, Source.fillingBase, hk]
  rfl

/-- The state in which the source unit has taken a report and the input has not yet gone on into its new slot. -/
def State.reportTaken (s : State) (c : Fin 16) (w h : Nat) : State :=
  { s with
    inputs := vset s.inputs c { s.inputs[c] with report := none }
    sources := { s.sources with
      channels := vset s.sources.channels (captureSource c) ((s.channel (captureSource c)).publish w h) }
    port := s.port.issue (.control sourceUnit) [(s.channel (captureSource c)).headerWrite w h] }

theorem State.publishCapture_eq (s : State) (c : Fin 16) (w h : Nat) :
    s.publishCapture c w h = (s.reportTaken c w h).captureIssue c := rfl

theorem State.reportTaken_queue (s : State) (c : Fin 16) (w h : Nat) (k : Fin 16) :
    (s.reportTaken c w h).port.queue (.capture k) = s.port.queue (.capture k) :=
  Port.issue_queue_of_ne s.port (r := .control sourceUnit) _ (by simp)

/-- Settles O48: the report, and what the source unit and then the input do with it. -/
theorem reportsArePublished : Obligations.ReportsArePublished := by
  intro s c w h i src ch hr he
  have hs := State.listens_of hr he
  refine ⟨fun hg hp => exec_goodFrameReport hs hg hp, fun hreport hl => ?_⟩
  refine ⟨_, exec_capturePublication hs hreport, ?_⟩
  obtain ⟨hroles, hchannel⟩ := Source.publish_published hl he (decide_eq_true c.isLt) w h
  obtain ⟨hinputs, hqueues, hall⟩ := (s.reportTaken c w h).captureIssue_only c
  have hown := (s.reportTaken c w h).captureIssue_queue c
  have hsame := (s.reportTaken c w h).captureIssue_inputs c
  rw [← State.publishCapture_eq] at hinputs hqueues hall hown hsame
  have hsources : (s.publishCapture c w h).sources = (s.reportTaken c w h).sources := by rw [hall]
  have hthis : (s.publishCapture c w h).channel src = ch.publish w h := by
    rw [State.channel, hsources]
    exact vset_get _ _ _
  have hothers (q : Fin 32) (hq : q ≠ src) : (s.publishCapture c w h).channel q = s.channel q := by
    rw [State.channel, hsources]
    exact vset_get_of_ne _ _ hq
  have hunit : (s.publishCapture c w h).port.queue (.control sourceUnit) =
      s.port.queue (.control sourceUnit) ++ [ch.headerWrite w h] :=
    (hqueues _ (by simp)).trans (s.port.issue_queue (.control sourceUnit) _)
  generalize s.publishCapture c w h = t at *
  refine ⟨fun k => ?_, ?_, fun k hk => ?_, hsame, hothers, ?_, fun k hk => ?_, ?_⟩
  · rw [hthis]
    exact hroles k
  · rw [hthis]
    exact hchannel
  · obtain ⟨-, hone, -⟩ := (Source.rolesLegal_on he).mp hl
    obtain ⟨j, hj⟩ := hl.filling he
    obtain rfl := (Source.holds_iff (by omega) hj k).mp hk
    rw [hunit, Source.headerWrite_eq hj]
  · simp only [hown, State.reportTaken_queue, State.channel, hsources, hsame, src]
  · rw [hqueues _ (by simpa using hk), State.reportTaken_queue]
  · conv_lhs => rw [hall]
    rw [hunit, hsources]
    rfl

end Sys2Proof.Machine
end

section
/-! Line-start marks and pixels fill the line FIFO (R108, R114, R115; O46). -/

namespace Sys2Proof.Machine

open Sys2Proof

/-! ## The lines of a discarded frame leave the FIFO (R114, R115) -/

@[simp] theorem keptLines_keptLines (fifo : List FifoLine) : keptLines (keptLines fifo) = keptLines fifo := by
  simp [keptLines]

/-- Of the lines that stay, none belongs to the frame in progress. -/
theorem headCurrent_keptLines (fifo : List FifoLine) : headCurrent (keptLines fifo) = false := by
  unfold headCurrent
  split
  · rename_i l rest hl
    have hmem : l ∈ fifo.filter fun l => l.prior || l.dead := by
      rw [← keptLines, hl]
      exact List.mem_cons_self ..
    have hstays := (List.mem_filter.mp hmem).2
    revert hstays
    cases l.prior <;> cases l.dead <;> simp
  · rfl

/-- The transfers that wait once the lines of the frame in progress have left the FIFO. -/
def leftWaiting (fifo : List FifoLine) (ts : List Transfer) : List Transfer :=
  if headCurrent fifo = true then orphan ts else ts

@[simp] theorem leftWaiting_keptLines (fifo : List FifoLine) (ts : List Transfer) : leftWaiting (keptLines fifo) ts = ts := by
  simp [leftWaiting, headCurrent_keptLines]

theorem leftWaiting_eq_nil (fifo : List FifoLine) (ts : List Transfer) : leftWaiting fifo ts = [] ↔ ts = [] := by
  unfold leftWaiting
  split
  · simp [orphan]
  · rfl

/-- They are the same transfers, with the same bytes. -/
theorem leftWaiting_places (fifo : List FifoLine) (ts : List Transfer) :
    ((leftWaiting fifo ts).map fun x => (x.addr, x.op)) = ts.map fun x => (x.addr, x.op) := by
  unfold leftWaiting
  split
  · simp [orphan]
  · rfl

theorem leftWaiting_orphaned {l : FifoLine} {rest : List FifoLine} {ts : List Transfer} (hp : l.prior = false)
    (hd : l.dead = false) : ∀ x ∈ leftWaiting (l :: rest) ts, x.tag = 0 := by
  intro x hx
  rw [leftWaiting, if_pos (by simp [headCurrent, hp, hd]), orphan, List.mem_map] at hx
  obtain ⟨t, -, rfl⟩ := hx
  rfl

theorem State.setInput_input (s : State) (c : Fin 16) (i : CaptureInput) : (s.setInput c i).inputs[c] = i := vset_get _ _ _

theorem State.dropCurrentLines_input (s : State) (c : Fin 16) :
    (s.dropCurrentLines c).inputs[c] = { s.inputs[c] with fifo := keptLines (s.inputs[c]).fifo } := by
  unfold State.dropCurrentLines
  dsimp only
  split <;> exact vset_get _ _ _

theorem State.dropCurrentLines_queue (s : State) (c : Fin 16) :
    (s.dropCurrentLines c).port.queue (.capture c) = leftWaiting (s.inputs[c]).fifo (s.port.queue (.capture c)) := by
  unfold State.dropCurrentLines leftWaiting
  dsimp only
  split
  · exact Port.setQueue_queue s.port (.capture c) _
  · rfl

/-! ## The line in progress ends (R108, R114) -/

/-- The line in progress of a written frame has another width than the locked one (R114). -/
def CaptureFrame.differs (f : CaptureFrame) (width : Nat) : Bool := f.written && f.inLine && f.pixels != width

theorem CaptureFrame.differs_iff (f : CaptureFrame) (width : Nat) :
    f.differs width = true ↔ f.inLine = true ∧ f.written = true ∧ f.pixels ≠ width := by
  simp only [CaptureFrame.differs, Bool.and_eq_true, bne_iff_ne]
  tauto

/-- A frame whose line in progress, if there is one, has ended and been compared with the locked width. -/
def CaptureFrame.ended (f : CaptureFrame) (width : Nat) : CaptureFrame :=
  { f.closeLine with mismatch := f.mismatch || f.differs width }

/-- An input whose line in progress has ended. -/
def CaptureInput.lineEnded (i : CaptureInput) (f : CaptureFrame) : CaptureInput :=
  { i with
    frame := some (f.ended i.lockedW)
    fifo := if f.differs i.lockedW = true then keptLines i.fifo else i.fifo }

section
variable {s : State} {c : Fin 16} {f : CaptureFrame}

theorem State.endLine_input (hf : (s.inputs[c]).frame = some f) :
    (s.endLine c).inputs[c] = (s.inputs[c]).lineEnded f := by
  unfold State.endLine CaptureInput.lineEnded CaptureFrame.ended CaptureFrame.differs
  simp only [hf]
  split
  · rw [State.dropCurrentLines_input, State.setInput_input]
  · exact State.setInput_input _ _ _

theorem State.endLine_queue (hf : (s.inputs[c]).frame = some f) :
    (s.endLine c).port.queue (.capture c) =
      if f.differs (s.inputs[c]).lockedW = true then leftWaiting (s.inputs[c]).fifo (s.port.queue (.capture c))
      else s.port.queue (.capture c) := by
  unfold State.endLine CaptureFrame.differs
  simp only [hf]
  split
  · rw [State.dropCurrentLines_queue, State.setInput_input]
    rfl
  · rfl

end

theorem State.endLine_idle {s : State} {c : Fin 16} (hf : (s.inputs[c]).frame = none) : s.endLine c = s := by
  unfold State.endLine
  simp only [hf]

/-! ## The line that begins (R114, R115) -/

/-- An input of a written frame once the new line, of a row, has found its place, or none. -/
def CaptureInput.lineEntered (i : CaptureInput) (f : CaptureFrame) (row : Nat) (waits : Bool) : CaptureInput :=
  if i.lockedH ≤ row then { i with frame := some { f with mismatch := true }, fifo := keptLines i.fifo }
  else if (f.torn || f.mismatch) = true then i
  else if i.fifo.length < 4 then { i with fifo := i.fifo ++ [⟨row, [], 0, false, false⟩] }
  else { i with frame := some { f with torn := true }, fifo := tornFifo i.fifo waits }

section
variable {s : State} {c : Fin 16} {f : CaptureFrame}

theorem State.enterLine_input (hf : (s.inputs[c]).frame = some f) (row : Nat) :
    (s.enterLine c row).inputs[c] = (s.inputs[c]).lineEntered f row (s.lineWaits c) := by
  unfold State.enterLine CaptureInput.lineEntered
  simp only [hf, Config.fifoLines]
  split
  · rw [State.dropCurrentLines_input, State.setInput_input]
  · split
    · rfl
    · split
      · exact State.setInput_input _ _ _
      · exact State.setInput_input _ _ _

theorem State.enterLine_queue (hf : (s.inputs[c]).frame = some f) (row : Nat) :
    (s.enterLine c row).port.queue (.capture c) =
      if (s.inputs[c]).lockedH ≤ row then leftWaiting (s.inputs[c]).fifo (s.port.queue (.capture c))
      else s.port.queue (.capture c) := by
  unfold State.enterLine
  simp only [hf]
  split
  · rw [State.dropCurrentLines_queue, State.setInput_input]
    rfl
  · split
    · rfl
    · split <;> rfl

end

/-- The end of a line changes the measured widths alone. -/
theorem CaptureFrame.closeLine_rest (f : CaptureFrame) :
    f.closeLine = { f with inLine := false, width := f.closeLine.width, agree := f.closeLine.agree } := by
  obtain ⟨lines, width, agree, inLine, pixels, written, skipped, torn, mismatch⟩ := f
  cases inLine <;> cases width <;> rfl

@[simp] theorem CaptureFrame.closeLine_lines (f : CaptureFrame) : f.closeLine.lines = f.lines := by rw [closeLine_rest]
@[simp] theorem CaptureFrame.closeLine_written (f : CaptureFrame) : f.closeLine.written = f.written := by rw [closeLine_rest]
@[simp] theorem CaptureFrame.closeLine_skipped (f : CaptureFrame) : f.closeLine.skipped = f.skipped := by rw [closeLine_rest]
@[simp] theorem CaptureFrame.closeLine_torn (f : CaptureFrame) : f.closeLine.torn = f.torn := by rw [closeLine_rest]
@[simp] theorem CaptureFrame.closeLine_mismatch (f : CaptureFrame) : f.closeLine.mismatch = f.mismatch := by
  rw [closeLine_rest]

/-- The frame whose line has ended and whose next one begins, with its two marks. -/
def CaptureFrame.nextLine (f : CaptureFrame) (mismatch torn : Bool) : CaptureFrame :=
  { f.closeLine with lines := min 2401 (f.lines + 1), inLine := true, pixels := 0, mismatch := mismatch, torn := torn }

/-- A line-start mark finds a line of another width ended, or begins one line too many (R114). -/
def CaptureInput.mismatches (i : CaptureInput) (f : CaptureFrame) : Bool :=
  f.differs i.lockedW || (f.written && decide (i.lockedH ≤ f.lines))

/-- The line that begins belongs to a frame that is still good, and finds no place (R115). -/
def CaptureInput.tears (i : CaptureInput) (f : CaptureFrame) : Bool :=
  f.written && !f.torn && !(f.mismatch || i.mismatches f) && decide (4 ≤ i.fifo.length)

/-- An input after a line-start mark. -/
def CaptureInput.lineBegun (i : CaptureInput) (f : CaptureFrame) (waits : Bool) : CaptureInput :=
  { i with
    frame := some (f.nextLine (f.mismatch || i.mismatches f) (f.torn || i.tears f))
    fifo :=
      if i.mismatches f = true then keptLines i.fifo
      else if f.written = false ∨ f.torn = true ∨ f.mismatch = true then i.fifo
      else if i.fifo.length < 4 then i.fifo ++ [⟨f.lines, [], 0, false, false⟩]
      else tornFifo i.fifo waits }

/-- An input whose line has ended, with the next one counted. -/
def CaptureInput.lineCounted (i : CaptureInput) (f : CaptureFrame) : CaptureInput :=
  { i.lineEnded f with frame := some (f.nextLine (f.mismatch || f.differs i.lockedW) f.torn) }

/-- The new line of a written frame, entered once the line before it has ended. -/
theorem CaptureInput.lineCounted_entered (i : CaptureInput) {f : CaptureFrame} {waits waits' : Bool} (hw : f.written = true)
    (hwaits : f.differs i.lockedW = false → waits' = waits) :
    (i.lineCounted f).lineEntered (f.nextLine (f.mismatch || f.differs i.lockedW) f.torn) f.lines waits' =
      i.lineBegun f waits := by
  unfold CaptureInput.lineEntered CaptureInput.lineCounted CaptureInput.lineEnded CaptureInput.lineBegun
    CaptureFrame.nextLine
  by_cases hmany : i.lockedH ≤ f.lines
  · have hbad : i.mismatches f = true := by simp [CaptureInput.mismatches, hw, hmany]
    have hholds : i.tears f = false := by simp [CaptureInput.tears, hbad]
    cases hd : f.differs i.lockedW <;> simp [hmany, hbad, hholds]
  · have hbad : i.mismatches f = f.differs i.lockedW := by simp [CaptureInput.mismatches, hmany]
    cases hd : f.differs i.lockedW with
    | true =>
      have hholds : i.tears f = false := by simp [CaptureInput.tears, hbad, hd]
      simp [hmany, hbad, hholds, hd]
    | false =>
      rw [hwaits hd]
      by_cases hgone : f.torn = true ∨ f.mismatch = true
      · have hholds : i.tears f = false := by
          rcases hgone with ht | hm <;> simp [CaptureInput.tears, *]
        simp [hmany, hbad, hholds, hd, hgone]
      · obtain ⟨ht, hm⟩ : f.torn = false ∧ f.mismatch = false := by simpa using hgone
        have htears : i.tears f = decide (4 ≤ i.fifo.length) := by simp [CaptureInput.tears, hw, ht, hm, hbad, hd]
        by_cases hroom : i.fifo.length < 4
        · simp [hmany, hbad, htears, hd, ht, hm, hw, hroom]
        · simp [hmany, hbad, htears, hd, ht, hm, hw, hroom, Nat.not_lt.mp hroom]

/-- A line-start mark of a frame that is not written counts the line. -/
theorem CaptureInput.lineCounted_unwritten (i : CaptureInput) {f : CaptureFrame} (hw : f.written = false) (waits : Bool) :
    i.lineCounted f = i.lineBegun f waits := by
  have hd : f.differs i.lockedW = false := by simp [CaptureFrame.differs, hw]
  have hbad : i.mismatches f = false := by simp [CaptureInput.mismatches, hw, hd]
  have hholds : i.tears f = false := by simp [CaptureInput.tears, hw]
  simp [CaptureInput.lineCounted, CaptureInput.lineEnded, CaptureInput.lineBegun, hw, hd, hbad, hholds]

/-- The state in which the line before has ended and the new one is counted. -/
def State.lineCounted (s : State) (c : Fin 16) (f : CaptureFrame) : State :=
  (s.endLine c).setInput c ((s.inputs[c]).lineCounted f)

/-- The state in which the new line has found its place, or none. -/
def State.lineBegun (s : State) (c : Fin 16) (f : CaptureFrame) : State :=
  if f.written = true then (s.lineCounted c f).enterLine c f.lines else s.lineCounted c f

section
variable {s : State} {c : Fin 16} {f : CaptureFrame}

/-- A line-start mark of a frame in progress. -/
theorem State.lineStartMark_eq (hf : (s.inputs[c]).frame = some f) :
    s.lineStartMark c = (s.lineBegun c f).captureIssue c := by
  unfold State.lineStartMark State.lineBegun State.lineCounted CaptureInput.lineCounted
  simp only [State.endLine_input hf, CaptureInput.lineEnded, CaptureFrame.ended, CaptureFrame.nextLine,
    CaptureFrame.closeLine_lines, CaptureFrame.closeLine_written, CaptureFrame.closeLine_torn]

theorem State.lineBegun_channel (s : State) (c : Fin 16) (f : CaptureFrame) (src : Fin 32) :
    (s.lineBegun c f).channel src = s.channel src := by
  unfold State.lineBegun State.lineCounted State.channel
  split <;> simp

theorem State.lineCounted_input (s : State) (c : Fin 16) (f : CaptureFrame) :
    (s.lineCounted c f).inputs[c] = (s.inputs[c]).lineCounted f := State.setInput_input _ _ _

theorem State.lineCounted_frame (s : State) (c : Fin 16) (f : CaptureFrame) :
    ((s.lineCounted c f).inputs[c]).frame = some (f.nextLine (f.mismatch || f.differs (s.inputs[c]).lockedW) f.torn) := by
  rw [State.lineCounted_input]
  rfl

theorem State.lineCounted_queue (hf : (s.inputs[c]).frame = some f) :
    (s.lineCounted c f).port.queue (.capture c) =
      if f.differs (s.inputs[c]).lockedW = true then leftWaiting (s.inputs[c]).fifo (s.port.queue (.capture c))
      else s.port.queue (.capture c) := State.endLine_queue hf

theorem State.lineBegun_input (hf : (s.inputs[c]).frame = some f) :
    (s.lineBegun c f).inputs[c] = (s.inputs[c]).lineBegun f (s.lineWaits c) := by
  unfold State.lineBegun
  cases hw : f.written with
  | false =>
    rw [if_neg (by simp), State.lineCounted_input, CaptureInput.lineCounted_unwritten _ hw]
  | true =>
    rw [if_pos rfl, State.enterLine_input (s.lineCounted_frame c f), State.lineCounted_input]
    refine CaptureInput.lineCounted_entered _ hw fun hd => ?_
    have hqueue := State.lineCounted_queue hf
    rw [hd] at hqueue
    simp only [State.lineWaits, hqueue]
    rfl

theorem State.lineBegun_queue (hf : (s.inputs[c]).frame = some f) :
    (s.lineBegun c f).port.queue (.capture c) =
        if (s.inputs[c]).mismatches f = true then leftWaiting (s.inputs[c]).fifo (s.port.queue (.capture c))
        else s.port.queue (.capture c) := by
  have hqueue := State.lineCounted_queue hf
  unfold State.lineBegun
  cases hw : f.written with
  | false =>
    have hd : f.differs (s.inputs[c]).lockedW = false := by simp [CaptureFrame.differs, hw]
    have hbad : (s.inputs[c]).mismatches f = false := by rw [CaptureInput.mismatches, hd, hw]; rfl
    rw [if_neg (by simp), hqueue, hd, hbad]
  | true =>
    rw [if_pos rfl, State.enterLine_queue (s.lineCounted_frame c f), hqueue, State.lineCounted_input]
    generalize s.inputs[c] = i
    cases hd : f.differs i.lockedW with
    | true => simp [CaptureInput.lineCounted, CaptureInput.lineEnded, CaptureInput.mismatches, hd]
    | false => simp [CaptureInput.lineCounted, CaptureInput.lineEnded, CaptureInput.mismatches, hd, hw]

/-- The port's queue of the input after a line-start mark: what waited, or else what the input issues next. -/
theorem State.lineStartMark_queue (hf : (s.inputs[c]).frame = some f) :
    (s.lineStartMark c).port.queue (.capture c) =
      if s.port.queue (.capture c) = [] then
        (((s.inputs[c]).lineBegun f (s.lineWaits c)).nextTransfer (s.channel (captureSource c)).fillingBase).toList
      else if (s.inputs[c]).mismatches f = true then leftWaiting (s.inputs[c]).fifo (s.port.queue (.capture c))
      else s.port.queue (.capture c) := by
  rw [State.lineStartMark_eq hf, State.captureIssue_queue, State.lineBegun_input hf, State.lineBegun_queue hf,
    State.lineBegun_channel]
  split
  · simp only [leftWaiting_eq_nil]
  · rfl

theorem State.lineStartMark_input (hf : (s.inputs[c]).frame = some f) :
    (s.lineStartMark c).inputs[c] = (s.inputs[c]).lineBegun f (s.lineWaits c) := by
  rw [State.lineStartMark_eq hf, State.captureIssue_input, State.lineBegun_input hf]

end

theorem State.lineStartMark_idle {s : State} {c : Fin 16} (hf : (s.inputs[c]).frame = none) : s.lineStartMark c = s := by
  unfold State.lineStartMark
  simp only [State.endLine_idle hf, hf]

/-! ## The line-start mark in the terms of the rules -/

section
variable {i : CaptureInput} {f : CaptureFrame}

theorem CaptureInput.mismatches_iff :
    i.mismatches f = true ↔
      (f.inLine = true ∧ f.written = true ∧ f.pixels ≠ i.lockedW) ∨ (f.written = true ∧ i.lockedH ≤ f.lines) := by
  rw [CaptureInput.mismatches, Bool.or_eq_true, CaptureFrame.differs_iff, Bool.and_eq_true, decide_eq_true_eq]

theorem CaptureInput.tears_iff :
    i.tears f = true ↔
      f.written = true ∧ f.torn = false ∧ ¬ (f.mismatch = true ∨ i.mismatches f = true) ∧ 4 ≤ i.fifo.length := by
  simp [CaptureInput.tears, and_assoc]

theorem CaptureInput.lineBegun_mismatches (h : i.mismatches f = true) (waits : Bool) :
    (i.lineBegun f waits).fifo = keptLines i.fifo := if_pos h

theorem CaptureInput.lineBegun_left (h : i.mismatches f = false)
    (hl : f.written = false ∨ f.torn = true ∨ f.mismatch = true) (waits : Bool) : (i.lineBegun f waits).fifo = i.fifo := by
  simp only [CaptureInput.lineBegun, h, Bool.false_eq_true, if_false, if_pos hl]

theorem CaptureInput.lineBegun_enters (h : i.mismatches f = false) (hw : f.written = true) (ht : f.torn = false)
    (hm : f.mismatch = false) (hroom : i.fifo.length < 4) (waits : Bool) :
    (i.lineBegun f waits).fifo = i.fifo ++ [⟨f.lines, [], 0, false, false⟩] := by
  simp [CaptureInput.lineBegun, h, hw, ht, hm, hroom]

theorem CaptureInput.lineBegun_tears (h : i.tears f = true) (waits : Bool) :
    (i.lineBegun f waits).fifo = tornFifo i.fifo waits := by
  obtain ⟨hw, ht, hgood, hfull⟩ := CaptureInput.tears_iff.mp h
  rw [not_or, Bool.not_eq_true, Bool.not_eq_true] at hgood
  simp [CaptureInput.lineBegun, hw, ht, hgood, Nat.not_lt.mpr hfull]

/-- Of a torn frame, the oldest line stays while its own transfer waits. -/
theorem tornFifo_cons (l : FifoLine) (rest : List FifoLine) (waits : Bool) :
    tornFifo (l :: rest) waits =
      if l.prior = false ∧ l.dead = false ∧ waits = true then { l with dead := true } :: keptLines rest
      else keptLines (l :: rest) := by
  have hown : (waits && headCurrent (l :: rest)) = true ↔ l.prior = false ∧ l.dead = false ∧ waits = true := by
    simp only [headCurrent, Bool.and_eq_true, Bool.not_eq_true']
    tauto
  simp only [tornFifo, hown]

end

/-! ## A pixel (R108, R114) -/

/-- A pixel of the frame is kept (R114). -/
def CaptureFrame.keeps (f : CaptureFrame) (width : Nat) : Bool :=
  f.written && !f.torn && !f.mismatch && decide (f.pixels < width)

theorem CaptureFrame.keeps_iff (f : CaptureFrame) (width : Nat) :
    f.keeps width = true ↔ f.written = true ∧ f.torn = false ∧ f.mismatch = false ∧ f.pixels < width := by
  simp [CaptureFrame.keeps, and_assoc]

/-- An input that has taken a pixel of the line in progress. -/
def CaptureInput.pixelTaken (i : CaptureInput) (f : CaptureFrame) (p : Colour) : CaptureInput :=
  { i with
    frame := some { f with pixels := min 4097 (f.pixels + 1) }
    fifo := if f.keeps i.lockedW = true then keepPixel p i.fifo else i.fifo }

section
variable {s : State} {c : Fin 16} {f : CaptureFrame}

theorem State.pixel_idle (hf : (s.inputs[c]).frame = none) (p : Colour) : s.pixel c p = s := by
  unfold State.pixel
  simp only [hf]

theorem State.pixel_outside (hf : (s.inputs[c]).frame = some f) (hl : f.inLine = false) (p : Colour) : s.pixel c p = s := by
  unfold State.pixel
  simp only [hf, hl, Bool.false_eq_true, if_false]

theorem State.pixel_inLine (hf : (s.inputs[c]).frame = some f) (hl : f.inLine = true) (p : Colour) :
    s.pixel c p = (s.setInput c ((s.inputs[c]).pixelTaken f p)).captureIssue c := by
  unfold State.pixel
  simp only [hf, if_pos hl]
  rfl

theorem State.pixel_input (hf : (s.inputs[c]).frame = some f) (hl : f.inLine = true) (p : Colour) :
    (s.pixel c p).inputs[c] = (s.inputs[c]).pixelTaken f p := by
  rw [State.pixel_inLine hf hl, State.captureIssue_input, State.setInput_input]

theorem State.pixel_queue (hf : (s.inputs[c]).frame = some f) (hl : f.inLine = true) (p : Colour) :
    (s.pixel c p).port.queue (.capture c) =
      if s.port.queue (.capture c) = [] then
        (((s.inputs[c]).pixelTaken f p).nextTransfer (s.channel (captureSource c)).fillingBase).toList
      else s.port.queue (.capture c) := by
  rw [State.pixel_inLine hf hl, State.captureIssue_queue, State.setInput_input]
  rfl

end

/-- The pixel goes to the youngest line. -/
theorem keepPixel_append (p : Colour) (older : List FifoLine) {l : FifoLine} (hp : l.prior = false) (hd : l.dead = false) :
    keepPixel p (older ++ [l]) = older ++ [{ l with pixels := l.pixels ++ [p] }] := by
  induction older with
  | nil => simp [keepPixel, hp, hd]
  | cons first rest ih =>
    rw [List.cons_append, List.cons_append, ← ih]
    cases rest <;> rfl

/-! ## The statement -/

theorem exec_lineStartMark {s : State} {c : Fin 16} (hs : s.listens c = true) :
    exec (.lineStartMark c) s = .next (s.lineStartMark c) := by
  show execLineStartMark c s = _
  rw [execLineStartMark, if_pos hs]

theorem exec_pixel {s : State} {c : Fin 16} (hs : s.listens c = true) (p : Colour) :
    exec (.pixel c p) s = .next (s.pixel c p) := by
  show execPixel c p s = _
  rw [execPixel, if_pos hs]

/-- Settles O46: the mark and the pixel, each by the input and the queue that it leaves. -/
theorem linesAndPixelsFillTheFifo : Obligations.LinesAndPixelsFillTheFifo := by
  intro s c p i base waiting hr he
  have hs := State.listens_of hr he
  refine ⟨fun hf => ⟨?_, ?_⟩, fun f hf => ⟨?_, ?_⟩⟩
  · rw [exec_lineStartMark hs, State.lineStartMark_idle hf]
  · rw [exec_pixel hs, State.pixel_idle hf]
  · intro differs tooMany mismatch tears kept
    refine ⟨_, exec_lineStartMark hs, ?_⟩
    obtain ⟨hinputs, hqueues, hall⟩ := s.lineStartMark_only c
    have hin := State.lineStartMark_input hf
    have hown := State.lineStartMark_queue hf
    rw [hin, hown]
    have hmis : i.mismatches f = true ↔ differs ∨ tooMany := CaptureInput.mismatches_iff
    have hno : ¬ (differs ∨ tooMany) ↔ i.mismatches f = false := by rw [← hmis, Bool.not_eq_true]
    have hmark : (f.mismatch = true ∨ i.mismatches f = true) ↔ mismatch := by rw [hmis]
    have htears : i.tears f = true ↔ tears := by rw [CaptureInput.tears_iff, hmark]
    refine ⟨⟨_, rfl, rfl, rfl, rfl, rfl, rfl, f.closeLine_written, f.closeLine_skipped, ?_, ?_⟩, ?_, ?_, ?_, ?_,
      ⟨?_, ?_, ?_⟩, hinputs, hqueues, hall⟩
    · rw [← hmark, ← Bool.or_eq_true]
      rfl
    · rw [← htears, ← Bool.or_eq_true]
      rfl
    · intro hw ht hgood hroom
      rw [← hmark, not_or, Bool.not_eq_true, Bool.not_eq_true] at hgood
      exact CaptureInput.lineBegun_enters hgood.2 hw ht hgood.1 hroom _
    · rintro (hw | ⟨hgone, hd, hm⟩)
      · refine CaptureInput.lineBegun_left (hno.mp ?_) (.inl hw) _
        rintro (hd | hm)
        · exact absurd hd.2.1 (by simp [hw])
        · exact absurd hm.1 (by simp [hw])
      · exact CaptureInput.lineBegun_left (hno.mp (not_or.mpr ⟨hd, hm⟩)) (.inr hgone) _
    · exact fun h => CaptureInput.lineBegun_mismatches (hmis.mpr h) _
    · intro h l rest hfifo
      rw [CaptureInput.lineBegun_tears (htears.mpr h), hfifo, tornFifo_cons]
      simp only [State.lineWaits_eq]
      rfl
    · intro hwait
      rw [if_neg hwait]
      split
      · exact leftWaiting_places _ _
      · rfl
    · intro h hwait l rest hfifo hp hd
      rw [if_neg hwait, if_pos (hmis.mpr h), hfifo]
      exact leftWaiting_orphaned hp hd
    · exact fun hwait => if_pos hwait
  · refine ⟨_, exec_pixel hs p, fun hl => State.pixel_outside hf hl p, fun hl => ?_, s.pixel_only c p⟩
    rw [State.pixel_input hf hl, State.pixel_queue hf hl]
    refine ⟨rfl, fun older l hfifo hp hd hw ht hm hcol => ?_, fun hnot => ?_, rfl⟩
    · rw [← keepPixel_append p older hp hd, ← hfifo]
      exact if_pos ((f.keeps_iff _).mpr ⟨hw, ht, hm, hcol⟩)
    · refine if_neg fun hkeeps => ?_
      obtain ⟨hw, ht, hm, hcol⟩ := (f.keeps_iff _).mp hkeeps
      have hbeyond : i.lockedW ≤ f.pixels := by simpa [hw, ht, hm] using hnot
      exact absurd hcol (Nat.not_lt.mpr hbeyond)

end Sys2Proof.Machine
end

section
/-! A frame-start mark: what it changes, the frame that it begins, and an input that acquires a signal and locks (R108, R110 to
R112, R114, R118; O44). -/

namespace Sys2Proof.Machine

open Sys2Proof

/-! ## The frame that a mark begins (R114, R118) -/

section
variable (i : CaptureInput)

@[simp] theorem CaptureInput.beginFrame_loss : i.beginFrame.loss = 0 := by
  unfold CaptureInput.beginFrame
  split <;> rfl

/-- The mark leaves the input as it stands but for the frame, whether it is written, and the loss counter. -/
theorem CaptureInput.beginFrame_rest :
    i.beginFrame = { i with frame := i.beginFrame.frame, lastWritten := i.beginFrame.lastWritten, loss := 0 } := by
  unfold CaptureInput.beginFrame
  split <;> rfl

@[simp] theorem CaptureInput.beginFrame_state : i.beginFrame.state = i.state := by rw [beginFrame_rest]
@[simp] theorem CaptureInput.beginFrame_candidate : i.beginFrame.candidate = i.candidate := by rw [beginFrame_rest]
@[simp] theorem CaptureInput.beginFrame_count : i.beginFrame.count = i.count := by rw [beginFrame_rest]
@[simp] theorem CaptureInput.beginFrame_lockedW : i.beginFrame.lockedW = i.lockedW := by rw [beginFrame_rest]
@[simp] theorem CaptureInput.beginFrame_lockedH : i.beginFrame.lockedH = i.lockedH := by rw [beginFrame_rest]
@[simp] theorem CaptureInput.beginFrame_oversize : i.beginFrame.oversize = i.oversize := by rw [beginFrame_rest]
@[simp] theorem CaptureInput.beginFrame_halved : i.beginFrame.halved = i.halved := by rw [beginFrame_rest]
@[simp] theorem CaptureInput.beginFrame_tornRun : i.beginFrame.tornRun = i.tornRun := by rw [beginFrame_rest]
@[simp] theorem CaptureInput.beginFrame_cleanRun : i.beginFrame.cleanRun = i.cleanRun := by rw [beginFrame_rest]
@[simp] theorem CaptureInput.beginFrame_fifo : i.beginFrame.fifo = i.fifo := by rw [beginFrame_rest]
@[simp] theorem CaptureInput.beginFrame_good : i.beginFrame.good = i.good := by rw [beginFrame_rest]

/-- The begun frame has nothing measured or marked; it is written in LOCKED with OVERSIZE clear as the congestion mode says,
and skipped where that alone keeps it from being written. -/
theorem CaptureInput.beginFrame_frame :
    ∃ g, i.beginFrame.frame = some g ∧ g.lines = 0 ∧ g.inLine = false ∧ g.torn = false ∧ g.mismatch = false ∧
      (g.written = true ↔ (i.state = .locked ∧ i.oversize = false) ∧ (i.halved = false ∨ i.lastWritten = false)) ∧
      (g.skipped = true ↔ (i.state = .locked ∧ i.oversize = false) ∧ g.written = false) ∧
      (i.state = .locked ∧ i.oversize = false → i.beginFrame.lastWritten = g.written) := by
  have hcond : (i.state == .locked && !i.oversize) = true ↔ i.state = .locked ∧ i.oversize = false := by simp
  unfold CaptureInput.beginFrame
  by_cases h : i.state = .locked ∧ i.oversize = false
  · rw [if_pos (hcond.mpr h)]
    exact ⟨_, rfl, rfl, rfl, rfl, rfl, by simp [CaptureFrame.begun, h], by simp [CaptureFrame.begun, h], fun _ => rfl⟩
  · rw [if_neg fun hc => h (hcond.mp hc)]
    exact ⟨_, rfl, rfl, rfl, rfl, rfl, by simp [CaptureFrame.begun, h], by simp [CaptureFrame.begun, h],
      fun hc => absurd hc h⟩

end

/-! ## What a frame-start mark changes -/

/-- Changes of the input and its own transfers stay what they are beside other link registers and another source unit. -/
theorem captureOnly.beside {c : Fin 16} {s t : State} (h : captureOnly c s t) (l : Link) (u : SourceUnit) :
    captureOnly c ((s.withLink l).withSources u) ((t.withLink l).withSources u) := by
  obtain ⟨hinputs, hqueues, hall⟩ := h
  refine ⟨hinputs, hqueues, ?_⟩
  conv_lhs => rw [hall]
  rfl

/-- The state beside the input once a mark has ended its frame: SOURCE_EVENT, and the counters of its source. -/
def State.counted (s : State) (c : Fin 16) (moved : Bool) (ch : Source) : State :=
  (s.withLink (if moved = true then s.link.withCausesSet 0x08 else s.link)).withSources
    { s.sources with channels := vset s.sources.channels (captureSource c) ch }

theorem State.raiseIf_counted (s : State) (c : Fin 16) (moved : Bool) (ch : Source) (ts : List Transfer) :
    ((s.setChannel (captureSource c) ch).setQueue (.capture c) ts).raiseIf moved causeSourceEvent =
      (s.counted c moved ch).setQueue (.capture c) ts := by
  rw [State.raiseIf_eq]
  cases moved <;> rfl

theorem State.endLine_channel (s : State) (c : Fin 16) (src : Fin 32) : (s.endLine c).channel src = s.channel src := by
  rw [State.channel, State.endLine_sources, State.channel]

/-- The input that a mark ends its frame with, as the events of R111 and R119 taken alone look at it. -/
theorem State.markEnds_eq {s : State} {c : Fin 16} {i e : CaptureInput} {ch : Source} (hi : (s.endLine c).inputs[c] = i)
    (he : endFrame i (s.channel (captureSource c)) = (e, ch)) : s.markEnds c = e := by
  rw [State.markEnds, State.endLine_channel, hi, he]

/-- A frame-start mark: the input whose line has ended goes on as `endFrame` and `beginFrame` say, and nothing but it, its
transfers, its source and SOURCE_EVENT changes. -/
theorem State.frameStartMark_counted {s : State} {c : Fin 16} {i e : CaptureInput} {ch : Source} {moved : Bool}
    (hi : (s.endLine c).inputs[c] = i) (he : endFrame i (s.channel (captureSource c)) = (e, ch))
    (hmoved : (e.state != i.state || e.halved != i.halved) = moved) :
    (s.frameStartMark c).inputs[c] = e.beginFrame ∧ captureOnly c (s.counted c moved ch) (s.frameStartMark c) := by
  have hbeside : captureOnly c (s.counted c moved ch) (((s.endLine c).setInput c e.beginFrame).counted c moved ch) := by
    have honly := ((s.endLine_only c).trans (captureOnly.setInput c (s.endLine c) e.beginFrame)).beside
    simpa only [State.counted, State.setInput_link, State.setInput_sources, State.endLine_link, State.endLine_sources] using
      honly _ _
  unfold State.frameStartMark
  dsimp only
  rw [State.endLine_channel, hi, he, hmoved]
  generalize s.endLine c = t at *
  obtain ⟨ts, hts⟩ : ∃ ts,
      (if (!i.fifo.isEmpty && e.fifo.isEmpty) = true then
          ((t.setInput c e.beginFrame).setChannel (captureSource c) ch).setQueue (.capture c)
            (orphan (t.port.queue (.capture c)))
        else (t.setInput c e.beginFrame).setChannel (captureSource c) ch) =
        ((t.setInput c e.beginFrame).setChannel (captureSource c) ch).setQueue (.capture c) ts := by
    split
    · exact ⟨_, rfl⟩
    · refine ⟨t.port.queue (.capture c), ?_⟩
      rw [State.setQueue, State.setChannel_port, State.setInput_port, Port.setQueue_self]
      rfl
  rw [hts, State.raiseIf_counted]
  refine ⟨?_, (hbeside.trans (captureOnly.setQueue c _ ts)).trans (State.captureIssue_only _ c)⟩
  rw [State.captureIssue_input]
  exact State.setInput_input t c e.beginFrame

theorem State.counted_same {s : State} {c : Fin 16} : s.counted c false (s.channel (captureSource c)) = s := by
  have hself : vset s.sources.channels (captureSource c) (s.channel (captureSource c)) = s.sources.channels := vset_self _ _
  rw [State.counted, hself]
  rfl

theorem State.counted_event {s : State} {c : Fin 16} :
    s.counted c true (s.channel (captureSource c)) = { s with link := s.link.withCausesSet 0x08 } := by
  have hself : vset s.sources.channels (captureSource c) (s.channel (captureSource c)) = s.sources.channels := vset_self _ _
  rw [State.counted, hself]
  rfl

/-- All that a mark changes that counts nothing: the input, its transfers, and the link registers. -/
def captureAndLink (c : Fin 16) (s t : State) : Prop :=
  (∀ k : Fin 16, k ≠ c → t.inputs[k] = s.inputs[k]) ∧ (∀ r, r ≠ .capture c → t.port.queue r = s.port.queue r) ∧
    t = { s with inputs := t.inputs, link := t.link, port := { s.port with capture := t.port.capture } }

theorem captureOnly.withLink {c : Fin 16} {s t : State} {l : Link} (h : captureOnly c { s with link := l } t) :
    t.link = l ∧ captureAndLink c s t := by
  obtain ⟨hinputs, hqueues, hall⟩ := h
  have hlink : t.link = l := by rw [hall]
  exact ⟨hlink, hinputs, hqueues, by rw [hlink]; exact hall⟩

/-- A mark that counts nothing and moves the capture state or the congestion mode sets SOURCE_EVENT (R120). -/
theorem State.frameStartMark_event {s : State} {c : Fin 16} {i e : CaptureInput} (hi : (s.endLine c).inputs[c] = i)
    (he : endFrame i (s.channel (captureSource c)) = (e, s.channel (captureSource c)))
    (hmoved : (e.state != i.state || e.halved != i.halved) = true) :
    (s.frameStartMark c).inputs[c] = e.beginFrame ∧ (s.frameStartMark c).link = s.link.withCausesSet 0x08 ∧
      captureAndLink c s (s.frameStartMark c) := by
  obtain ⟨hin, honly⟩ := State.frameStartMark_counted hi he hmoved
  rw [State.counted_event] at honly
  exact ⟨hin, honly.withLink⟩

/-- One that counts nothing and moves neither changes the input and its transfers alone. -/
theorem State.frameStartMark_quiet {s : State} {c : Fin 16} {i e : CaptureInput} (hi : (s.endLine c).inputs[c] = i)
    (he : endFrame i (s.channel (captureSource c)) = (e, s.channel (captureSource c)))
    (hmoved : (e.state != i.state || e.halved != i.halved) = false) :
    (s.frameStartMark c).inputs[c] = e.beginFrame ∧ captureOnly c s (s.frameStartMark c) := by
  obtain ⟨hin, honly⟩ := State.frameStartMark_counted hi he hmoved
  rw [State.counted_same] at honly
  exact ⟨hin, honly⟩

theorem exec_frameStartMark {s : State} {c : Fin 16} (hs : s.listens c = true) :
    exec (.frameStartMark c) s = .next (s.frameStartMark c) := by
  show execFrameStartMark c s = _
  rw [execFrameStartMark, if_pos hs]

/-! ## No signal (R110) -/

theorem endFrame_noSignal {i : CaptureInput} (h : i.state = .noSignal) (ch : Source) :
    endFrame i ch = ({ i with state := .acquiring, candidate := none, count := 0 }, ch) := by
  simp only [endFrame, h]

/-! ## Acquiring (R111, R112) -/

/-- The candidate's count once a frame of ACQUIRING with these dimensions, or none, has ended (R111). -/
def CaptureInput.countAfter (i : CaptureInput) (dims : Option (Nat × Nat)) : Nat :=
  if dims = none then 0 else if i.candidate = dims then min 3 (i.count + 1) else 1

theorem CaptureInput.candidateAfter_eq (i : CaptureInput) (dims : Option (Nat × Nat)) :
    i.candidateAfter dims = (dims, i.countAfter dims) := by
  cases dims with
  | none => rfl
  | some d =>
    simp only [CaptureInput.candidateAfter, CaptureInput.countAfter, reduceCtorEq, if_false]
    split <;> rfl

/-- An ended frame of these dimensions, or none, is the third in a row that is alike and in range (R111). -/
def CaptureInput.locksTo (i : CaptureInput) (dims : Option (Nat × Nat)) : Prop :=
  ∃ w h, dims = some (w, h) ∧ i.countAfter dims = 3 ∧ (64 ≤ w ∧ w ≤ 4096) ∧ (64 ≤ h ∧ h ≤ 2400)

theorem dimsInRange_iff (w h : Nat) : dimsInRange (w, h) = true ↔ (64 ≤ w ∧ w ≤ 4096) ∧ (64 ≤ h ∧ h ≤ 2400) := by
  simp [dimsInRange, and_assoc]

theorem CaptureInput.locksAt_eq_some {i : CaptureInput} {dims : Option (Nat × Nat)} {w h : Nat} :
    i.locksAt dims = some (w, h) ↔
      dims = some (w, h) ∧ i.countAfter dims = 3 ∧ (64 ≤ w ∧ w ≤ 4096) ∧ (64 ≤ h ∧ h ≤ 2400) := by
  rw [CaptureInput.locksAt, CaptureInput.candidateAfter_eq, ← dimsInRange_iff]
  cases dims with
  | none => simp
  | some d =>
    dsimp only
    split
    · rename_i hd
      simp only [Option.some.injEq]
      exact ⟨fun he => ⟨he, hd.1, he ▸ hd.2⟩, fun he => he.1⟩
    · rename_i hd
      simp only [reduceCtorEq, Option.some.injEq, false_iff]
      rintro ⟨he, hc, hr⟩
      exact hd ⟨hc, he ▸ hr⟩

theorem CaptureInput.locksAt_eq_none {i : CaptureInput} {dims : Option (Nat × Nat)} (h : ¬ i.locksTo dims) :
    i.locksAt dims = none := by
  cases hl : i.locksAt dims with
  | none => rfl
  | some d => exact absurd ⟨d.1, d.2, CaptureInput.locksAt_eq_some.mp hl⟩ h

section
variable {i : CaptureInput} {f : CaptureFrame}

/-- A frame that is not written has no mismatched line. -/
theorem CaptureFrame.differs_unwritten (hw : f.written = false) (width : Nat) : f.differs width = false := by
  simp [CaptureFrame.differs, hw]

/-- An input whose line in progress has ended and been measured. -/
def CaptureInput.measured (i : CaptureInput) (f : CaptureFrame) : CaptureInput := { i with frame := some f.closeLine }

/-- The end of a line of the locked width only measures it. -/
theorem CaptureInput.lineEnded_measured (hd : f.differs i.lockedW = false) : i.lineEnded f = i.measured f := by
  have hended : f.ended i.lockedW = f.closeLine := by
    rw [CaptureFrame.ended, hd, Bool.or_false, ← f.closeLine_mismatch]
  rw [CaptureInput.lineEnded, hended, hd]
  rfl

theorem endFrame_acquiring (ha : i.state = .acquiring) (hf : i.frame = some f) (ch : Source) (hl : ¬ i.locksTo f.dims) :
    endFrame i ch = ({ i with candidate := f.dims, count := i.countAfter f.dims }, ch) := by
  simp only [endFrame, ha, hf, CaptureInput.locksAt_eq_none hl, CaptureInput.candidateAfter_eq]

theorem endFrame_locks (ha : i.state = .acquiring) (hf : i.frame = some f) (ch : Source) {w h : Nat}
    (hl : i.locksAt f.dims = some (w, h)) : endFrame i ch = (i.locked ch.desc w h, ch) := by
  simp only [endFrame, ha, hf, hl]

end

theorem exec_captureLock {s : State} {c : Fin 16} {i e : CaptureInput} {ch : Source} (hs : s.listens c = true)
    (ha : (s.inputs[c]).state = .acquiring) (hi : (s.endLine c).inputs[c] = i)
    (he : endFrame i (s.channel (captureSource c)) = (e, ch)) (hl : e.state = .locked) :
    exec (.captureLock c) s = .next (s.frameStartMark c) := by
  have hends := State.markEnds_eq hi he
  show execCaptureLock c s = _
  rw [execCaptureLock, hs, ha, hends, hl]
  rfl

/-! ## The statement -/

theorem tooLarge_iff (d : Descriptor) (w h : Nat) : tooLarge d w h = true ↔ d.size * 4096 < 16 + w * h * 4 :=
  decide_eq_true_iff

/-- Settles O44: an input without signal, one that locks, and one that goes on acquiring, each by the input that the mark ends
its frame with. -/
theorem frameStartMarkAcquiresAndLocks : Obligations.FrameStartMarkAcquiresAndLocks := by
  intro s c i d hr henable
  have hs := State.listens_of hr henable
  refine ⟨fun hno hf => ⟨_, exec_frameStartMark hs, ?_⟩, fun f ha hf hw => ?_⟩
  · have he := endFrame_noSignal hno (s.channel (captureSource c))
    obtain ⟨hin, hlink, hrest⟩ := State.frameStartMark_event (by rw [State.endLine_idle hf]) he (by rw [hno]; rfl)
    obtain ⟨g, hg, hlines, -, -, -, hwritten, -⟩ :=
      CaptureInput.beginFrame_frame { i with state := .acquiring, candidate := none, count := 0 }
    refine ⟨?_, hlink, hrest⟩
    rw [hin]
    exact ⟨by simp, by simp, by simp, g, hg, hlines, by simpa using hwritten⟩
  · intro dims count locks
    refine ⟨_, exec_frameStartMark hs, ?_⟩
    have hi : (s.endLine c).inputs[c] = i.measured f := by
      rw [State.endLine_input hf, CaptureInput.lineEnded_measured (CaptureFrame.differs_unwritten hw _)]
    by_cases hl : locks
    · obtain ⟨w, h, hd⟩ := id hl
      have he := endFrame_locks (i := i.measured f) ha rfl (s.channel (captureSource c))
        (CaptureInput.locksAt_eq_some.mpr hd)
      have hlock := exec_captureLock hs ha hi he rfl
      obtain ⟨hin, hlink, hrest⟩ := State.frameStartMark_event hi he (by rw [show (i.measured f).state = _ from ha]; rfl)
      obtain ⟨g, hg, hlines, -, -, -, hwritten, -⟩ :=
        ((i.measured f).locked (s.channel (captureSource c)).desc w h).beginFrame_frame
      rw [hin]
      simp only [CaptureInput.beginFrame_state, CaptureInput.beginFrame_candidate, CaptureInput.beginFrame_lockedW,
        CaptureInput.beginFrame_lockedH, CaptureInput.beginFrame_oversize, CaptureInput.beginFrame_tornRun,
        CaptureInput.beginFrame_cleanRun, CaptureInput.beginFrame_halved, CaptureInput.beginFrame_loss]
      refine ⟨trivial, ⟨g, hg, hlines, hwritten.trans ?_⟩, fun hno => absurd hl hno, fun _ =>
        ⟨rfl, rfl, fun w' h' hd' => ?_, rfl, rfl, hlink, hlock⟩, rfl, hrest⟩
      · simp [CaptureInput.locked, hl]
      · obtain ⟨rfl, rfl⟩ : w = w' ∧ h = h' := by simpa using hd.1.symm.trans hd'
        exact ⟨rfl, rfl, tooLarge_iff _ _ _⟩
    · have he := endFrame_acquiring (i := i.measured f) ha rfl (s.channel (captureSource c)) hl
      obtain ⟨hin, honly⟩ := State.frameStartMark_quiet hi he (by simp)
      obtain ⟨hlink, hrest⟩ := captureOnly.withLink (l := s.link) honly
      obtain ⟨g, hg, hlines, -, -, -, hwritten, -⟩ :=
        CaptureInput.beginFrame_frame { i.measured f with candidate := dims, count := (i.measured f).countAfter dims }
      rw [hin]
      simp only [CaptureInput.beginFrame_state, CaptureInput.beginFrame_candidate, CaptureInput.beginFrame_count,
        CaptureInput.beginFrame_halved, CaptureInput.beginFrame_loss]
      refine ⟨trivial, ⟨g, hg, hlines, hwritten.trans ?_⟩, fun _ => ⟨ha, rfl, rfl, hlink⟩, fun h => absurd h hl, rfl,
        hrest⟩
      simp [show (i.measured f).state = _ from ha, hl]

end Sys2Proof.Machine
end

section
/-! A frame-start mark judges the frame of a LOCKED input, or ends a skipped one (R116 to R119; O45). -/

namespace Sys2Proof.Machine

open Sys2Proof

/-! ## The first test of R116 -/

/-- The ended frame is no frame of the locked dimensions (R116, first test). -/
def CaptureInput.seesMismatch (i : CaptureInput) (f : CaptureFrame) : Prop :=
  f.closeLine.dims ≠ some (i.lockedW, i.lockedH) ∨ f.mismatch = true

/-- A frame one line of which differs from the locked width has other dimensions, or none. -/
theorem CaptureFrame.closeLine_dims_of_differs {f : CaptureFrame} {w : Nat} (hd : f.differs w = true) (h : Nat) :
    f.closeLine.dims ≠ some (w, h) := by
  obtain ⟨hin, -, hne⟩ := (f.differs_iff w).mp hd
  intro hdims
  cases hwidth : f.width with
  | none =>
    simp only [CaptureFrame.closeLine, hin, hwidth, if_true, CaptureFrame.dims, Option.ite_none_right_eq_some,
      Option.some.injEq, Prod.mk.injEq] at hdims
    exact hne hdims.2.1
  | some width =>
    simp only [CaptureFrame.closeLine, hin, hwidth, if_true, CaptureFrame.dims, Option.ite_none_right_eq_some,
      Option.some.injEq, Prod.mk.injEq, Bool.and_eq_true, beq_iff_eq] at hdims
    obtain ⟨⟨⟨-, hsame⟩, -⟩, hwide, -⟩ := hdims
    exact hne (hsame.symm.trans hwide)

section
variable {i : CaptureInput} {f : CaptureFrame}

theorem CaptureInput.differs_of_sees (hm : ¬ i.seesMismatch f) : f.differs i.lockedW = false := by
  rw [← Bool.not_eq_true]
  exact fun hd => hm (.inl (CaptureFrame.closeLine_dims_of_differs hd _))

/-- The mark that R114 sets as a line ends adds nothing to the first test. -/
theorem CaptureInput.sees_ended :
    (f.ended i.lockedW).dims ≠ some (i.lockedW, i.lockedH) ∨ (f.ended i.lockedW).mismatch = true ↔ i.seesMismatch f := by
  show f.closeLine.dims ≠ _ ∨ (f.mismatch || f.differs i.lockedW) = true ↔ _
  rw [Bool.or_eq_true, ← or_assoc]
  exact or_iff_left_of_imp fun hd => .inl (CaptureFrame.closeLine_dims_of_differs hd _)

/-! ## The outcomes of R116 -/

theorem CaptureFrame.ended_skipped (width : Nat) : (f.ended width).skipped = f.skipped := f.closeLine_skipped

variable (hl : i.state = .locked) (hs : f.skipped = false) (ch : Source)
include hl hs

theorem endFrame_judges : endFrame (i.lineEnded f) ch = judgeLocked (i.lineEnded f) ch (f.ended i.lockedW) := by
  have hstate : (i.lineEnded f).state = .locked := hl
  have hframe : (i.lineEnded f).frame = some (f.ended i.lockedW) := rfl
  have hskipped : (f.ended i.lockedW).skipped = false := f.ended_skipped _ ▸ hs
  simp only [endFrame, hstate, hframe, hskipped, Bool.false_eq_true, if_false]

theorem endFrame_mismatch (hm : i.seesMismatch f) :
    endFrame (i.lineEnded f) ch = ((i.lineEnded f).mismatched (f.ended i.lockedW), ch) := by
  have hjudge : (i.lineEnded f).judge (f.ended i.lockedW) = .mismatch := if_pos (CaptureInput.sees_ended.mpr hm)
  rw [endFrame_judges hl hs, judgeLocked, hjudge]

theorem endFrame_oversize (hm : ¬ i.seesMismatch f) (ho : i.oversize = true) :
    endFrame (i.lineEnded f) ch = (i.measured f, { ch with oversize := satInc ch.oversize }) := by
  have hjudge : (i.lineEnded f).judge (f.ended i.lockedW) = .oversize :=
    (if_neg (mt CaptureInput.sees_ended.mp hm)).trans (if_pos ho)
  rw [endFrame_judges hl hs, judgeLocked, hjudge, CaptureInput.lineEnded_measured (CaptureInput.differs_of_sees hm)]

theorem endFrame_torn (hm : ¬ i.seesMismatch f) (ho : i.oversize = false) (ht : f.torn = true) :
    endFrame (i.lineEnded f) ch =
      ({ i.measured f with fifo := keptLines i.fifo }.afterTorn, { ch with torn := satInc ch.torn }) := by
  have htorn : (f.ended i.lockedW).torn = true := f.closeLine_torn.trans ht
  have hclear : ¬ (i.lineEnded f).oversize = true := by rw [show (i.lineEnded f).oversize = _ from ho]; simp
  have hjudge : (i.lineEnded f).judge (f.ended i.lockedW) = .torn :=
    (if_neg (mt CaptureInput.sees_ended.mp hm)).trans ((if_neg hclear).trans (if_pos htorn))
  rw [endFrame_judges hl hs, judgeLocked, hjudge, CaptureInput.lineEnded_measured (CaptureInput.differs_of_sees hm)]
  rfl

theorem endFrame_good (hm : ¬ i.seesMismatch f) (ho : i.oversize = false) (ht : f.torn = false) :
    endFrame (i.lineEnded f) ch = ((i.measured f).toReport.afterGood, ch) := by
  have htorn : ¬ (f.ended i.lockedW).torn = true := by rw [show (f.ended i.lockedW).torn = _ from f.closeLine_torn, ht]; simp
  have hclear : ¬ (i.lineEnded f).oversize = true := by rw [show (i.lineEnded f).oversize = _ from ho]; simp
  have hjudge : (i.lineEnded f).judge (f.ended i.lockedW) = .good :=
    (if_neg (mt CaptureInput.sees_ended.mp hm)).trans ((if_neg hclear).trans (if_neg htorn))
  rw [endFrame_judges hl hs, judgeLocked, hjudge, CaptureInput.lineEnded_measured (CaptureInput.differs_of_sees hm)]

end

/-! ## The congestion mode (R119) -/

theorem CaptureInput.afterTorn_rest (i : CaptureInput) :
    i.afterTorn =
      { i with halved := i.afterTorn.halved, tornRun := i.afterTorn.tornRun, cleanRun := i.afterTorn.cleanRun } := by
  unfold CaptureInput.afterTorn
  split
  · rfl
  · split <;> rfl

theorem CaptureInput.afterGood_rest (i : CaptureInput) :
    i.afterGood =
      { i with halved := i.afterGood.halved, tornRun := i.afterGood.tornRun, cleanRun := i.afterGood.cleanRun } := by
  unfold CaptureInput.afterGood
  split
  · split <;> rfl
  · rfl

/-- The mode and the runs after a torn frame. -/
theorem CaptureInput.afterTorn_mode (i : CaptureInput) :
    (i.halved = true → i.afterTorn = { i with cleanRun := 0 }) ∧
      (i.halved = false → i.tornRun + 1 < 2 → i.afterTorn = { i with tornRun := i.tornRun + 1 }) ∧
        (i.halved = false → ¬ i.tornRun + 1 < 2 →
          i.afterTorn = { i with halved := true, tornRun := 0, cleanRun := 0 }) := by
  refine ⟨fun h => ?_, fun h ht => ?_, fun h ht => ?_⟩
  · rw [CaptureInput.afterTorn, if_pos h]
  · rw [CaptureInput.afterTorn, if_neg (by simp [h]), if_neg (by unfold Config.tornLimit; omega)]
  · rw [CaptureInput.afterTorn, if_neg (by simp [h]), if_pos (by unfold Config.tornLimit; omega)]

/-- The mode and the runs after a good frame. -/
theorem CaptureInput.afterGood_mode (i : CaptureInput) :
    (i.halved = false → i.afterGood = { i with tornRun := 0 }) ∧
      (i.halved = true → i.cleanRun + 1 < 16 → i.afterGood = { i with cleanRun := i.cleanRun + 1 }) ∧
        (i.halved = true → ¬ i.cleanRun + 1 < 16 →
          i.afterGood = { i with halved := false, tornRun := 0, cleanRun := 0 }) := by
  refine ⟨fun h => ?_, fun h hc => ?_, fun h hc => ?_⟩
  · rw [CaptureInput.afterGood, if_neg (by simp [h])]
  · rw [CaptureInput.afterGood, if_pos h, if_neg (by unfold Config.cleanLimit; omega)]
  · rw [CaptureInput.afterGood, if_pos h, if_pos (by unfold Config.cleanLimit; omega)]

/-- A judged frame that is no mismatch leaves the input LOCKED as it was: the congestion mode, the runs, the FIFO and the good
frame to report are all that may change. -/
theorem endFrame_staysLocked {i e : CaptureInput} {f : CaptureFrame} {ch ch' : Source} (hl : i.state = .locked)
    (hs : f.skipped = false) (hm : ¬ i.seesMismatch f) (he : endFrame (i.lineEnded f) ch = (e, ch')) :
    e = { i.measured f with
      halved := e.halved, tornRun := e.tornRun, cleanRun := e.cleanRun, fifo := e.fifo, good := e.good } := by
  cases ho : i.oversize with
  | true =>
    obtain ⟨rfl, -⟩ := Prod.mk.inj (he.symm.trans (endFrame_oversize hl hs ch hm ho))
    rfl
  | false =>
    cases ht : f.torn with
    | true =>
      obtain ⟨rfl, -⟩ := Prod.mk.inj (he.symm.trans (endFrame_torn hl hs ch hm ho ht))
      rw [CaptureInput.afterTorn_rest]
    | false =>
      obtain ⟨rfl, -⟩ := Prod.mk.inj (he.symm.trans (endFrame_good hl hs ch hm ho ht))
      rw [CaptureInput.afterGood_rest]
      rfl

/-- A mark that judges a frame begins one that R118 asks about when the frame was no mismatch and OVERSIZE is clear. -/
theorem endFrame_takes {i e : CaptureInput} {f : CaptureFrame} {ch ch' : Source} (hl : i.state = .locked)
    (hs : f.skipped = false) (he : endFrame (i.lineEnded f) ch = (e, ch')) :
    e.state = .locked ∧ e.oversize = false ↔ ¬ i.seesMismatch f ∧ i.oversize = false := by
  by_cases hm : i.seesMismatch f
  · obtain ⟨rfl, -⟩ := Prod.mk.inj (he.symm.trans (endFrame_mismatch hl hs ch hm))
    simp [CaptureInput.mismatched, hm]
  · rw [endFrame_staysLocked hl hs hm he]
    simp [CaptureInput.measured, hl, hm]

/-! ## A skipped frame (R116, R118) -/

theorem endFrame_skipped {i : CaptureInput} {f : CaptureFrame} (hl : i.state = .locked) (hs : f.skipped = true) (ch : Source) :
    endFrame (i.measured f) ch = (i.measured f, ch) := by
  have hstate : (i.measured f).state = .locked := hl
  have hframe : (i.measured f).frame = some f.closeLine := rfl
  have hskipped : f.closeLine.skipped = true := f.closeLine_skipped.trans hs
  simp only [endFrame, hstate, hframe, hskipped, if_true]

/-! ## What the mark changes -/

/-- The link registers and the channels beside the input, and the rest of the state. -/
theorem captureOnly.ofCounted {c : Fin 16} {s t : State} {moved : Bool} {ch : Source}
    (h : captureOnly c (s.counted c moved ch) t) :
    t.link = (if moved = true then s.link.withCausesSet 0x08 else s.link) ∧
      t.channel (captureSource c) = ch ∧ (∀ k : Fin 16, k ≠ c → t.inputs[k] = s.inputs[k]) ∧
        (∀ q, q ≠ captureSource c → t.channel q = s.channel q) ∧
          (∀ r, r ≠ .capture c → t.port.queue r = s.port.queue r) ∧
            t = { s with
              inputs := t.inputs, link := t.link, port := { s.port with capture := t.port.capture }
              sources := { s.sources with channels := t.sources.channels } } := by
  obtain ⟨hinputs, hqueues, hall⟩ := h
  have hlink : t.link = (s.counted c moved ch).link := by rw [hall]
  have hsources : t.sources = (s.counted c moved ch).sources := by rw [hall]
  refine ⟨hlink, ?_, hinputs, fun q hq => ?_, hqueues, ?_⟩
  · rw [State.channel, hsources]
    exact vset_get _ _ _
  · rw [State.channel, hsources]
    exact vset_get_of_ne _ _ hq
  · conv_lhs => rw [hall]
    rw [hlink, hsources]
    rfl

theorem exec_congestionHalved {s : State} {c : Fin 16} {i e : CaptureInput} {ch : Source} (hs : s.listens c = true)
    (hn : (s.inputs[c]).halved = false) (hi : (s.endLine c).inputs[c] = i)
    (he : endFrame i (s.channel (captureSource c)) = (e, ch)) (hh : e.halved = true) :
    exec (.congestionHalved c) s = .next (s.frameStartMark c) := by
  have hends := State.markEnds_eq hi he
  show execCongestionHalved c s = _
  rw [execCongestionHalved, hs, hn, hends, hh]
  rfl

theorem exec_congestionNormal {s : State} {c : Fin 16} {i e : CaptureInput} {ch : Source} (hs : s.listens c = true)
    (hh : (s.inputs[c]).halved = true) (hi : (s.endLine c).inputs[c] = i)
    (he : endFrame i (s.channel (captureSource c)) = (e, ch)) (hn : e.halved = false) :
    exec (.congestionNormal c) s = .next (s.frameStartMark c) := by
  have hends := State.markEnds_eq hi he
  show execCongestionNormal c s = _
  rw [execCongestionNormal, hs, hh, hends, hn]
  rfl

/-! ## The statement -/

/-- Settles O45: the judged frame by its four outcomes, and the skipped one. -/
theorem frameStartMarkJudgesLockedFrame : Obligations.FrameStartMarkJudgesLockedFrame := by
  constructor
  · intro s c f i src ch hr henable hl hf hs dims mismatch oversize torn good count
    have hlisten := State.listens_of hr henable
    have hi : (s.endLine c).inputs[c] = i.lineEnded f := State.endLine_input hf
    obtain ⟨e, ch', he⟩ : ∃ e ch', endFrame (i.lineEnded f) ch = (e, ch') := ⟨_, _, rfl⟩
    obtain ⟨hin, honly⟩ := State.frameStartMark_counted hi he rfl
    obtain ⟨hlink, hchannel, hrest⟩ := honly.ofCounted
    refine ⟨_, exec_frameStartMark hlisten, ?_⟩
    intro j
    have hj : j = e.beginFrame := hin
    clear_value j
    subst hj
    simp only [CaptureInput.beginFrame_state, CaptureInput.beginFrame_candidate, CaptureInput.beginFrame_count,
      CaptureInput.beginFrame_lockedW, CaptureInput.beginFrame_lockedH, CaptureInput.beginFrame_oversize,
      CaptureInput.beginFrame_tornRun, CaptureInput.beginFrame_cleanRun, CaptureInput.beginFrame_halved,
      CaptureInput.beginFrame_fifo, CaptureInput.beginFrame_good]
    refine ⟨fun hm => ?_, fun hm => ?_, fun ⟨hm, ho⟩ => ?_, fun ⟨hm, ho, ht⟩ => ?_, fun ⟨hm, ho, ht⟩ => ?_, ?_,
      e.beginFrame_loss, hrest⟩
    · obtain ⟨rfl, rfl⟩ := Prod.mk.inj (he.symm.trans (endFrame_mismatch hl hs ch hm))
      rw [show (i.lineEnded f).state = _ from hl] at hlink
      refine ⟨rfl, rfl, ?_, rfl, rfl, rfl, rfl, rfl, rfl, rfl, hchannel, hlink⟩
      show (if dims.isSome then 1 else 0) = _
      cases dims <;> rfl
    · have hstays := endFrame_staysLocked hl hs hm he
      have hstate : e.state = i.state := by rw [hstays]; rfl
      refine ⟨hstate.trans hl, by rw [hstays]; rfl, by rw [hstays]; rfl, by rw [hstays]; rfl, ?_⟩
      rw [hlink, hstate]
      by_cases hh : e.halved = i.halved
      · simp [hh, CaptureInput.lineEnded]
      · simp [hh, CaptureInput.lineEnded]
    · obtain ⟨rfl, rfl⟩ := Prod.mk.inj (he.symm.trans (endFrame_oversize hl hs ch hm ho))
      exact ⟨hchannel, rfl, rfl, rfl, rfl⟩
    · obtain ⟨rfl, rfl⟩ := Prod.mk.inj (he.symm.trans (endFrame_torn hl hs ch hm ho ht))
      refine ⟨hchannel, by rw [CaptureInput.afterTorn_rest]; rfl, by rw [CaptureInput.afterTorn_rest]; rfl, ?_⟩
      obtain ⟨hhalved, hmore, hswitch⟩ := CaptureInput.afterTorn_mode { i.measured f with fifo := keptLines i.fifo }
      split
      · rw [hhalved ‹_›]
        exact ⟨‹_›, rfl, rfl⟩
      · have hn : i.halved = false := by simpa using ‹¬ i.halved = true›
        split
        · rw [hmore hn ‹_›]
          exact ⟨hn, rfl, rfl⟩
        · have hmode := hswitch hn ‹_›
          exact ⟨by rw [hmode], by rw [hmode], by rw [hmode], exec_congestionHalved hlisten hn hi he (by rw [hmode])⟩
    · obtain ⟨rfl, rfl⟩ := Prod.mk.inj (he.symm.trans (endFrame_good hl hs ch hm ho ht))
      refine ⟨hchannel, by rw [CaptureInput.afterGood_rest]; rfl, by rw [CaptureInput.afterGood_rest]; rfl, ?_⟩
      obtain ⟨hnormal, hmore, hswitch⟩ := (i.measured f).toReport.afterGood_mode
      split
      · rw [hnormal ‹_›]
        exact ⟨‹_›, rfl, rfl⟩
      · have hh : i.halved = true := by simpa using ‹¬ i.halved = false›
        split
        · rw [hmore hh ‹_›]
          exact ⟨hh, rfl, rfl⟩
        · have hmode := hswitch hh ‹_›
          exact ⟨by rw [hmode], by rw [hmode], by rw [hmode], exec_congestionNormal hlisten hh hi he (by rw [hmode])⟩
    · obtain ⟨g, hg, hlines, hline, htorn, hmark, hwritten, hskipped, -⟩ := e.beginFrame_frame
      have hjudged : torn ∨ good ↔ ¬ mismatch ∧ i.oversize = false := by
        cases ht : f.torn <;> simp [torn, good, ht]
      have htakes : e.state = .locked ∧ e.oversize = false ↔ torn ∨ good := (endFrame_takes hl hs he).trans hjudged.symm
      rw [htakes] at hwritten hskipped
      refine ⟨g, hg, hlines, hline, htorn, hmark, hwritten.trans (and_congr_right fun htg => ?_), hskipped⟩
      rw [endFrame_staysLocked hl hs (hjudged.mp htg).1 he]
      rfl
  · intro s c f i hr henable hl hf hs hw
    have hi : (s.endLine c).inputs[c] = i.measured f := by
      rw [State.endLine_input hf, CaptureInput.lineEnded_measured (CaptureFrame.differs_unwritten hw _)]
    obtain ⟨hin, hinputs, hqueues, hall⟩ := State.frameStartMark_quiet hi (endFrame_skipped hl hs _) (by simp)
    refine ⟨_, exec_frameStartMark (State.listens_of hr henable), ?_⟩
    intro j
    have hj : j = (i.measured f).beginFrame := hin
    clear_value j
    subst hj
    have htakes : (i.measured f).state = .locked ∧ (i.measured f).oversize = false ↔ i.oversize = false := and_iff_right hl
    obtain ⟨g, hg, hlines, hline, htorn, hmark, hwritten, hskipped, hlast⟩ := (i.measured f).beginFrame_frame
    rw [htakes] at hwritten hskipped hlast
    exact ⟨⟨g, hg, hlines, hline, htorn, hmark, hwritten, hskipped, hlast⟩, (i.measured f).beginFrame_rest, hinputs,
      hqueues, hall⟩

end Sys2Proof.Machine
end

section
/-! Alarm contact inputs: levels, counters and states agree, and every step keeps them so (R125 to R128, R135; O7). -/

namespace Sys2Proof.Machine

open Sys2Proof

/-! ## One input (R126 to R128, R135) -/

/-- A debounced change to a level leaves the state that goes with it, whatever it was before (R127). -/
theorem AlarmState.moved_asserted (st : AlarmState) (level : Bool) :
    st.moved level = .active ∨ st.moved level = .acked ↔ level = true := by
  cases level <;> cases st <;> simp [AlarmState.moved]

/-- A clear never crosses between the states of an asserted level and those of a released one (R128). -/
theorem AlarmState.cleared_asserted (st : AlarmState) :
    st.cleared = .active ∨ st.cleared = .acked ↔ st = .active ∨ st = .acked := by
  cases st <;> simp [AlarmState.cleared]

theorem AlarmInput.consistent.change {a : AlarmInput} (h : a.consistent) (level : Bool) : (a.change level).consistent :=
  ⟨(a.state.moved_asserted level).symm, fun he => Nat.zero_lt_of_lt (h.2 he)⟩

theorem AlarmInput.consistent.sampled {a : AlarmInput} (h : a.consistent) (level : Bool) :
    (a.sampled level).consistent := by
  obtain ⟨hstate, hcount⟩ := h
  by_cases he : a.config.enable = true
  · by_cases hl : level = a.level
    · rw [AlarmInput.sampled, if_pos he, if_pos hl]
      exact ⟨hstate, fun _ => Nat.zero_lt_of_lt (hcount he)⟩
    · rw [AlarmInput.sampled, if_pos he, if_neg hl]
      by_cases hs : a.settles level = true
      · rw [if_pos hs]
        exact AlarmInput.consistent.change ⟨hstate, hcount⟩ level
      · rw [if_neg hs]
        have hbelow : a.count + 1 < a.config.debounce := by simpa [AlarmInput.settles, he, hl] using hs
        exact ⟨hstate, fun _ => hbelow⟩
  · rw [AlarmInput.sampled, if_neg he]
    exact ⟨hstate, hcount⟩

theorem AlarmInput.consistent.cleared {a : AlarmInput} (h : a.consistent) :
    ({ a with state := a.state.cleared } : AlarmInput).consistent :=
  ⟨h.1.trans a.state.cleared_asserted.symm, h.2⟩

/-- A stopped input keeps its level and state, and is not enabled (R135, R136). -/
theorem AlarmInput.consistent.stopped {a : AlarmInput} (h : a.consistent) : a.stopped.consistent := ⟨h.1, nofun⟩

theorem AlarmInput.unloaded_consistent : AlarmInput.unloaded.consistent := ⟨by decide, nofun⟩

theorem AlarmInput.loaded_consistent {config : AlarmConfig} (h : config.enable = true → 1 ≤ config.debounce) :
    (AlarmInput.loaded config).consistent :=
  ⟨AlarmInput.unloaded_consistent.1, h⟩

/-! ## The bank of inputs -/

/-- Every input of a bank is consistent. -/
def alarmsAgree (alarms : Vector AlarmInput 8) : Prop := ∀ i : Fin 8, (alarms[i]).consistent

theorem alarmsAgree.vset {alarms : Vector AlarmInput 8} (h : alarmsAgree alarms) (i : Fin 8) {a : AlarmInput}
    (ha : a.consistent) : alarmsAgree (vset alarms i a) := by
  intro j
  rw [vset_get_eq]
  split
  · exact ha
  · exact h j

theorem alarmsAgree.mapBank {alarms : Vector AlarmInput 8} (h : alarmsAgree alarms) {f : Fin 8 → AlarmInput → AlarmInput}
    (hf : ∀ i a, a.consistent → (f i a).consistent) : alarmsAgree (mapBank alarms f) := by
  intro i
  rw [mapBank_get]
  exact hf i _ (h i)

theorem alarmsAgree.sampledAll {alarms : Vector AlarmInput 8} (h : alarmsAgree alarms) (high : Groups) :
    alarmsAgree (sampledAll alarms high) :=
  h.mapBank fun _ _ ha => ha.sampled _

theorem alarmsAgree.applied {alarms : Vector AlarmInput 8} (h : alarmsAgree alarms) (step : AlarmStep) :
    alarmsAgree (step.applied alarms) := by
  cases step with
  | interval high => exact h.sampledAll high
  | change i level =>
    rw [AlarmStep.applied]
    split
    · exact h.vset i ((h i).change level)
    · exact h

theorem alarmsAgree.appliedAll (steps : List AlarmStep) {alarms : Vector AlarmInput 8} (h : alarmsAgree alarms) :
    alarmsAgree (steps.foldl AlarmStep.applied alarms) := by
  induction steps generalizing alarms with
  | nil => exact h
  | cons step rest ih => exact ih (h.applied step)

theorem alarmsAgree.applyClears (clears : List (Nat × Fin 8)) {alarms : Vector AlarmInput 8} (h : alarmsAgree alarms) :
    alarmsAgree (applyClears clears alarms).1 := by
  induction clears generalizing alarms with
  | nil => exact h
  | cons clear rest ih => exact ih (h.vset clear.2 (h clear.2).cleared)

theorem alarmsAgree_replicate : alarmsAgree (Vector.replicate 8 AlarmInput.unloaded) := by
  intro i
  rw [Fin.getElem_fin, Vector.getElem_replicate]
  exact AlarmInput.unloaded_consistent

/-! ## A load that passes (R124, R181) -/

theorem checkOn_pass {bs : List Byte} {upto code : Nat} {fault : Option Nat} {rest : LoadVerdict}
    (h : checkOn bs upto code fault rest = .pass) : fault = none ∧ rest = .pass := by
  unfold checkOn at h
  split at h
  · cases h
  · split at h
    · cases h
    · exact ⟨rfl, h⟩

theorem checkEach_pass {bs : List Byte} {code : Nat} {items : List (Nat × Nat × Bool)} {rest : LoadVerdict}
    (h : checkEach bs code items rest = .pass) : (∀ item ∈ items, item.2.2 = false) ∧ rest = .pass := by
  induction items with
  | nil => exact ⟨nofun, h⟩
  | cons item items ih =>
    obtain ⟨hitem, hafter⟩ := checkOn_pass h
    obtain ⟨hitems, hrest⟩ := ih hafter
    refine ⟨List.forall_mem_cons.mpr ⟨?_, hitems⟩, hrest⟩
    by_contra hbad
    rw [if_pos (by simpa using hbad)] at hitem
    cases hitem

/-- Check 8 has passed for every alarm configuration. -/
theorem loadVerdict_pass_alarms {areaBase : Nat} {bs : List Byte} (h : loadVerdict areaBase bs = .pass) (i : Fin 8) :
    (alarmConfigAt bs i.val).bad = false := by
  unfold loadVerdict at h
  obtain ⟨-, hperiod⟩ := checkOn_pass h
  obtain ⟨-, htiles⟩ := checkOn_pass hperiod
  obtain ⟨-, hsome⟩ := checkEach_pass htiles
  obtain ⟨-, hring⟩ := checkOn_pass hsome
  obtain ⟨-, hareas⟩ := checkOn_pass hring
  obtain ⟨-, hsources⟩ := checkOn_pass hareas
  obtain ⟨-, halarms⟩ := checkEach_pass hsources
  exact (checkEach_pass halarms).1 _ (List.mem_map_of_mem (List.mem_finRange i))

theorem AlarmConfig.debounce_of_not_bad {a : AlarmConfig} (h : a.bad = false) (he : a.enable = true) : 1 ≤ a.debounce := by
  by_contra hd
  have hbad : a.bad = true := by
    rw [AlarmConfig.bad, he, Bool.true_and, Bool.or_eq_true]
    exact .inl (decide_eq_true (by omega))
  rw [h] at hbad
  cases hbad

theorem loadedAlarms_agree {areaBase : Nat} {bs : List Byte} (h : loadVerdict areaBase bs = .pass) :
    alarmsAgree (Vector.ofFn fun i => AlarmInput.loaded (alarmConfigAt bs i.val)) := by
  intro i
  rw [Fin.getElem_fin, Vector.getElem_ofFn]
  exact AlarmInput.loaded_consistent (AlarmConfig.debounce_of_not_bad (loadVerdict_pass_alarms h i))

/-! ## The alarm contact unit's work -/

/-- Work that keeps the alarm inputs consistent. -/
def State.keepsAlarms (s t : State) : Prop := s.alarmsConsistent → t.alarmsConsistent

theorem State.keepsAlarms.of_bank {s t : State} (h : alarmsAgree s.alarms → alarmsAgree t.alarms) : s.keepsAlarms t := h

/-- Work that leaves the alarm inputs alone. -/
theorem State.keepsAlarms.same {s t : State} (h : t.alarms = s.alarms := by simp) : s.keepsAlarms t :=
  .of_bank (h ▸ id)

theorem State.keepsAlarms.trans {s t u : State} (h : s.keepsAlarms t) (g : t.keepsAlarms u) : s.keepsAlarms u := g ∘ h

/-- Work that keeps the inputs consistent, followed by work that leaves them alone. -/
theorem State.keepsAlarms.then {s t u : State} (h : s.keepsAlarms t) (g : u.alarms = t.alarms := by simp) :
    s.keepsAlarms u :=
  h.trans (.same g)

theorem State.keepsAlarms.ite {s t u : State} {p : Prop} [Decidable p] (ht : s.keepsAlarms t) (hu : s.keepsAlarms u) :
    s.keepsAlarms (if p then t else u) := by
  split
  · exact ht
  · exact hu

theorem State.alarmTakes_keepsAlarms (s : State) (step : AlarmStep) : s.keepsAlarms (s.alarmTakes step) := by
  unfold State.alarmTakes
  split
  · refine .of_bank fun h => ?_
    rw [State.alarmStep_alarms]
    exact h.applied step
  · exact .same

theorem State.clearWork_keepsAlarms (s : State) : s.keepsAlarms s.clearWork.1 := by
  refine .of_bank fun h => ?_
  rw [State.clearWork_alarms]
  unfold State.clearedAlarms
  exact h.applyClears _

theorem State.alarmStepLate_keepsAlarms (more : Bool) (s : State) (step : AlarmStep) :
    s.keepsAlarms (State.alarmStepLate more s step) := by
  have hmoves : s.keepsAlarms (s.makeMoves (step.applied s.alarms)) := by
    refine .of_bank fun h => ?_
    rw [State.makeMoves_alarms]
    exact h.applied step
  exact .ite hmoves.then hmoves

theorem State.alarmsGoOn_keepsAlarms (s : State) (more : Bool) : s.keepsAlarms (s.alarmsGoOn more) := by
  have hlate (steps : List AlarmStep) : ∀ u : State, u.keepsAlarms (steps.foldl (State.alarmStepLate more) u) := by
    induction steps with
    | nil => exact fun _ => .same rfl
    | cons step rest ih => exact fun u => (u.alarmStepLate_keepsAlarms more step).trans (ih _)
  unfold State.alarmsGoOn
  split
  · exact .same rfl
  · rename_i steps rest _
    exact .trans (t := s.withAlarmsLater rest) (.same rfl) (hlate steps _)

/-! ## The ring processor's work (R129, R142, R152) -/

theorem State.commitGroup_keepsAlarms (s : State) (n : Word) : s.keepsAlarms (s.commitGroup n) :=
  s.clearWork_keepsAlarms.then (State.commitWith_alarms _ _ _)

theorem State.takeLookEvent_keepsAlarms (s : State) (ev : LookCause) : s.keepsAlarms (s.takeLookEvent ev) := by
  cases ev with
  | frame n => exact .ite (s.commitGroup_keepsAlarms n) .same
  | attend => exact .same (s.lookIn_alarms _)
  | atOnce => exact .same (s.lookIn_alarms _)

theorem State.takeKept_keepsAlarms (s : State) (ev : LookCause) (more : Bool) : s.keepsAlarms (s.takeKept ev more) := by
  have htakes := s.takeLookEvent_keepsAlarms ev
  cases ev with
  | frame n => exact (State.keepsAlarms.ite htakes.then htakes).trans (State.alarmsGoOn_keepsAlarms _ more)
  | attend => exact htakes
  | atOnce => exact htakes

theorem State.serveKept_keepsAlarms (evs : List LookCause) (s : State) : s.keepsAlarms (State.serveKept evs s) := by
  induction evs generalizing s with
  | nil => exact .same rfl
  | cons ev rest ih =>
    have hnone : s.keepsAlarms (s.withRing { s.ring with kept := [] }) := .same rfl
    have htakes := hnone.trans (State.takeKept_keepsAlarms _ ev (rest.any LookCause.isFrame))
    exact .ite (htakes.trans (ih _)) (htakes.then rfl)

theorem State.settleLooks_keepsAlarms (s : State) : s.keepsAlarms s.settleLooks := State.serveKept_keepsAlarms _ s

theorem State.lookEvent_keepsAlarms (s : State) (ev : LookCause) : s.keepsAlarms (s.lookEvent ev) :=
  .ite (s.takeLookEvent_keepsAlarms ev) (.ite (.same rfl) .same)

theorem State.abortGroup_keepsAlarms (s : State) (extra : List Held) (code detail : Nat) (skip : Bool) :
    s.keepsAlarms (s.abortGroup extra code detail skip) := by
  have hreturns (r : Ring) (ts : List Transfer) : s.keepsAlarms ((s.withRing r).issue (.control ringProcessor) ts) :=
    .same rfl
  exact (hreturns _ _).trans (State.settleLooks_keepsAlarms _)

theorem State.completeGroup_keepsAlarms (s : State) : s.keepsAlarms s.completeGroup := by
  have hwaits : s.keepsAlarms (if s.ring.edits then (s.withRing { s.ring with state := .awaitingCommit }).startBuild .group
      else s.withRing { s.ring with state := .awaitingCommit }) := .ite (.same rfl) (.same rfl)
  exact hwaits.trans (State.settleLooks_keepsAlarms _)

theorem State.takeSlot_keepsAlarms (s : State) (slot : List Byte) (check : Ring → Verdict) :
    s.keepsAlarms (s.takeSlot slot check) := by
  have hring (r : Ring) : s.keepsAlarms (s.withRing r) := .same rfl
  unfold State.takeSlot
  dsimp only
  split
  · exact (hring _).trans (State.abortGroup_keepsAlarms _ _ _ _ _)
  · split
    · exact (hring _).trans (State.abortGroup_keepsAlarms _ _ _ _ _)
    · exact .ite ((hring _).then (State.lookAtOnce_alarms _)) ((hring _).trans (State.completeGroup_keepsAlarms _))

theorem State.failBuild_keepsAlarms (s : State) (k : Fin 16) (code : Nat) : s.keepsAlarms (s.failBuild k code) := by
  have habort := State.keepsAlarms.trans
    (t := s.withBuilder { s.builder with state := .idle, shadow := none, failed := satInc s.builder.failed }) (.same rfl)
    (State.abortGroup_keepsAlarms _ [] resTooComplex (k.val + 256 * code) false)
  exact .ite habort habort.then

/-! ## A wall frame start (R129, R130) -/

theorem State.frameAlone_keepsAlarms (s : State) (setFirst lastTile : Bool) :
    s.keepsAlarms (s.frameAlone setFirst lastTile) := by
  have hbegun : s.keepsAlarms s.frameBegun := .same rfl
  have hblocks : s.keepsAlarms (s.frameBegun.blocksTakeFrame lastTile) := hbegun.then
  have hclears := hbegun.trans (State.clearWork_keepsAlarms _)
  have hcommits : s.keepsAlarms ((s.frameBegun.clearWork.1.blocksTakeFrame lastTile).commitWith s.frameBegun.frameNo
    s.frameBegun.clearWork.2) := hclears.then
  exact .ite (hblocks.trans (State.commitGroup_keepsAlarms _ _))
    (.ite hcommits (hblocks.trans (State.lookEvent_keepsAlarms _ _)))

theorem State.frameChangeAfter_keepsAlarms (s : State) (high : Groups) (lastTile : Bool) :
    s.keepsAlarms (s.frameChangeAfter high lastTile) := by
  have hmoved : s.keepsAlarms
      ((s.withAlarms (sampledAll s.alarms high)).raiseIf (someSettles s.alarms high) causeAlarmEvent) := by
    refine .of_bank fun h => ?_
    rw [State.raiseIf_alarms]
    exact h.sampledAll high
  have hframe := hmoved.trans (State.frameAlone_keepsAlarms _ false lastTile)
  exact .ite hframe hframe.then

/-- The inputs are those that the interval has left after the clears, whatever the ring processor does in between. -/
theorem State.frameChangeBefore_keepsAlarms (s : State) (high : Groups) (lastTile : Bool) :
    s.keepsAlarms (s.frameChangeBefore high lastTile) := by
  have hcleared : s.keepsAlarms (if s.awaitsFrame then s.clearWork else (s, [])).1 := by
    split
    · exact s.clearWork_keepsAlarms
    · exact .same rfl
  unfold State.frameChangeBefore
  dsimp only
  generalize (if s.awaitsFrame then s.clearWork else (s, [])) = cleared at hcleared ⊢
  have hsampled : s.keepsAlarms (cleared.1.sampleContacts high) := by
    refine hcleared.trans (.of_bank fun h => ?_)
    rw [State.sampleContacts, State.alarmStep_alarms]
    exact h.sampledAll high
  exact .ite ((s.frameAlone_keepsAlarms true lastTile).trans (State.alarmTakes_keepsAlarms _ _))
    (hsampled.then (State.withAlarms_alarms _ _))

theorem State.takeFrame_keepsAlarms (s : State) (order : FrameOrder) : s.keepsAlarms (s.takeFrame order) := by
  unfold State.takeFrame
  split
  · exact s.frameAlone_keepsAlarms _ _
  · rename_i x _
    have hticked : s.keepsAlarms (s.unitsTick x.sourcesFirst x.inputsFirst) := .same
    generalize s.unitsTick x.sourcesFirst x.inputsFirst = u at hticked ⊢
    have hboth : u.keepsAlarms (u.frameAndInterval order x) :=
      .ite
        (.ite ((u.alarmTakes_keepsAlarms _).trans (State.frameAlone_keepsAlarms _ _ _))
          (u.frameChangeAfter_keepsAlarms _ _))
        (.ite (u.frameChangeBefore_keepsAlarms _ _)
          ((u.frameAlone_keepsAlarms _ _).trans (State.alarmTakes_keepsAlarms _ _)))
    exact (hticked.trans hboth).then

/-! ## Every command -/

/-- A command after which the alarm inputs are consistent if they were before. -/
def State.alarmsAfter (s : State) (o : Host.Outcome State Fault Refusal) : Prop := ∀ t, o = .next t → s.keepsAlarms t

section
variable {s t : State} {p : Prop} [Decidable p]

theorem State.keepsAlarms.next (h : s.keepsAlarms t) : s.alarmsAfter (.next t) := by
  rintro _ ⟨⟩
  exact h

/-- A command that leaves the alarm inputs alone. -/
theorem State.alarmsAfter.apart (h : t.alarms = s.alarms := by simp) : s.alarmsAfter (.next t) :=
  (State.keepsAlarms.same h).next

theorem State.alarmsAfter.idle : s.alarmsAfter (.next s) := .apart rfl

theorem State.alarmsAfter.fault (r : Fault) : s.alarmsAfter (.fault r) := fun _ h => nomatch h

theorem State.alarmsAfter.ite {a b : Host.Outcome State Fault Refusal} (ha : s.alarmsAfter a) (hb : s.alarmsAfter b) :
    s.alarmsAfter (if p then a else b) := by
  split
  · exact ha
  · exact hb

end

theorem State.takeKind_alarmsAfter (s : State) (kind : Nat) (check : List Byte → Ring → Verdict) :
    s.alarmsAfter (.next (s.takeKind kind check)) := by
  unfold State.takeKind
  split
  · exact (s.takeSlot_keepsAlarms _ _).next
  · exact .idle

theorem execTakeScene_alarmsAfter (s : State) : s.alarmsAfter (execTakeScene s) := by
  unfold execTakeScene
  split
  · exact (State.keepsAlarms.ite (s.takeSlot_keepsAlarms _ _) (.same rfl)).next
  · refine State.keepsAlarms.next (.ite (.same rfl) ?_)
    exact s.takeKind_alarmsAfter _ _ _ rfl
  all_goals exact .idle

theorem execBadKind_alarmsAfter (s : State) : s.alarmsAfter (execBadKind s) := by
  unfold execBadKind
  split
  · exact (State.keepsAlarms.ite (s.takeSlot_keepsAlarms _ _) (.same rfl)).next
  all_goals exact .idle

/-- A look or a slot that ends lets the processor take what it has kept. -/
theorem State.settledLooks_alarmsAfter (s : State) (r : Ring) : s.alarmsAfter (.next (s.withRing r).settleLooks) :=
  (State.keepsAlarms.trans (t := s.withRing r) (.same rfl) (State.settleLooks_keepsAlarms _)).next

theorem execSlotNotPosted_alarmsAfter (s : State) : s.alarmsAfter (execSlotNotPosted s) := by
  unfold execSlotNotPosted
  split
  · exact .idle
  · exact .ite (.apart rfl) (s.settledLooks_alarmsAfter _)

theorem execLoadEnd_alarmsAfter (s : State) : s.alarmsAfter (execLoadEnd s) := by
  unfold execLoadEnd
  refine .ite ?_ .idle
  split
  · exact .idle
  · refine (State.keepsAlarms.of_bank fun _ => ?_).next
    exact loadedAlarms_agree ‹_›
  · exact .apart

/-- A reset or a LOAD taken unloads every input. -/
theorem State.alarmsAfter.unloads {s t : State} (h : t.alarms = Vector.replicate 8 AlarmInput.unloaded) :
    s.alarmsAfter (.next t) :=
  (State.keepsAlarms.of_bank fun _ => h ▸ alarmsAgree_replicate).next

/-- STOP keeps what the samples have given, the work still to be taken included (R136). -/
theorem execStop_alarmsAfter (load start : Bool) (s : State) : s.alarmsAfter (execStop load start s) := by
  refine (State.keepsAlarms.of_bank fun h => ?_).next
  exact (h.appliedAll s.alarmsLater.flatten).mapBank fun _ _ ha => ha.stopped

theorem exec_alarmsAfter (c : Instr) (s : State) : s.alarmsAfter (exec c s) := by
  cases c with
  | powerOnReset dram => exact .unloads rfl
  | resetPin cut => exact .unloads rfl
  | load start =>
    rw [exec_load]
    by_cases hl : s.canLoad = true
    · rw [if_pos hl]
      exact .unloads rfl
    · rw [if_neg hl]
      exact .apart
  | loadEnd => exact execLoadEnd_alarmsAfter s
  | stop load start => exact execStop_alarmsAfter load start s
  | start | heldStart => exact .ite .apart .apart
  | pcieLinkReset _ | causeClear _ | causeEnableWrite _ | resetReasonClear _ | ignoredRegisterWrite _ _ => exact .apart rfl
  | areaBaseWrite w => exact (State.keepsAlarms.ite (.same rfl) .same).next
  | bar2Access op =>
    cases op with
    | read addr len => exact .ite (.fault _) (.apart rfl)
    | write addr data => exact .ite (.fault _) (.apart rfl)
  | transferGrant =>
    rw [exec_transferGrant]
    cases s.port.choose with
    | none => exact .idle
    | some r => exact .apart
  | attend w => exact (State.keepsAlarms.ite (s.lookEvent_keepsAlarms _) .same).next
  | wallFrameStart order => exact (State.keepsAlarms.ite (s.takeFrame_keepsAlarms order) (.same rfl)).next
  | millisecondInterval high =>
    exact .ite ((s.alarmTakes_keepsAlarms (.interval high)).then (State.unitsTick_alarms _ _ _)).next .idle
  | debouncedAssert _ | debouncedRelease _ =>
    exact (State.keepsAlarms.ite (s.alarmTakes_keepsAlarms _) (.same rfl)).next
  | lossOfSignal _ | staleLimitReached _ | expiry _ => exact .ite .apart .idle
  | frameStartMark _ | captureLock _ | congestionHalved _ | congestionNormal _ => exact .ite .apart .idle
  | lineStartMark _ | pixel _ _ | goodFrameReport _ => exact .ite .apart .idle
  | lineStart _ | rowComposed _ => exact .apart
  | capturePublication c =>
    show s.alarmsAfter (execCapturePublication c s)
    unfold execCapturePublication
    split
    · exact (State.keepsAlarms.ite .same (.same rfl)).next
    · exact .idle
  | memoryHeaderRead m =>
    show s.alarmsAfter (execMemoryHeaderRead m s)
    unfold execMemoryHeaderRead
    split
    · exact .apart
    · exact .idle
  | tileBuilt =>
    rcases exec_tileBuilt_cases s with h | ⟨kind, shadow, t, table, h⟩ | ⟨t, code, h⟩ <;> rw [h]
    · exact .idle
    · exact .apart
    · exact (s.failBuild_keepsAlarms t code).next
  | takeScene => exact execTakeScene_alarmsAfter s
  | badKind => exact execBadKind_alarmsAfter s
  | nop | putWindow | removeWindow | restack | saveScene | freeze | clearAlarm | sourceConfig | clearWall =>
    exact s.takeKind_alarmsAfter _ _
  | slotNotPosted => exact execSlotNotPosted_alarmsAfter s
  | chainTimeout => exact .ite (s.abortGroup_keepsAlarms _ _ _ _).next .idle
  | skipTimeout => exact .ite (s.settledLooks_alarmsAfter _) .idle
  | skippedSlot =>
    show s.alarmsAfter (execSkippedSlot s)
    unfold execSkippedSlot
    split
    · exact .idle
    · exact .apart
  | writeBackDone =>
    show s.alarmsAfter (execWriteBackDone s)
    unfold execWriteBackDone
    split
    · exact (State.keepsAlarms.ite .same (.same rfl)).next
    · exact .idle
  | abortReturnDone =>
    show s.alarmsAfter (execAbortReturnDone s)
    unfold execAbortReturnDone
    split
    · exact .idle
    · exact (State.keepsAlarms.ite .same (.same rfl)).next

/-- Settles O7: samples and clears leave a state that goes with the level, a passed load has checked every D, and no other
command touches the inputs. -/
theorem alarmStatesMatchLevels : Obligations.AlarmStatesMatchLevels := by
  intro s t hs h
  rcases step_cases h with rfl | ⟨c, rest, -, he⟩
  · exact hs
  · exact exec_alarmsAfter c (s.withPending rest) t he hs

end Sys2Proof.Machine
end

section
/-! A group without edits commits at a wall frame start, its clears in order (R128, R129, R152 to R154; O37). -/

namespace Sys2Proof.Machine

open Sys2Proof

/-! ## What a group's clears do, in order (R128) -/

theorem AlarmState.cleared_cleared (st : AlarmState) : st.cleared.cleared = st.cleared := by
  cases st <;> rfl

theorem AlarmState.clearMoves_iff (st : AlarmState) : st.clearMoves = true ↔ st = .active ∨ st = .latched := by
  cases st <;> simp [AlarmState.clearMoves]

/-- A clear leaves nothing for another clear to move. -/
theorem AlarmState.cleared_clearMoves (st : AlarmState) : st.cleared.clearMoves = false := by
  cases st <;> rfl

/-- The inputs after the first clear of a group. -/
def clearOne (alarms : Vector AlarmInput 8) (k : Fin 8) : Vector AlarmInput 8 :=
  vset alarms k { alarms[k] with state := (alarms[k]).state.cleared }

theorem applyClears_cons (pos : Nat) (k : Fin 8) (rest : List (Nat × Fin 8)) (alarms : Vector AlarmInput 8) :
    applyClears ((pos, k) :: rest) alarms =
      let after := applyClears rest (clearOne alarms k)
      (after.1, (alarms[k]).state.clearMoves || after.2.1, (pos, (alarms[k]).state.found) :: after.2.2) := rfl

theorem clearOne_state (alarms : Vector AlarmInput 8) (k i : Fin 8) :
    ((clearOne alarms k)[i]).state = if k = i then (alarms[i]).state.cleared else (alarms[i]).state := by
  rw [clearOne, vset_get_eq]
  by_cases h : i = k
  · subst h
    rw [if_pos rfl, if_pos rfl]
  · rw [if_neg h, if_neg (Ne.symm h)]

/-- However often a group clears an input, one clear decides its state. -/
theorem applyClears_state (clears : List (Nat × Fin 8)) (alarms : Vector AlarmInput 8) (i : Fin 8) :
    ((applyClears clears alarms).1[i]).state =
      if ∃ c ∈ clears, c.2 = i then (alarms[i]).state.cleared else (alarms[i]).state := by
  induction clears generalizing alarms with
  | nil => simp [applyClears]
  | cons clear rest ih =>
    obtain ⟨pos, k⟩ := clear
    rw [applyClears_cons]
    dsimp only
    rw [ih, clearOne_state]
    simp only [List.exists_mem_cons_iff]
    by_cases hk : k = i
    · rw [if_pos hk, AlarmState.cleared_cleared, ite_self, if_pos (.inl hk)]
    · simp only [hk, if_false, false_or]

/-- A group moves an input exactly when it clears one that stands in ACTIVE or LATCHED before it. -/
theorem applyClears_moves (clears : List (Nat × Fin 8)) (alarms : Vector AlarmInput 8) :
    (applyClears clears alarms).2.1 = true ↔ ∃ c ∈ clears, (alarms[c.2]).state.clearMoves = true := by
  induction clears generalizing alarms with
  | nil => simp [applyClears]
  | cons clear rest ih =>
    obtain ⟨pos, k⟩ := clear
    rw [applyClears_cons]
    dsimp only
    rw [Bool.or_eq_true, ih, List.exists_mem_cons_iff]
    dsimp only
    by_cases hmoves : (alarms[k]).state.clearMoves = true
    · exact ⟨fun _ => .inl hmoves, fun _ => .inl hmoves⟩
    · refine or_congr_right (exists_congr fun c => and_congr_right fun _ => ?_)
      rw [clearOne_state]
      by_cases hk : k = c.2
      · subst hk
        rw [if_pos rfl, AlarmState.cleared_clearMoves]
        exact ⟨nofun, fun h => absurd h hmoves⟩
      · rw [if_neg hk]

theorem applyClears_length (clears : List (Nat × Fin 8)) (alarms : Vector AlarmInput 8) :
    (applyClears clears alarms).2.2.length = clears.length := by
  induction clears generalizing alarms with
  | nil => rfl
  | cons clear rest ih =>
    obtain ⟨pos, k⟩ := clear
    rw [applyClears_cons, List.length_cons, List.length_cons, ih]

/-- Each clear returns the state that the clears before it have left. -/
theorem applyClears_found (before : List (Nat × Fin 8)) (pos : Nat) (i : Fin 8) (rest : List (Nat × Fin 8))
    (alarms : Vector AlarmInput 8) :
    (applyClears (before ++ (pos, i) :: rest) alarms).2.2[before.length]? =
      some (pos, ((applyClears before alarms).1[i]).state.found) := by
  induction before generalizing alarms with
  | nil => rfl
  | cons clear before ih =>
    obtain ⟨p, k⟩ := clear
    rw [List.cons_append, applyClears_cons, applyClears_cons, List.length_cons, List.getElem?_cons_succ]
    exact ih _

/-! ## The commit (R129, R152 to R154) -/

/-- With no GROUP bank to swap in, the live table stays as the blocks take the start (R34). -/
theorem State.blocksTakeFrame_live {s : State} (hb : s.builder.state ≠ .donePending .group) (lastTile : Bool) :
    (s.blocksTakeFrame lastTile).live = s.live :=
  (s.blocksTakeFrame_tablesSwapped lastTile).1.resolve_right fun h => hb h.1

/-- A processor that does not look commits the group without edits that it holds. -/
theorem State.ringFrame_commits {s : State} (hl : s.ring.look = .none) (ha : s.awaitsFrame = true) :
    s.ringFrame = s.commitGroup s.frameNo := by
  simp [State.ringFrame, State.lookEvent, hl, State.takeLookEvent, State.ringTakesFrame, ha]

/-- The clears before the swap: the group commits, and what waits for the alarm unit stays. -/
theorem State.frameAlone_setFirst_commits {s : State} (hb : s.builder.state ≠ .donePending .group)
    (ha : s.awaitsFrame = true) (lastTile : Bool) :
    let t := s.frameAlone true lastTile
    t.live = s.live ∧ s.groupCommitted t (s.frameNo + 1) s.live ∧ t.alarmsLater = s.alarmsLater := by
  have hg : s.groupCommits = false := by rwa [Bool.eq_false_iff, ne_eq, State.groupCommits_eq]
  have hlive : (s.cleared.blocksTakeFrame lastTile).live = s.live := by
    rw [State.blocksTakeFrame_live, State.cleared_live]
    rw [State.cleared_builder]
    exact Builder.afterRaised_not_group hb _ _
  refine ⟨?_, State.frameAlone_clearsFirst hg ha hlive, (State.frameAlone_commits_alarms hg ha lastTile).2⟩
  rw [State.frameAlone_commits hg ha, State.commitWith_live]
  exact hlive

/-- The clears after the swap. -/
theorem State.frameAlone_swapFirst_commits {s : State} (hb : s.builder.state ≠ .donePending .group)
    (ha : s.awaitsFrame = true) (hl : s.ring.look = .none) (lastTile : Bool) :
    let t := s.frameAlone false lastTile
    t.live = s.live ∧ s.groupCommitted t (s.frameNo + 1) s.live ∧ t.alarmsLater = s.alarmsLater := by
  have hg : s.groupCommits = false := by rwa [Bool.eq_false_iff, ne_eq, State.groupCommits_eq]
  obtain ⟨v, hv⟩ : ∃ v, v = s.frameBegun.blocksTakeFrame lastTile := ⟨_, rfl⟩
  have hring : v.ring = s.ring := by simp [hv]
  have halarms : v.alarms = s.alarms := by simp [hv]
  have hlater : v.alarmsLater = s.alarmsLater := by simp [hv, State.frameBegun]
  have hlive : v.live = s.live := by rw [hv, State.blocksTakeFrame_live (s := s.frameBegun) hb, State.frameBegun_live]
  have hno : v.frameNo = s.frameNo + 1 := by simp [hv, State.frameBegun]
  have hawaits : v.awaitsFrame = true := by rwa [State.awaitsFrame, hring]
  obtain ⟨hfound, hcleared⟩ := State.clearWork_found hring halarms
  dsimp only
  rw [State.frameAlone_blocksFirst hg (by simp), ← hv, State.ringFrame_commits (by rw [hring, hl]) hawaits, hno]
  refine ⟨(v.commitGroup_live _).trans hlive, ?_, (v.commitGroup_alarmsLater _).trans hlater⟩
  rw [State.commitGroup, hfound, ← hlive, ← v.clearWork_live]
  refine State.commitWith_groupCommitted ?_ ?_ ?_ ?_ (fun hmoved => State.clearWork_sets ?_) _
  · rw [State.clearWork_ring, hring]
  · rw [State.clearWork_config, hv, State.blocksTakeFrame_config, State.frameBegun_config]
  · rw [State.clearWork_alarms, hcleared]
  · rw [State.clearWork_port, hv, State.blocksTakeFrame_ringQueue, State.frameBegun_port]
  · rw [hring, halarms]
    exact hmoved

/-- Settles O37: the group commits before or after the swap, neither of which moves the live table, and its clears act one
after another. -/
theorem groupWithoutEditsCommits : Obligations.GroupWithoutEditsCommits := by
  constructor
  · intro order s hi hr hstate hedits hl hb
    have ha : s.awaitsFrame = true := s.awaitsFrame_eq.mpr ⟨hstate, hedits⟩
    have hcommits : let t := s.frameAlone order.setFirst order.lastTile
        t.live = s.live ∧ s.groupCommitted t (s.frameNo + 1) s.live ∧ t.alarmsLater = s.alarmsLater := by
      cases order.setFirst with
      | true => exact State.frameAlone_setFirst_commits hb ha _
      | false => exact State.frameAlone_swapFirst_commits hb ha hl _
    obtain ⟨hlive, hcommitted, hlater⟩ := hcommits
    exact ⟨_, exec_wallFrameStart_alone hi hr, State.frameAlone_frameNo _ _ _, hlive, hcommitted, hlater, by simp⟩
  · intro clears alarms done cleared
    have hcleared (st : AlarmState) : cleared st = st.cleared := by cases st <;> rfl
    have hstate (l : List (Nat × Fin 8)) (i : Fin 8) : ((applyClears l alarms).1[i]).state =
        if ∃ c ∈ l, c.2 = i then cleared (alarms[i]).state else (alarms[i]).state := by
      rw [hcleared]
      exact applyClears_state l alarms i
    refine ⟨fun i => ?_, ?_, applyClears_length clears alarms, fun before pos i rest h => ?_⟩
    · rw [← hstate]
      exact applyClears_keeps clears alarms i
    · simp only [← AlarmState.clearMoves_iff]
      exact applyClears_moves clears alarms
    · subst h
      dsimp only
      rw [← hstate]
      refine (applyClears_found before pos i rest alarms).trans ?_
      cases ((applyClears before alarms).1[i]).state <;> rfl

end Sys2Proof.Machine
end

section
/-! Events of a millisecond interval or of a wall frame start taken alone (R96, R97, R113, R127; O39). -/

namespace Sys2Proof.Machine

open Sys2Proof

/-! ## A debounced change (R127, R131, R133) -/

theorem State.alarmTakes_changedInto {s : State} (hl : s.alarmsLater = []) (i : Fin 8) (level : Bool) :
    s.changedInto (s.alarmTakes (.change i level)) i level := by
  rw [State.alarmTakes_nil _ _ hl]
  refine ⟨?_, s.alarmStep_movedInto _⟩
  rw [State.alarmStep_alarms]
  exact AlarmStep.applied_turns s.alarms (.change i level)

/-- Both commands bring the alarm contact unit the change as one piece of work. -/
theorem exec_debounced {s : State} {c : Instr} {i : Fin 8} {level : Bool}
    (hc : c = .debouncedAssert i ∧ level = true ∨ c = .debouncedRelease i ∧ level = false)
    (hr : s.control.part = .running) : exec c s = .next (s.alarmTakes (.change i level)) := by
  have hrunning : s.running = true := by simp [State.running, hr]
  rcases hc with ⟨rfl, rfl⟩ | ⟨rfl, rfl⟩
  · exact congrArg Host.Outcome.next (if_pos hrunning)
  · exact congrArg Host.Outcome.next (if_pos hrunning)

/-! ## A loss of signal (R113) -/

theorem exec_lossOfSignal {s : State} {c : Fin 16} (hr : s.control.part = .running)
    (hlosing : (s.inputs[c]).losing = true) :
    exec (.lossOfSignal c) s =
      .next (((s.setInput c (s.inputs[c]).lost).setQueue (.capture c) (orphan (s.port.queue (.capture c)))).raise
        causeSourceEvent) :=
  if_pos (by rw [hlosing, State.running, hr]; rfl)

theorem orphan_addr_op (ts : List Transfer) :
    (orphan ts).map (fun x => (x.addr, x.op)) = ts.map fun x => (x.addr, x.op) := by
  simp [orphan]

/-! ## Steps 3 and 4 of R92 for one source (R96, R97) -/

/-- An enabled source with no header to judge and nothing to promote comes to steps 3 and 4. -/
theorem State.finishes_of {s : State} {src : Fin 32} (hr : s.control.part = .running)
    (he : (s.channel src).desc.enable = true) (hj : src ∉ s.sources.toJudge)
    (hp : src.val < 16 → (s.channel src).frozen = true ∨ ∀ k : Fin 3, (s.channel src).roles[k] ≠ some .ready) :
    s.finishes src = true := by
  have hnone : (isCapture src && (s.channel src).promotable) = false := by
    rw [Bool.eq_false_iff, ne_eq, Source.promotes_iff he]
    rintro ⟨-, hc, hfrozen, k, hk⟩
    rcases hp hc with h | h
    · rw [hfrozen] at h
      cases h
    · exact h k hk
  simp [State.finishes, State.running, hr, he, hj, hnone]

/-- A source's steps 3 and 4 change its channel, and set SOURCE_EVENT. -/
theorem State.finishSource_eq {s : State} {src : Fin 32} (hs : (s.channel src).rolesLegal src)
    (he : (s.channel src).desc.enable = true) :
    s.finishSource src =
      { s with
        sources := { s.sources with
          channels := vset s.sources.channels src
            ({ s.channel src with before := (s.channel src).presentation } : Source).settled }
        link := s.link.withCausesSet 0x08 } := by
  have hlegal : ({ s.channel src with before := (s.channel src).presentation } : Source).rolesLegal src :=
    Source.rolesLegal_congr rfl rfl hs
  rw [State.finishSource, State.raise_eq, Source.commit_nil, Source.finish_eq_settled hlegal he]
  rfl

/-- A frame on view that has reached its expiry limit is taken from view and counted. -/
theorem Source.settled_expired {c : Source} (hk : ∃ k : Fin 3, c.roles[k] = some .shown) (hx : c.desc.expiryLimit ≠ 0)
    (ha : c.desc.expiryLimit ≤ c.age) :
    c.settled =
      { c with
        roles := mapBank c.roles fun _ r => if r = some .shown then some .spare else r
        age := 0, shownW := 0, shownH := 0, presentation := .none
        expired := if c.expired = 0xFFFFFFFF then c.expired else c.expired + 1 } :=
  if_pos ⟨hk, hx, ha⟩

/-- A frame on view that has reached its stale limit alone is STALE. -/
theorem Source.settled_stale {c : Source} (hk : ∃ k : Fin 3, c.roles[k] = some .shown) (hx : c.expires = false)
    (hs : c.desc.staleLimit ≠ 0) (ha : c.desc.staleLimit ≤ c.age) : c.settled = { c with presentation := .stale } := by
  obtain ⟨k, hk⟩ := hk
  rw [Source.settled, if_neg (mt c.expires_iff.mpr (by simp [hx])), if_neg fun h => h k hk, if_pos ⟨hs, ha⟩]

theorem exec_expiry {s : State} {src : Fin 32} (hf : s.finishes src = true) (hx : (s.channel src).expires = true) :
    exec (.expiry src) s = .next (s.finishSource src) :=
  if_pos (by simp [hf, hx])

theorem exec_staleLimitReached {s : State} {src : Fin 32} (hf : s.finishes src = true)
    (hx : (s.channel src).expires = false) (hj : (s.channel src).judged = .stale)
    (hp : (s.channel src).presentation ≠ .stale) :
    exec (.staleLimitReached src) s = .next (s.finishSource src) :=
  if_pos (by simp [hf, hx, hj, hp])

/-- Settles O39: each event is the piece of work that its interval or its start would bring the one input. -/
theorem eventsTakenAlone : Obligations.EventsTakenAlone := by
  refine ⟨fun s i c level hc hr => ⟨fun hl => ?_, fun _ => ?_⟩, fun s c hr hs hloss => ?_, ?_⟩
  · exact ⟨_, exec_debounced hc hr, State.alarmTakes_changedInto hl i level⟩
  · exact ⟨_, exec_debounced hc hr, s.alarmTakes_keptForLater _⟩
  · refine ⟨_, exec_lossOfSignal hr ((CaptureInput.losing_iff _).mpr ⟨hs, hloss⟩), ?_⟩
    rw [State.raise_eq]
    have hqueue := s.port.setQueue_queue (.capture c) (orphan (s.port.queue (.capture c)))
    refine ⟨State.setInput_input s c _, fun k hk => vset_get_of_ne _ _ hk, ?_, fun r hne => ?_, rfl⟩
    · exact (congrArg (List.map fun x => (x.addr, x.op)) hqueue).trans (orphan_addr_op _)
    · exact s.port.setQueue_queue_of_ne _ hne
  · intro s src c hr hlegal he hj hp hk
    have hfinishes := State.finishes_of hr he hj hp
    refine ⟨fun hx ha => ?_, fun hst ha hx hfresh => ?_⟩
    · have hexpires : c.expires = true := c.expires_iff.mpr ⟨hk, hx, ha⟩
      refine ⟨_, exec_expiry hfinishes hexpires, ?_⟩
      rw [State.finishSource_eq hlegal he, Source.settled_expired (c := { c with before := c.presentation }) hk hx ha]
      have hchannel := vset_get s.sources.channels src
      refine ⟨fun k => ?_, ?_, fun q hq => vset_get_of_ne _ _ hq, rfl⟩
      · rw [State.channel, hchannel, mapBank_get]
      · rw [State.channel, hchannel]
    · have hexpires : c.expires = false := by
        rw [Bool.eq_false_iff, ne_eq, c.expires_iff]
        omega
      obtain ⟨k, hshown⟩ := hk
      have hjudged : c.judged = .stale := by
        rw [Source.judged_on he, if_neg fun h => h k hshown, if_pos ⟨hst, ha⟩]
      rw [exec_staleLimitReached hfinishes hexpires hjudged hfresh, State.finishSource_eq hlegal he,
        Source.settled_stale (c := { c with before := c.presentation }) ⟨k, hshown⟩ hexpires hst ha]

end Sys2Proof.Machine
end

section
/-! How many slots the ring processor holds and where NEXT stands, through every command (R141, R147; O6). -/

namespace Sys2Proof.Machine

open Sys2Proof

/-! ## Work of the ring processor that takes no slot -/

/-- As many slots are held as before, and NEXT stands. -/
def State.slotsStay (s t : State) : Prop := t.ring.held.length = s.ring.held.length ∧ t.ring.next = s.ring.next

theorem State.slotsStay.of_ring {s t : State} (h : t.ring = s.ring := by simp) : s.slotsStay t := by
  rw [State.slotsStay, h]
  exact ⟨rfl, rfl⟩

theorem State.slotsStay.trans {s t u : State} (h : s.slotsStay t) (g : t.slotsStay u) : s.slotsStay u :=
  ⟨g.1.trans h.1, g.2.trans h.2⟩

theorem State.slotsStay.then {s t u : State} (h : s.slotsStay t) (g : u.ring = t.ring := by simp) : s.slotsStay u :=
  h.trans (.of_ring g)

theorem State.slotsStay.ite {s t u : State} {p : Prop} [Decidable p] (ht : s.slotsStay t) (hu : s.slotsStay u) :
    s.slotsStay (if p then t else u) := by
  split
  · exact ht
  · exact hu

theorem State.lookIn_slotsStay (s : State) (cause : LookCause) : s.slotsStay (s.lookIn cause) := by
  unfold State.lookIn
  split <;> exact ⟨rfl, rfl⟩

/-- A commit gives the held slots their details and drops none (R152, R154). -/
theorem State.commitWith_slotsStay (s : State) (n : Word) (found : List (Nat × Nat)) :
    s.slotsStay (s.commitWith n found) := by
  simp [State.slotsStay, State.commitWith, State.committedSlots]

theorem State.commitGroup_slotsStay (s : State) (n : Word) : s.slotsStay (s.commitGroup n) :=
  .trans (.of_ring s.clearWork_ring) (State.commitWith_slotsStay _ _ _)

theorem State.takeLookEvent_slotsStay (s : State) (ev : LookCause) : s.slotsStay (s.takeLookEvent ev) := by
  cases ev with
  | frame n => exact .ite (s.commitGroup_slotsStay n) ((s.lookIn_slotsStay _).then (State.handItems_ring _ _))
  | attend => exact s.lookIn_slotsStay _
  | atOnce => exact s.lookIn_slotsStay _

theorem State.takeKept_slotsStay (s : State) (ev : LookCause) (more : Bool) : s.slotsStay (s.takeKept ev more) := by
  have htakes := s.takeLookEvent_slotsStay ev
  cases ev with
  | frame n => exact (State.slotsStay.ite (htakes.then (State.copyFollows_ring _ _)) htakes).then (State.alarmsGoOn_ring _ _)
  | attend => exact htakes
  | atOnce => exact htakes

theorem State.serveKept_slotsStay (evs : List LookCause) (s : State) : s.slotsStay (State.serveKept evs s) := by
  induction evs generalizing s with
  | nil => exact ⟨rfl, rfl⟩
  | cons ev rest ih =>
    have hnone : s.slotsStay (s.withRing { s.ring with kept := [] }) := ⟨rfl, rfl⟩
    have htakes := hnone.trans (State.takeKept_slotsStay _ ev (rest.any LookCause.isFrame))
    exact .ite (htakes.trans (ih _)) (htakes.trans ⟨rfl, rfl⟩)

theorem State.settleLooks_slotsStay (s : State) : s.slotsStay s.settleLooks := State.serveKept_slotsStay _ s

theorem State.lookEvent_slotsStay (s : State) (ev : LookCause) : s.slotsStay (s.lookEvent ev) := by
  have hkept : s.slotsStay (s.withRing { s.ring with kept := s.ring.kept ++ [ev] }) := ⟨rfl, rfl⟩
  exact .ite (s.takeLookEvent_slotsStay ev) (.ite (.of_ring rfl) hkept.then)

/-- An abort returns the slots that the group holds, and holds them until they have been returned (R150). -/
theorem State.abortGroup_slotsStay (s : State) (extra : List Held) (code detail : Nat) (skip : Bool) :
    s.slotsStay (s.abortGroup extra code detail skip) := by
  unfold State.abortGroup
  dsimp only
  refine State.slotsStay.trans ?_ (State.settleLooks_slotsStay _)
  exact ⟨rfl, rfl⟩

theorem State.completeGroup_slotsStay (s : State) : s.slotsStay s.completeGroup := by
  have hwaits : s.slotsStay (if s.ring.edits then (s.withRing { s.ring with state := .awaitingCommit }).startBuild .group
      else s.withRing { s.ring with state := .awaitingCommit }) := .ite ⟨rfl, rfl⟩ ⟨rfl, rfl⟩
  exact hwaits.trans (State.settleLooks_slotsStay _)

theorem State.failBuild_slotsStay (s : State) (k : Fin 16) (code : Nat) : s.slotsStay (s.failBuild k code) := by
  have habort := State.slotsStay.trans
    (t := s.withBuilder { s.builder with state := .idle, shadow := none, failed := satInc s.builder.failed }) (.of_ring rfl)
    (State.abortGroup_slotsStay _ [] resTooComplex (k.val + 256 * code) false)
  exact .ite habort habort.then

/-! ## A wall frame start -/

theorem State.frameAlone_slotsStay (s : State) (setFirst lastTile : Bool) :
    s.slotsStay (s.frameAlone setFirst lastTile) := by
  have hblocks : s.slotsStay (s.frameBegun.blocksTakeFrame lastTile) := .of_ring
  have hcleared : s.slotsStay (s.frameBegun.clearWork.1.blocksTakeFrame lastTile) := .of_ring
  exact .ite (hblocks.trans (State.commitGroup_slotsStay _ _))
    (.ite (hcleared.trans (State.commitWith_slotsStay _ _ _)) (hblocks.trans (State.lookEvent_slotsStay _ _)))

theorem State.frameChangeAfter_slotsStay (s : State) (high : Groups) (lastTile : Bool) :
    s.slotsStay (s.frameChangeAfter high lastTile) := by
  have hmoved : s.slotsStay
      ((s.withAlarms (sampledAll s.alarms high)).raiseIf (someSettles s.alarms high) causeAlarmEvent) := .of_ring
  have hframe := hmoved.trans (State.frameAlone_slotsStay _ false lastTile)
  exact .ite hframe hframe.then

theorem State.frameChangeBefore_slotsStay (s : State) (high : Groups) (lastTile : Bool) :
    s.slotsStay (s.frameChangeBefore high lastTile) := by
  have hcleared : (if s.awaitsFrame then s.clearWork else (s, [])).1.ring = s.ring := by
    split
    · exact s.clearWork_ring
    · rfl
  unfold State.frameChangeBefore
  dsimp only
  generalize (if s.awaitsFrame then s.clearWork else (s, [])) = cleared at hcleared ⊢
  have hblocks : s.slotsStay (((((cleared.1.sampleContacts high).withFrameNo (s.frameNo + 1)).pushFrame).blocksTakeFrame
      lastTile).withAlarms cleared.1.alarms) := .of_ring (by simp [hcleared])
  split
  · exact (s.frameAlone_slotsStay true lastTile).then (State.alarmTakes_ring _ _)
  · generalize State.withAlarms _ cleared.1.alarms = t at hblocks ⊢
    have htaken := State.slotsStay.ite (p := s.awaitsFrame = true) (t.commitWith_slotsStay t.frameNo cleared.2)
      (t.lookEvent_slotsStay (.frame t.frameNo))
    exact (hblocks.trans htaken).then (State.withAlarms_ring _ _)

theorem State.takeFrame_slotsStay (s : State) (order : FrameOrder) : s.slotsStay (s.takeFrame order) := by
  unfold State.takeFrame
  split
  · exact s.frameAlone_slotsStay _ _
  · rename_i x _
    have hticked : s.slotsStay (s.unitsTick x.sourcesFirst x.inputsFirst) := .of_ring
    generalize s.unitsTick x.sourcesFirst x.inputsFirst = u at hticked ⊢
    have hfirst : u.slotsStay (u.alarmTakes (.interval x.high)) := .of_ring
    have hboth : u.slotsStay (u.frameAndInterval order x) :=
      .ite (.ite (hfirst.trans (State.frameAlone_slotsStay _ _ _)) (u.frameChangeAfter_slotsStay _ _))
        (.ite (u.frameChangeBefore_slotsStay _ _)
          ((u.frameAlone_slotsStay _ _).then (State.alarmTakes_ring _ _)))
    exact (hticked.trans hboth).then

/-! ## The range of both (R141, R147) -/

theorem State.nextIndex_lt (s : State) : s.nextIndex < 2 ^ s.cfg.ringCode := Nat.mod_lt _ (Nat.two_pow_pos _)

/-- NEXT has advanced, and no more slots are held than the limit allows. -/
theorem State.ringInRange.advanced {s t : State} (hc : t.config = s.config) (hn : t.ring.next = s.nextIndex)
    (hl : t.ring.held.length ≤ min 32 (2 ^ s.cfg.ringCode / 2)) : t.ringInRange := by
  rw [State.ringInRange, State.cfg_of_config hc, hn]
  exact ⟨hl, fun _ => s.nextIndex_lt⟩

theorem State.slotsStay.ringInRange {s t : State} (h : s.slotsStay t) (hc : t.config = s.config) (hs : s.ringInRange) :
    t.ringInRange := by
  rw [State.ringInRange, State.cfg_of_config hc, h.1, h.2, hc]
  exact hs

/-- A processor at rest holds nothing, and NEXT is a slot of the ring when it is 0 or no ring is loaded. -/
theorem State.ringInRange.atRest {t : State} {next : Nat} (h : t.ring = Ring.atRest next)
    (hn : next = 0 ∨ t.config = none) : t.ringInRange := by
  rw [State.ringInRange, h]
  refine ⟨Nat.zero_le _, fun hc => ?_⟩
  rcases hn with rfl | hn
  · exact Nat.two_pow_pos _
  · simp [hn] at hc

/-! ## Taking a slot -/

/-- A check that accepts changes the drafts and the pending lists alone. -/
def Verdict.draftsOnly (r : Ring) : Verdict → Prop
  | .refuse _ _ => True
  | .accept _ g =>
    g = { r with
      draft := g.draft, draftDescs := g.draftDescs, pendingSources := g.pendingSources, pendingClears := g.pendingClears,
      pendingSaves := g.pendingSaves }

theorem checkPutWindow_draftsOnly (slot : List Byte) (r : Ring) : (checkPutWindow slot r).draftsOnly r := by
  unfold checkPutWindow
  dsimp only
  split
  · trivial
  · rfl

theorem checkRemoveWindow_draftsOnly (slot : List Byte) (r : Ring) : (checkRemoveWindow slot r).draftsOnly r := by
  unfold checkRemoveWindow
  dsimp only
  split
  · trivial
  · split
    · rfl
    · trivial

theorem checkRestack_draftsOnly (slot : List Byte) (r : Ring) : (checkRestack slot r).draftsOnly r := by
  by_cases hcan : r.canRestack slot
  · rw [checkRestack_accepts hcan]
    rfl
  · obtain ⟨code, detail, hrefuse⟩ := checkRestack_refuses hcan
    rw [hrefuse]
    trivial

theorem checkTakeScene_draftsOnly (scene slot : List Byte) (r : Ring) : (checkTakeScene scene slot r).draftsOnly r := by
  unfold checkTakeScene
  split
  · trivial
  · split
    · trivial
    · rfl

theorem checkSaveScene_draftsOnly (slot : List Byte) (r : Ring) : (checkSaveScene slot r).draftsOnly r := by
  unfold checkSaveScene
  dsimp only
  split
  · rfl
  · trivial

theorem checkFreeze_draftsOnly (slot : List Byte) (r : Ring) : (checkFreeze slot r).draftsOnly r := by
  unfold checkFreeze
  dsimp only
  split
  · split
    · trivial
    · rfl
  · trivial

theorem checkClearAlarm_draftsOnly (slot : List Byte) (r : Ring) : (checkClearAlarm slot r).draftsOnly r := by
  unfold checkClearAlarm
  dsimp only
  split
  · rfl
  · trivial

theorem checkSourceConfig_draftsOnly (areas : List (Nat × Nat)) (slot : List Byte) (r : Ring) :
    (checkSourceConfig areas slot r).draftsOnly r := by
  unfold checkSourceConfig
  dsimp only
  split
  · split
    · trivial
    · rfl
  · trivial

/-- A slot joins the group only while there is room, and NEXT moves on with it. -/
theorem State.takeSlot_ringInRange {s : State} {check : Ring → Verdict} (slot : List Byte)
    (hc : (check s.takingRing).draftsOnly s.takingRing) (hs : s.ringInRange) : (s.takeSlot slot check).ringInRange := by
  suffices h : (s.takeSlot slot check).ring.next = s.nextIndex ∧
      (s.takeSlot slot check).ring.held.length ≤ min 32 (2 ^ s.cfg.ringCode / 2) from .advanced (by simp) h.1 h.2
  have hlimit : s.ring.held.length ≤ min 32 (2 ^ s.cfg.ringCode / 2) := hs.1
  by_cases hroom : s.hasRoom
  · have hjoins (h : Held) : (s.ring.held ++ [h]).length ≤ min 32 (2 ^ s.cfg.ringCode / 2) := by
      rw [List.length_append]
      exact hroom
    cases hv : check s.takingRing with
    | refuse code detail =>
      obtain ⟨hheld, hnext⟩ := State.abortGroup_slotsStay (s.withRing { s.takingRing with
        held := s.takingRing.held ++ [⟨s.ring.next, slotKind slot, resDone, 0⟩] }) [] code detail (slotChain slot)
      rw [s.takeSlot_refused slot check code detail hroom hv, hheld, hnext]
      exact ⟨rfl, hjoins _⟩
    | accept detail g =>
      have hl : ¬ s.groupLimit ≤ s.takingRing.held.length := fun hl => s.limit_iff_not_hasRoom.mp hl hroom
      rw [hv] at hc
      have hnext : g.next = s.nextIndex := (congrArg Ring.next hc :)
      unfold State.takeSlot
      dsimp only
      rw [if_neg hl, hv]
      dsimp only
      have hstays (t : State) (u : State) (h : t.slotsStay u) (hn : t.ring.next = s.nextIndex)
          (hh : t.ring.held.length ≤ min 32 (2 ^ s.cfg.ringCode / 2)) :
          u.ring.next = s.nextIndex ∧ u.ring.held.length ≤ min 32 (2 ^ s.cfg.ringCode / 2) :=
        ⟨h.2.trans hn, h.1 ▸ hh⟩
      split
      · exact hstays _ _ (State.lookIn_slotsStay _ _) hnext (hjoins _)
      · exact hstays _ _ (State.completeGroup_slotsStay _) hnext (hjoins _)
  · obtain ⟨hheld, hnext⟩ := State.abortGroup_slotsStay (s.withRing s.takingRing)
      [⟨s.ring.next, slotKind slot, resDone, 0⟩] resGroupTooLong 0 (slotChain slot)
    rw [s.takeSlot_tooLong slot check hroom, hheld, hnext]
    exact ⟨rfl, hlimit⟩

/-! ## Every command -/

/-- A command after which the held slots and NEXT are in range if they were before. -/
def State.rangeAfter (s : State) (o : Host.Outcome State Fault Refusal) : Prop :=
  ∀ t, o = .next t → s.ringInRange → t.ringInRange

section
variable {s t : State} {p : Prop} [Decidable p]

theorem State.rangeAfter.next (h : s.ringInRange → t.ringInRange) : s.rangeAfter (.next t) := by
  rintro _ ⟨⟩
  exact h

theorem State.rangeAfter.stays (h : s.slotsStay t) (hc : t.config = s.config := by simp) : s.rangeAfter (.next t) :=
  .next (h.ringInRange hc)

/-- A command that leaves the ring processor and the configuration alone. -/
theorem State.rangeAfter.apart (h : t.ring = s.ring := by simp) (hc : t.config = s.config := by simp) :
    s.rangeAfter (.next t) :=
  .stays (.of_ring h) hc

theorem State.rangeAfter.idle : s.rangeAfter (.next s) := .apart rfl rfl

theorem State.rangeAfter.fault (r : Fault) : s.rangeAfter (.fault r) := fun _ h => nomatch h

theorem State.rangeAfter.ite {a b : Host.Outcome State Fault Refusal} (ha : s.rangeAfter a) (hb : s.rangeAfter b) :
    s.rangeAfter (if p then a else b) := by
  split
  · exact ha
  · exact hb

theorem State.rangeAfter.nextIte {u : State} (ha : s.rangeAfter (.next t)) (hb : s.rangeAfter (.next u)) :
    s.rangeAfter (.next (if p then t else u)) := by
  split
  · exact ha
  · exact hb

/-- A reset, a LOAD taken or a STOP leaves a processor at rest and no ring. -/
theorem State.rangeAfter.unloads {next : Nat} (h : t.ring = Ring.atRest next) (hc : t.config = none) :
    s.rangeAfter (.next t) :=
  .next fun _ => .atRest h (.inr hc)

end

theorem State.takeKind_rangeAfter (s : State) (kind : Nat) {check : List Byte → Ring → Verdict}
    (hc : ∀ slot r, (check slot r).draftsOnly r) : s.rangeAfter (.next (s.takeKind kind check)) := by
  unfold State.takeKind
  split
  · exact .next (State.takeSlot_ringInRange _ (hc _ _))
  · exact .idle

theorem execTakeScene_rangeAfter (s : State) : s.rangeAfter (execTakeScene s) := by
  unfold execTakeScene
  split
  · exact .nextIte (.next (State.takeSlot_ringInRange _ (checkTakeScene_draftsOnly _ _ _))) .idle
  · exact .nextIte .idle (s.takeKind_rangeAfter _ (checkTakeScene_draftsOnly _))
  all_goals exact .idle

theorem execBadKind_rangeAfter (s : State) : s.rangeAfter (execBadKind s) := by
  unfold execBadKind
  split
  · exact .nextIte (.next (State.takeSlot_ringInRange _ trivial)) .idle
  all_goals exact .idle

theorem execSlotNotPosted_rangeAfter (s : State) : s.rangeAfter (execSlotNotPosted s) := by
  have hended (w : Nat) (look : Look) : s.slotsStay (s.withRing { s.ring with wait := w, look := look }) := ⟨rfl, rfl⟩
  unfold execSlotNotPosted
  split
  · exact .idle
  · exact .ite (.stays (hended _ _) rfl) (.stays ((hended _ _).trans (State.settleLooks_slotsStay _)))

theorem execSkippedSlot_rangeAfter (s : State) : s.rangeAfter (execSkippedSlot s) := by
  unfold execSkippedSlot
  split
  · exact .idle
  · rename_i slot _
    have hadvanced (u : State) (hu : u.ring.next = s.nextIndex) (hh : u.ring.held = s.ring.held)
        (hc : u.config = s.config) : s.rangeAfter (.next u.lookAtOnce) := by
      obtain ⟨hheld, hnext⟩ := u.lookIn_slotsStay .atOnce
      exact .next fun hs => .advanced (s := s) (by simpa using hc) (hnext.trans hu) (by
        rw [State.lookAtOnce, hheld, hh]
        exact hs.1)
    exact hadvanced _ (by simp) (by simp) (by simp)

/-- The end of a return leaves no slot held. -/
theorem State.endReturn_rangeAfter (s : State) (state : RingState) : s.rangeAfter (.next (s.endReturn state)) := by
  obtain ⟨hheld, hnext⟩ := State.lookIn_slotsStay
    ((s.withRing { s.ring with state := state, held := [], pendingSaves := [], wait := 0 }).raise causeGroupDone) .atOnce
  refine .next fun hs => ?_
  rw [State.ringInRange, State.cfg_of_config (State.endReturn_config s state), State.endReturn_config]
  unfold State.endReturn State.lookAtOnce
  rw [hheld, hnext, State.raise_ring]
  exact ⟨Nat.zero_le _, hs.2⟩

theorem execLoadEnd_rangeAfter (s : State) : s.rangeAfter (execLoadEnd s) := by
  rcases exec_loadEnd_cases s with h | ⟨-, h | ⟨code, index, h⟩⟩ <;> rw [show execLoadEnd s = exec .loadEnd s from rfl, h]
  · exact .idle
  · exact .next fun _ => .atRest (next := 0) (by simp [State.loadPassed]) (.inl rfl)
  · exact .apart

/-- The bytes of a slot start a group that holds nothing, or leave what the processor holds. -/
theorem State.ringGranted_slots (s : State) (bytes : List Byte) :
    (s.ringGranted bytes).ring.next = s.ring.next ∧
      (s.ringGranted bytes).ring.held.length ≤ s.ring.held.length := by
  obtain ⟨look, g, ts, hgranted, hring⟩ := s.ringGranted_cases bytes
  rw [hgranted]
  rcases hring with hring | ⟨-, -, hring⟩
  · have hnext : g.next = s.ring.next := (congrArg Ring.next hring :)
    have hheld : g.held = s.ring.held := (congrArg Ring.held hring :)
    exact ⟨hnext, hheld ▸ Nat.le_refl _⟩
  · have hnext : g.next = s.ring.next := (congrArg Ring.next hring :)
    have hheld : g.held = [] := (congrArg Ring.held hring :)
    exact ⟨hnext, hheld ▸ Nat.zero_le _⟩

theorem State.ringGranted_rangeAfter (s : State) (bytes : List Byte) : s.rangeAfter (.next (s.ringGranted bytes)) := by
  obtain ⟨hnext, hheld⟩ := s.ringGranted_slots bytes
  refine .next fun hs => ?_
  rw [State.ringInRange, State.cfg_of_config (s.ringGranted_config bytes), State.ringGranted_config, hnext]
  exact ⟨hheld.trans hs.1, hs.2⟩

theorem State.controlRead_rangeAfter (s : State) (k : Fin 5) (x : Transfer) (bytes : List Byte) :
    s.rangeAfter (.next (s.controlRead k x bytes)) := by
  unfold State.controlRead
  exact .nextIte (.apart rfl rfl) (.nextIte (s.ringGranted_rangeAfter bytes)
    (.nextIte .apart (.nextIte .apart .idle)))

theorem State.respond_rangeAfter (s : State) (r : Requester) (x : Transfer) (bytes : List Byte) :
    s.rangeAfter (.next (s.respond r x bytes)) := by
  unfold State.respond
  split
  · exact .apart
  · exact .apart
  · split
    · exact s.controlRead_rangeAfter _ _ _
    · exact .idle
    · exact .idle

theorem State.grant_rangeAfter (s : State) (r : Requester) : s.rangeAfter (.next (s.grant r)) := by
  unfold State.grant
  split
  · exact .idle
  · exact State.respond_rangeAfter ((s.withPort _).withMem _) _ _ _

theorem exec_rangeAfter (c : Instr) (s : State) : s.rangeAfter (exec c s) := by
  cases c with
  | powerOnReset dram => exact .unloads (next := 0) rfl rfl
  | resetPin cut => exact .unloads (next := 0) rfl rfl
  | load start =>
    rw [exec_load]
    exact .nextIte (.unloads rfl rfl) .apart
  | stop load start => exact .unloads rfl rfl
  | loadEnd => exact execLoadEnd_rangeAfter s
  | start | heldStart => exact .ite .apart .apart
  | pcieLinkReset _ | causeClear _ | causeEnableWrite _ | resetReasonClear _ | ignoredRegisterWrite _ _ =>
    exact .apart rfl rfl
  | areaBaseWrite w => exact .nextIte (.apart rfl rfl) .apart
  | bar2Access op =>
    cases op with
    | read addr len => exact .ite (.fault _) (.apart rfl rfl)
    | write addr data => exact .ite (.fault _) (.apart rfl rfl)
  | transferGrant =>
    rw [exec_transferGrant]
    cases s.port.choose with
    | none => exact .idle
    | some r => exact s.grant_rangeAfter r
  | attend w => exact .nextIte (.stays (s.lookEvent_slotsStay _)) .apart
  | wallFrameStart order => exact .nextIte (.stays (s.takeFrame_slotsStay order)) .idle
  | millisecondInterval high => exact .ite .apart .idle
  | debouncedAssert _ | debouncedRelease _ => exact .nextIte .apart .idle
  | lossOfSignal _ | staleLimitReached _ | expiry _ => exact .ite .apart .idle
  | frameStartMark _ | captureLock _ | congestionHalved _ | congestionNormal _ => exact .ite .apart .idle
  | lineStartMark _ | pixel _ _ | goodFrameReport _ => exact .ite .apart .idle
  | lineStart _ | rowComposed _ => exact .apart
  | capturePublication c =>
    show s.rangeAfter (execCapturePublication c s)
    unfold execCapturePublication
    split
    · exact .nextIte .apart .idle
    · exact .idle
  | memoryHeaderRead m =>
    show s.rangeAfter (execMemoryHeaderRead m s)
    unfold execMemoryHeaderRead
    split
    · exact .apart
    · exact .idle
  | tileBuilt =>
    rcases exec_tileBuilt_cases s with h | ⟨kind, shadow, t, table, h⟩ | ⟨t, code, h⟩ <;> rw [h]
    · exact .idle
    · exact .apart rfl rfl
    · exact .stays (s.failBuild_slotsStay t code)
  | nop => exact s.takeKind_rangeAfter _ fun _ _ => rfl
  | takeScene => exact execTakeScene_rangeAfter s
  | putWindow => exact s.takeKind_rangeAfter _ checkPutWindow_draftsOnly
  | removeWindow => exact s.takeKind_rangeAfter _ checkRemoveWindow_draftsOnly
  | restack => exact s.takeKind_rangeAfter _ checkRestack_draftsOnly
  | saveScene => exact s.takeKind_rangeAfter _ checkSaveScene_draftsOnly
  | freeze => exact s.takeKind_rangeAfter _ checkFreeze_draftsOnly
  | clearAlarm => exact s.takeKind_rangeAfter _ checkClearAlarm_draftsOnly
  | sourceConfig => exact s.takeKind_rangeAfter _ (checkSourceConfig_draftsOnly _)
  | clearWall => exact s.takeKind_rangeAfter _ fun _ _ => rfl
  | badKind => exact execBadKind_rangeAfter s
  | slotNotPosted => exact execSlotNotPosted_rangeAfter s
  | skippedSlot => exact execSkippedSlot_rangeAfter s
  | chainTimeout => exact .ite (.stays (s.abortGroup_slotsStay _ _ _ _)) .idle
  | skipTimeout =>
    have hended : s.slotsStay (s.withRing { s.ring with state := .idle, look := .none }) := ⟨rfl, rfl⟩
    exact .ite (.stays (hended.trans (State.settleLooks_slotsStay _))) .idle
  | writeBackDone =>
    show s.rangeAfter (execWriteBackDone s)
    unfold execWriteBackDone
    split
    · exact .nextIte (s.endReturn_rangeAfter _) .idle
    · exact .idle
  | abortReturnDone =>
    show s.rangeAfter (execAbortReturnDone s)
    unfold execAbortReturnDone
    split
    · exact .idle
    · exact .nextIte (s.endReturn_rangeAfter _) .idle

/-- Settles O6: a slot is held only while there is room, NEXT moves on modulo the ring length, and what else the processor
does keeps both. -/
theorem heldSlotsStayInRange : Obligations.HeldSlotsStayInRange := by
  intro s t hs h
  rcases step_cases h with rfl | ⟨c, rest, -, he⟩
  · exact hs
  · exact exec_rangeAfter c (s.withPending rest) t he hs

end Sys2Proof.Machine
end

section
/-! The checks of the slot kinds: which slots each accepts, with what it makes of the drafts, and which it refuses, with the
code and detail of its rule (R145, R158 to R174). -/

namespace Sys2Proof.Machine

open Sys2Proof

/-! ## Slots that are accepted (R160 to R164, R169, R171, R172) -/

theorem checkPutWindow_accepts {slot : List Byte} {i : Fin 64} (hw : (windowAt slot 16).inRange)
    (hi : (windowAt slot 16).id = i.val) (r : Ring) :
    checkPutWindow slot r =
      .accept (if r.draft.has i then 1 else 0) { r with draft := r.draft.put i (windowAt slot 16) } := by
  have hbyte : (windowAt slot 16).source ≤ 255 := Nat.le_of_lt_succ (byteAt slot (16 + 2)).isLt
  unfold checkPutWindow
  dsimp only
  rw [(WindowRec.fault_none_iff hbyte).mpr hw, idOf_eq hi]

theorem checkRemoveWindow_accepts {slot : List Byte} {i : Fin 64} (hi : slotByte slot 16 = i.val) {r : Ring}
    (hhas : r.draft.has i = true) :
    checkRemoveWindow slot r = .accept (r.draft.position i) { r with draft := r.draft.remove i } := by
  unfold checkRemoveWindow
  dsimp only
  rw [if_neg (by omega), idOf_eq hi, if_pos hhas]

theorem checkSaveScene_accepts {slot : List Byte} {n : Fin 16} (hn : slotByte slot 16 = n.val) (r : Ring) :
    checkSaveScene slot r = .accept 0 { r with pendingSaves := r.pendingSaves ++ [n] } := by
  have hlt : slotByte slot 16 < 16 := by omega
  have hfin : (⟨slotByte slot 16, hlt⟩ : Fin 16) = n := Fin.ext hn
  unfold checkSaveScene
  dsimp only
  rw [dif_pos hlt, hfin]

theorem checkFreeze_accepts {slot : List Byte} {n : Fin 32} {on : Bool} (hn : slotByte slot 16 = n.val)
    (hon : slotByte slot 17 = if on then 1 else 0) (r : Ring) :
    checkFreeze slot r = .accept 0 { r with pendingSources := r.pendingSources ++ [.freeze n on] } := by
  have hlt : slotByte slot 16 < 32 := by omega
  have hfin : (⟨slotByte slot 16, hlt⟩ : Fin 32) = n := Fin.ext hn
  unfold checkFreeze
  dsimp only
  rw [dif_pos hlt, hfin, hon]
  cases on <;> rfl

theorem checkClearAlarm_accepts {slot : List Byte} {n : Fin 8} (hn : slotByte slot 16 = n.val) (r : Ring) :
    checkClearAlarm slot r = .accept 0 { r with pendingClears := r.pendingClears ++ [(r.held.length, n)] } := by
  have hlt : slotByte slot 16 < 8 := by omega
  have hfin : (⟨slotByte slot 16, hlt⟩ : Fin 8) = n := Fin.ext hn
  unfold checkClearAlarm
  dsimp only
  rw [dif_pos hlt, hfin]

/-! ## Slots that are refused (R158, R161 to R163, R166 to R174) -/

section
variable {slot : List Byte} (r : Ring)

theorem checkTakeScene_refusesNumber (h : 15 < slotByte slot 16) (scene : List Byte) :
    checkTakeScene scene slot r = .refuse 4 16 := by
  rw [checkTakeScene, if_pos h]
  rfl

theorem checkTakeScene_refusesScene {scene : List Byte} {detail : Nat} (h : slotByte slot 16 ≤ 15)
    (hf : sceneFault scene = some detail) : checkTakeScene scene slot r = .refuse 6 detail := by
  rw [checkTakeScene, if_neg (by omega), hf]
  rfl

theorem checkPutWindow_refuses {off : Nat} (h : (windowAt slot 16).fault = some off) :
    checkPutWindow slot r = .refuse 4 (16 + off) := by
  unfold checkPutWindow
  dsimp only
  rw [h]
  rfl

theorem checkRemoveWindow_refusesId (h : 63 < slotByte slot 16) : checkRemoveWindow slot r = .refuse 4 16 := by
  unfold checkRemoveWindow
  dsimp only
  rw [if_pos h]
  rfl

theorem checkRemoveWindow_refusesAbsent {i : Fin 64} (hi : slotByte slot 16 = i.val) (hno : r.draft.has i = false) :
    checkRemoveWindow slot r = .refuse 5 i.val := by
  unfold checkRemoveWindow
  dsimp only
  rw [if_neg (by omega), idOf_eq hi, if_neg (by simp [hno]), hi]
  rfl

theorem checkRestack_refusesId (h : 63 < slotByte slot 16) : checkRestack slot r = .refuse 4 16 := by
  unfold checkRestack
  dsimp only
  rw [if_pos h]
  rfl

theorem checkRestack_refusesPlacement (hi : slotByte slot 16 ≤ 63) (h : 3 < slotByte slot 17) :
    checkRestack slot r = .refuse 4 17 := by
  unfold checkRestack
  dsimp only
  rw [if_neg (by omega), if_pos h]
  rfl

theorem checkRestack_refusesReference (hi : slotByte slot 16 ≤ 63) (hp : slotByte slot 17 = 2 ∨ slotByte slot 17 = 3)
    (h : 63 < slotByte slot 18) : checkRestack slot r = .refuse 4 18 := by
  unfold checkRestack
  dsimp only
  rw [if_neg (by omega), if_neg (by omega), if_pos ⟨by omega, h⟩]
  rfl

theorem checkRestack_refusesAbsent {i : Fin 64} (hi : slotByte slot 16 = i.val)
    (hp : slotByte slot 17 ≤ 1 ∨ slotByte slot 17 ≤ 3 ∧ slotByte slot 18 ≤ 63) (hno : r.draft.has i = false) :
    checkRestack slot r = .refuse 5 i.val := by
  unfold checkRestack
  dsimp only
  rw [if_neg (by omega), if_neg (by omega), if_neg (by omega), idOf_eq hi, if_pos hno, hi]
  rfl

/-- A reference that is absent, or the id itself, is refused once the id has been found present. -/
theorem checkRestack_refusesOther {i ref : Fin 64} (hi : slotByte slot 16 = i.val)
    (hp : slotByte slot 17 = 2 ∨ slotByte slot 17 = 3) (hhas : r.draft.has i = true) (href : slotByte slot 18 = ref.val)
    (hno : ref = i ∨ r.draft.has ref = false) : checkRestack slot r = .refuse 4 18 := by
  have hbad : r.draft.has ref = false ∨ slotByte slot 18 = slotByte slot 16 :=
    hno.symm.imp_right fun h => by rw [href, hi, h]
  unfold checkRestack
  dsimp only
  rw [if_neg (by omega), if_neg (by omega), if_neg (by omega), idOf_eq hi, if_neg (by simp [hhas]), idOf_eq href,
    if_pos ⟨by omega, hbad⟩]
  rfl

theorem checkSaveScene_refuses (h : 15 < slotByte slot 16) : checkSaveScene slot r = .refuse 4 16 := by
  unfold checkSaveScene
  dsimp only
  rw [dif_neg (by omega)]
  rfl

theorem checkFreeze_refusesSource (h : 31 < slotByte slot 16) : checkFreeze slot r = .refuse 4 16 := by
  unfold checkFreeze
  dsimp only
  rw [dif_neg (by omega)]
  rfl

theorem checkFreeze_refusesState (hn : slotByte slot 16 ≤ 31) (h : 1 < slotByte slot 17) :
    checkFreeze slot r = .refuse 4 17 := by
  unfold checkFreeze
  dsimp only
  rw [dif_pos (by omega), if_pos h]
  rfl

theorem checkClearAlarm_refuses (h : 7 < slotByte slot 16) : checkClearAlarm slot r = .refuse 4 16 := by
  unfold checkClearAlarm
  dsimp only
  rw [dif_neg (by omega)]
  rfl

theorem checkSourceConfig_refusesSource (h : 31 < slotByte slot 16) (areas : List (Nat × Nat)) :
    checkSourceConfig areas slot r = .refuse 4 16 := by
  unfold checkSourceConfig
  dsimp only
  rw [dif_neg (by omega)]
  rfl

theorem checkSourceConfig_refusesSlots {areas : List (Nat × Nat)} {src : Fin 32} {detail : Nat}
    (hsrc : slotByte slot 16 = src.val)
    (hf : descriptorFault areas r.numberedDescs src (descriptorAt slot 20) = some detail) :
    checkSourceConfig areas slot r = .refuse 7 detail := by
  have hlt : slotByte slot 16 < 32 := by omega
  have hfin : (⟨slotByte slot 16, hlt⟩ : Fin 32) = src := Fin.ext hsrc
  unfold checkSourceConfig
  dsimp only
  rw [dif_pos hlt, hfin, hf]
  rfl

end

end Sys2Proof.Machine
end

section
/-! Slots that are held with DONE (O50), and slots that are refused (O52). -/

namespace Sys2Proof.Machine

open Sys2Proof

/-- Settles O50: each slot passes the check of its kind, and is taken with what that check makes of the drafts. -/
theorem slotsHeldWithDone : Obligations.SlotsHeldWithDone := by
  intro s slot hroom hn
  refine ⟨fun h => ⟨_, rfl, State.takeKind_accepted h hroom hn rfl⟩,
    fun h n hs => ⟨_, rfl, State.takeKind_accepted h hroom hn (checkSaveScene_accepts hs _)⟩,
    fun h n hs on hon => ⟨_, rfl, State.takeKind_accepted h hroom hn (checkFreeze_accepts hs hon _)⟩,
    fun h n hs => ⟨_, rfl, State.takeKind_accepted h hroom hn (checkClearAlarm_accepts hs _)⟩,
    ?_, ?_, fun h => ⟨_, rfl, State.takeKind_accepted h hroom hn rfl⟩⟩
  · rintro i w h rfl hw hi
    exact ⟨_, rfl, State.takeKind_accepted h hroom hn (checkPutWindow_accepts hw hi _)⟩
  · intro i h hi hhas
    exact ⟨_, rfl, State.takeKind_accepted h hroom hn (checkRemoveWindow_accepts (r := s.takingRing) hi hhas)⟩

/-! ## A slot that aborts its group (R147, R148) -/

/-- The group of `s` has aborted at the slot that a look has found, which NEXT has moved past. -/
def State.refusedSlot (s t : State) (slot : List Byte) (kind code detail : Nat) : Prop :=
  t.ring.next = s.nextIndex ∧
    s.abortedGroup t s.ring.held ⟨s.ring.next, kind, code, BitVec.ofNat 32 detail⟩ (chainSet slot)

/-- An abort of the group in hand with the found slot after its held ones, by the processor as it takes that slot. -/
theorem State.abortGroup_refusedSlot {s : State} {r : Ring} {extra : List Held} {slot : List Byte} {result code detail : Nat}
    {d : Word} (hn : r.next = s.nextIndex) (hk : r.kept = [])
    (hl : r.held ++ extra = s.ring.held ++ [⟨s.ring.next, slotKind slot, result, d⟩]) :
    s.refusedSlot ((s.withRing r).abortGroup extra code detail (slotChain slot)) slot (slotKind slot) code detail :=
  ⟨(State.abortGroup_slotsStay _ _ _ _ _).2.trans hn,
    (s.withRing r).abortGroup_abortedGroup extra s.ring.held _ code detail (slotChain slot) hk hl⟩

/-- A slot that its check refuses aborts its group. -/
theorem State.takeSlot_refusedSlot {s : State} {slot : List Byte} {kind code detail : Nat} {check : Ring → Verdict}
    (hkind : slotKind slot = kind) (hk : s.ring.kept = []) (hroom : s.hasRoom)
    (hc : check s.takingRing = .refuse code detail) :
    s.refusedSlot (s.takeSlot slot check) slot kind code detail := by
  subst hkind
  rw [s.takeSlot_refused slot check code detail hroom hc]
  exact State.abortGroup_refusedSlot rfl hk (List.append_nil _)

/-- A slot beyond the group length limit aborts its group, whatever its check. -/
theorem State.takeSlot_overLong {s : State} {slot : List Byte} {kind : Nat} (check : Ring → Verdict)
    (hkind : slotKind slot = kind) (hk : s.ring.kept = []) (hroom : ¬ s.hasRoom) :
    s.refusedSlot (s.takeSlot slot check) slot kind 8 0 := by
  subst hkind
  rw [s.takeSlot_tooLong slot check hroom]
  exact State.abortGroup_refusedSlot rfl hk rfl

/-! ## The check of a found slot's kind -/

/-- The check that the kind of a found slot asks for; of a scene nothing has been read. -/
def State.checkOf (s : State) (kind : Nat) : List Byte → Ring → Verdict :=
  match kind with
  | 0 => checkNop
  | 1 => checkTakeScene []
  | 2 => checkPutWindow
  | 3 => checkRemoveWindow
  | 4 => checkRestack
  | 5 => checkSaveScene
  | 6 => checkFreeze
  | 7 => checkClearAlarm
  | 8 => checkSourceConfig s.areas
  | 9 => checkClearWall
  | _ => fun _ _ => .refuse resBadKind 0

theorem State.checkOf_bad (s : State) {kind : Nat} (h : 9 < kind) : s.checkOf kind = fun _ _ => .refuse resBadKind 0 := by
  unfold State.checkOf
  split
  any_goals omega
  rfl

/-- A command is the one that takes found slots of a kind (R145). -/
def takesKind (c : Instr) (kind : Nat) : Prop :=
  (c, kind) ∈ [(Instr.nop, 0), (.takeScene, 1), (.putWindow, 2), (.removeWindow, 3), (.restack, 4), (.saveScene, 5),
      (.freeze, 6), (.clearAlarm, 7), (.sourceConfig, 8), (.clearWall, 9)] ∨ (c = .badKind ∧ 9 < kind)

theorem exec_badKind_found {s : State} {slot : List Byte} {kind : Nat} (hf : s.hasFound slot kind) (h : 9 < kind) :
    exec .badKind s = .next (s.takeSlot slot fun _ => .refuse resBadKind 0) := by
  obtain ⟨hr, hs, ⟨cause, hl⟩, hp, hk⟩ := hf
  have hall : (s.takes && slotPosted slot && decide (9 < slotKind slot)) = true := by
    have hkind : 9 < slotKind slot := h.trans_eq hk.symm
    simp [State.takes, State.running, hr, hs, (slotPosted_iff slot).mpr hp, hkind]
  show execBadKind s = _
  simp only [execBadKind, hl, hall, if_true]

/-- A TAKE_SCENE slot is taken as it is found when no scene is to be read for it (R147, R166). -/
theorem exec_takeScene_found {s : State} {slot : List Byte} (hf : s.hasFound slot 1) (hw : s.wantsScene slot = false) :
    exec .takeScene s = .next (s.takeSlot slot (checkTakeScene [] slot)) := by
  obtain ⟨cause, hl⟩ := hf.2.2.1
  show execTakeScene s = _
  simp only [execTakeScene, hl, hw, Bool.false_eq_true, if_false, State.takeKind_found hf]

/-- A found slot is taken by the command of its kind, with the check of its kind. -/
theorem exec_found {s : State} {slot : List Byte} {kind : Nat} {c : Instr} (hf : s.hasFound slot kind)
    (hc : takesKind c kind) (hw : kind = 1 → s.wantsScene slot = false) :
    exec c s = .next (s.takeSlot slot (s.checkOf kind slot)) := by
  have htaken {k : Nat} (h : s.hasFound slot k) (check : List Byte → Ring → Verdict) :
      Host.Outcome.next (φ := Fault) (ρ := Refusal) (s.takeKind k check) = .next (s.takeSlot slot (check slot)) :=
    congrArg _ (State.takeKind_found h check)
  rcases hc with hc | ⟨rfl, hkind⟩
  · simp only [List.mem_cons, Prod.mk.injEq, List.not_mem_nil, or_false] at hc
    rcases hc with ⟨rfl, rfl⟩ | ⟨rfl, rfl⟩ | ⟨rfl, rfl⟩ | ⟨rfl, rfl⟩ | ⟨rfl, rfl⟩ | ⟨rfl, rfl⟩ | ⟨rfl, rfl⟩ | ⟨rfl, rfl⟩ |
      ⟨rfl, rfl⟩ | ⟨rfl, rfl⟩
    case inr.inl => exact exec_takeScene_found hf (hw rfl)
    all_goals exact htaken hf _
  · rw [s.checkOf_bad hkind]
    exact exec_badKind_found hf hkind

/-- No scene is read for a slot beyond the limit, nor for one whose scene number is out of range. -/
theorem State.wantsScene_not {s : State} {slot : List Byte} (h : ¬ s.hasRoom ∨ 15 < slotByte slot 16) :
    s.wantsScene slot = false := by
  rw [Bool.eq_false_iff, ne_eq, s.wantsScene_iff]
  rintro ⟨-, hn, hroom⟩
  rcases h with h | h
  · exact h hroom
  · exact absurd hn (Nat.not_le.mpr h)

/-- Settles O52: with no room left the group aborts whatever the slot, and otherwise by what the check of its kind finds. -/
theorem refusedSlotsAbortTheGroup : Obligations.RefusedSlotsAbortTheGroup := by
  refine ⟨fun s slot kind c hf hk hc => ?_, fun s cause slot scene detail hr hs hl hk hroom hkind hn hlen hfault => ?_⟩
  · have hkind : slotKind slot = kind := hf.2.2.2.2
    refine ⟨fun hroom => ⟨_, exec_found hf hc fun _ => State.wantsScene_not (.inl hroom),
      State.takeSlot_overLong _ hkind hk hroom⟩, fun hroom => ?_⟩
    have refused {code detail : Nat} (hv : s.checkOf kind slot s.takingRing = .refuse code detail)
        (hw : kind = 1 → s.wantsScene slot = false) :
        ∃ t, exec c s = .next t ∧ s.refusedSlot t slot kind code detail :=
      ⟨_, exec_found hf hc hw, State.takeSlot_refusedSlot hkind hk hroom hv⟩
    refine ⟨fun h => ?_, fun h hn => ?_, ?_, ?_, ?_, ?_, ?_, ?_, ?_, ?_, ?_, ?_, ?_⟩
    · exact refused (by rw [s.checkOf_bad h]; rfl) (by omega)
    · subst h
      exact refused (checkTakeScene_refusesNumber s.takingRing hn []) fun _ => State.wantsScene_not (.inr hn)
    · rintro rfl off hoff
      exact refused (checkPutWindow_refuses _ hoff) nofun
    · rintro rfl hid
      exact refused (checkRemoveWindow_refusesId _ hid) nofun
    · rintro rfl i hi hno
      exact refused (checkRemoveWindow_refusesAbsent s.takingRing hi hno) nofun
    · rintro rfl hid
      exact refused (checkRestack_refusesId _ hid) nofun
    · rintro rfl i hi
      have hrange : slotByte slot 16 ≤ 63 := Nat.le_of_lt_succ (hi.trans_lt i.isLt)
      exact ⟨fun hp => refused (checkRestack_refusesPlacement _ hrange hp) nofun,
        fun hp href => refused (checkRestack_refusesReference _ hrange hp href) nofun,
        fun hp hno => refused (checkRestack_refusesAbsent s.takingRing hi hp hno) nofun,
        fun hp hhas ref href hno => refused (checkRestack_refusesOther s.takingRing hi hp hhas href hno) nofun⟩
    · rintro rfl hn
      exact refused (checkSaveScene_refuses _ hn) nofun
    · rintro rfl hn
      exact refused (checkFreeze_refusesSource _ hn) nofun
    · rintro rfl hn hon
      exact refused (checkFreeze_refusesState _ hn hon) nofun
    · rintro rfl hn
      exact refused (checkClearAlarm_refuses _ hn) nofun
    · rintro rfl hn
      exact refused (checkSourceConfig_refusesSource _ hn _) nofun
    · rintro rfl src hsrc detail hfault
      exact refused (checkSourceConfig_refusesSlots s.takingRing hsrc hfault) nofun
  · exact ⟨_, exec_takeScene_read hr hs hl hlen,
      State.takeSlot_refusedSlot hkind hk hroom (checkTakeScene_refusesScene _ hn hfault)⟩

end Sys2Proof.Machine
end

section
/-! What the ring processor does beside taking slots: a look that finds its slot not posted and the two timeouts (R146,
R149), and the ends of the returns (R149, R150, R154). -/

namespace Sys2Proof.Machine

open Sys2Proof

/-! ## A slot found not posted (R146) -/

theorem State.countsWait_iff {s : State} {cause : LookCause}
    (h : s.ring.state = .idle ∨ s.ring.state = .collecting ∨ s.ring.state = .skipping) :
    s.countsWait cause = true ↔ (∃ n, cause = .frame n) ∧ s.ring.state ≠ .idle := by
  cases cause with
  | frame n => rcases h with h | h | h <;> simp [State.countsWait, h]
  | attend => simp [State.countsWait]
  | atOnce => simp [State.countsWait]

theorem State.foundUnposted_eq {s : State} {cause : LookCause} {slot : List Byte} (hr : s.control.part = .running)
    (h : s.ring.state = .idle ∨ s.ring.state = .collecting ∨ s.ring.state = .skipping)
    (hlook : s.ring.look = .found cause slot) (hpost : slot.getD 0 0 = 0) : s.foundUnposted = some cause := by
  have hlooks : s.looks = true := by rcases h with h | h | h <;> simp [State.looks, State.running, hr, h]
  have hnot : slotPosted slot = false := by
    rw [Bool.eq_false_iff, Ne, slotPosted_iff]
    exact not_not_intro hpost
  simp [State.foundUnposted, hlook, hlooks, hnot]

open Classical in
/-- The look ends, or times out when it counts and is the eighth. -/
theorem exec_slotNotPosted_found {s : State} {cause : LookCause} {slot : List Byte} (hr : s.control.part = .running)
    (h : s.ring.state = .idle ∨ s.ring.state = .collecting ∨ s.ring.state = .skipping)
    (hlook : s.ring.look = .found cause slot) (hpost : slot.getD 0 0 = 0) :
    let counts := (∃ n, cause = .frame n) ∧ s.ring.state ≠ .idle
    let wait := if counts then s.ring.wait + 1 else s.ring.wait
    exec .slotNotPosted s =
      if counts ∧ 8 ≤ s.ring.wait + 1 then .next { s with ring := { s.ring with wait := wait, look := .timeout } }
      else .next ({ s with ring := { s.ring with wait := wait, look := .none } }).settleLooks := by
  intro counts wait
  show execSlotNotPosted s = _
  rw [execSlotNotPosted, State.foundUnposted_eq hr h hlook hpost]
  by_cases hc : counts
  · simp [wait, hc, State.countsWait_iff h |>.mpr hc, Config.chainWaitLimit, State.withRing]
  · have hnot : s.countsWait cause = false := Bool.eq_false_iff.mpr (hc ∘ (State.countsWait_iff h).mp)
    simp [wait, hc, hnot, State.withRing]

theorem exec_chainTimeout {s : State} (hr : s.control.part = .running) (hs : s.ring.state = .collecting)
    (hlook : s.ring.look = .timeout) : exec .chainTimeout s = .next (s.abortGroup [] 9 0 false) := by
  show execChainTimeout s = _
  simp [execChainTimeout, State.running, hr, hs, hlook, resChainTimeout]

theorem exec_skipTimeout {s : State} (hr : s.control.part = .running) (hs : s.ring.state = .skipping)
    (hlook : s.ring.look = .timeout) :
    exec .skipTimeout s = .next ({ s with ring := { s.ring with state := .idle, look := .none } }).settleLooks := by
  show execSkipTimeout s = _
  simp [execSkipTimeout, State.running, hr, hs, hlook, State.withRing]

/-- Settles O53: a look on a slot not posted ends or times out, and the two timeouts are an abort without a skip and the
end of a skipped chain. -/
theorem unpostedSlotsCountToTimeout : Obligations.UnpostedSlotsCountToTimeout := by
  refine ⟨?_, ?_, ?_⟩
  · intro s cause slot hr hs hlook hpost hk counts
    rw [exec_slotNotPosted_found hr hs hlook hpost]
    by_cases htimes : counts ∧ 8 ≤ s.ring.wait + 1
    · rw [if_pos htimes, if_pos htimes]
    · rw [if_neg htimes, if_neg htimes, State.settleLooks_nil]
      exact hk
  · intro s others last hr hs hlook hk hheld
    exact ⟨_, exec_chainTimeout hr hs hlook, (State.abortGroup_slotsStay _ _ _ _ _).2,
      s.abortGroup_abortedGroup [] others last 9 0 false hk (by rw [List.append_nil, hheld])⟩
  · intro s hr hs hlook hk
    rw [exec_skipTimeout hr hs hlook, State.settleLooks_nil]
    exact hk

/-! ## The ends of the returns (R149, R150, R154) -/

/-- A return ends in a state that looks: GROUP_DONE is set and slot NEXT is read at once. -/
theorem State.groupDone_looksAtOnce (s : State) {r : Ring}
    (h : r.state = .idle ∨ r.state = .collecting ∨ r.state = .skipping) :
    ((s.withRing r).raise causeGroupDone).lookAtOnce =
      { s with
        ring := { r with look := .reading .atOnce }
        link := s.link.withCausesSet 0x04
        port := s.port.issue (.control ringProcessor) (readTransfers (s.cfg.ringBase + 64 * r.next) 64 0) } := by
  rw [State.raise_eq, State.lookAtOnce, State.lookIn_reads _ h]
  rfl

theorem State.skipped_eq {s : State} {cause : LookCause} {slot : List Byte} (hr : s.control.part = .running)
    (hq : s.port.queue (.control ringProcessor) = []) (hs : s.ring.state = .skipping)
    (hlook : s.ring.look = .skip cause slot) : s.skipped = some slot := by
  simp [State.skipped, State.skips, State.running, hr, hq, hs, hlook]

theorem State.returned_eq {s : State} (hr : s.control.part = .running)
    (hq : s.port.queue (.control ringProcessor) = []) (hs : s.ring.state = .writingBack) : s.returned = true := by
  simp [State.returned, State.running, hr, hq, hs]

theorem exec_skippedSlot_skipped {s : State} {slot : List Byte} (h : s.skipped = some slot) :
    exec .skippedSlot s =
      .next (((s.withRing
        { s.ring with
          next := s.nextIndex, wait := 0, look := .none
          state := if slotChain slot then .skipping else .idle }).raise causeGroupDone).lookAtOnce) := by
  show execSkippedSlot s = _
  simp [execSkippedSlot, h]

theorem exec_writeBackDone_returned {s : State} (hret : s.ring.returning = .committed) (h : s.returned = true) :
    exec .writeBackDone s = .next (s.endReturn .idle) := by
  show execWriteBackDone s = _
  simp [execWriteBackDone, hret, h]

theorem exec_abortReturnDone_returned {s : State} {skip : Bool} (hret : s.ring.returning = .aborted skip)
    (h : s.returned = true) :
    exec .abortReturnDone s = .next (s.endReturn (if skip then .skipping else .idle)) := by
  show execAbortReturnDone s = _
  simp [execAbortReturnDone, hret, h]

theorem RingState.afterChain_looks (chain : Bool) :
    (if chain then RingState.skipping else .idle) = .idle ∨ (if chain then RingState.skipping else .idle) = .collecting ∨
      (if chain then RingState.skipping else .idle) = .skipping := by
  cases chain <;> simp

/-- Settles O54: each end of a return sets GROUP_DONE and looks at once, in the state its rule names. -/
theorem returnsEndWithGroupDone : Obligations.ReturnsEndWithGroupDone := by
  intro s hr hq looksOn
  refine ⟨?_, ?_, ?_⟩
  · intro cause slot hs hlook
    refine (exec_skippedSlot_skipped (State.skipped_eq hr hq hs hlook)).trans (congrArg _ (s.groupDone_looksAtOnce ?_))
    exact RingState.afterChain_looks _
  · intro hs hret
    refine (exec_writeBackDone_returned hret (State.returned_eq hr hq hs)).trans (congrArg _ (s.groupDone_looksAtOnce ?_))
    exact .inl rfl
  · intro skip hs hret
    refine (exec_abortReturnDone_returned hret (State.returned_eq hr hq hs)).trans (congrArg _ (s.groupDone_looksAtOnce ?_))
    exact RingState.afterChain_looks skip

end Sys2Proof.Machine
end

section
/-! A wall frame start that comes in the middle of a look, and a group that is complete with look events kept (R92, R123,
R142, R151). -/

namespace Sys2Proof.Machine

open Sys2Proof

/-! ## A wall frame start is kept (R142) -/

theorem State.ringFrame_keeps {s : State} (hl : s.ring.look ≠ .none) :
    s.ringFrame =
      { s with
        ring := { s.ring with kept := s.ring.kept ++ [.frame s.frameNo] }
        alarmsLater := s.alarmsLater ++ [[]] } := by
  simp [State.ringFrame, State.lookEvent, hl, State.alarmsWait, State.withRing, State.withAlarmsLater]

/-- The page holds the capture inputs as they stand when the blocks take the start (R123). -/
theorem State.blocksTakeFrame_statusInputs (s : State) (lastTile : Bool) (k : Fin 16) :
    (s.blocksTakeFrame lastTile).status.inputs[k] = (s.inputs[k]).reported := by
  have hinputs : (if lastTile then s.swap.completeLate else s.swap).inputs = s.inputs := by split <;> simp
  unfold State.blocksTakeFrame
  rw [State.tilesNewFrame_status, State.statusNewFrame, State.withStatus_status, mapBank_get, hinputs]
  rfl

/-- What a wall frame start in the middle of a look leaves. -/
def State.keepsFrame (s t : State) : Prop :=
  t.ring = { s.ring with kept := s.ring.kept ++ [.frame (s.frameNo + 1)] } ∧
    t.sources = { s.sources with frames := s.sources.frames ++ [⟨false, [], 0⟩] } ∧
    (t.view = none ∧ t.port.queue (.control statusWriter) = [] ∧
      t.port.queue (.control ringProcessor) = s.port.queue (.control ringProcessor)) ∧
    t.frameNo = s.frameNo + 1 ∧ t.alarms = s.alarms ∧ t.alarmsLater = s.alarmsLater ++ [[]] ∧ t.live = s.live ∧
    t.inputs = s.inputs ∧ ∀ k : Fin 16, t.status.inputs[k] = (s.inputs[k]).reported

theorem State.frameAlone_keepsFrame {s : State} {setFirst : Bool} (hl : s.ring.look ≠ .none)
    (hb : s.builder.state ≠ .donePending .group) (hf : ¬ (setFirst = true ∧ s.awaitsFrame = true)) (lastTile : Bool) :
    s.keepsFrame (s.frameAlone setFirst lastTile) := by
  have hg : s.groupCommits = false := by rwa [Bool.eq_false_iff, ne_eq, State.groupCommits_eq]
  obtain ⟨v, hv⟩ : ∃ v, v = s.frameBegun.blocksTakeFrame lastTile := ⟨_, rfl⟩
  have hring : v.ring = s.ring := by simp [hv]
  have hno : v.frameNo = s.frameNo + 1 := by simp [hv, State.frameBegun]
  have hlater : v.alarmsLater = s.alarmsLater := by simp [hv, State.frameBegun]
  have hinputs : v.inputs = s.inputs := by simp [hv, State.frameBegun]
  have hlive : v.live = s.live := by rw [hv, State.blocksTakeFrame_live (s := s.frameBegun) hb, State.frameBegun_live]
  have halarms : v.alarms = s.alarms := by simp [hv]
  obtain ⟨hsources, hview, hpage, -, -⟩ : s.frameTaken v :=
    hv ▸ State.blocksTakeFrame_frameTaken (s := s) (c := s.frameBegun) rfl rfl lastTile
  have hqueue : v.port.control[ringProcessor] = s.port.control[ringProcessor] := by
    rw [hv, State.blocksTakeFrame_ringQueue, State.frameBegun_port]
  have hcopied (k : Fin 16) : v.status.inputs[k] = (s.inputs[k]).reported := by
    rw [hv, State.blocksTakeFrame_statusInputs]
    rfl
  rw [State.frameAlone_blocksFirst hg hf, ← hv, State.ringFrame_keeps (by rwa [hring]), hring, hno, hlater]
  exact ⟨rfl, hsources, ⟨hview, hpage, hqueue⟩, rfl, halarms, rfl, hlive, hinputs, hcopied⟩

/-! ## A group that is complete (R151) -/

/-- A NOP slot that completes its group leaves the group waiting for its commit, and the kept look events are taken. -/
theorem exec_nop_completes {s : State} {slot : List Byte} (hroom : s.hasRoom) (hf : s.hasFound slot 0)
    (hchain : chainSet slot = false) :
    let g := s.ring
    exec .nop s =
      .next ({ s with
        ring := { g with
          state := .awaitingCommit, next := (s.ring.next + 1) % 2 ^ s.cfg.ringCode, wait := 0, look := .none
          held := g.held ++ [(⟨s.ring.next, 0, 1, 0⟩ : Held)] }
        builder :=
          if g.edits then
            { s.builder with
              state := .building .group 0
              shadow := some { builtWith := raisedSet s.alarms, tiles := Vector.replicate 16 none } }
          else s.builder }).settleLooks := by
  have hl : ¬ s.groupLimit ≤ s.takingRing.held.length := fun hl => s.limit_iff_not_hasRoom.mp hl hroom
  have hnot : slotChain slot = false := hchain
  have hedits : s.takingRing.edits = s.ring.edits := rfl
  show Host.Outcome.next (s.takeKind 0 checkNop) = _
  rw [State.takeKind_found hf]
  obtain ⟨-, -, -, -, hzero⟩ := hf
  have hkind : slotKind slot = 0 := hzero
  unfold State.takeSlot
  simp only [if_neg hl, checkNop, hnot, hkind, hedits, State.completeGroup]
  cases s.ring.edits with
  | true => rfl
  | false => rfl

end Sys2Proof.Machine
end

section
/-! The kept look events as they are served: what the alarm contact unit makes after a kept wall frame start, what the
status writer and the source unit have of it, and the events that read nothing (R129, R137, R142). -/

namespace Sys2Proof.Machine

open Sys2Proof

/-! ## The alarm contact unit's work after a kept wall frame start (R129, R131, R133) -/

theorem State.makeMoves_movedInto (s : State) (alarms : Vector AlarmInput 8) : s.movedInto (s.makeMoves alarms) false := by
  refine ⟨fun h => Bool.noConfusion h.2, fun _ => s.makeMoves_link alarms, ?_⟩
  rw [s.makeMoves_link, s.makeMoves_alarms, State.makeMoves_eq]

/-- A copy that follows the builder's change shows it (R62). -/
theorem State.copyFollows_eq_copyShows (s t : State) (more : Bool) :
    (if more then s.copyFollows t else t) = t.copyShows more (raisedSet s.alarms) := by
  cases more with
  | false => rfl
  | true =>
    by_cases h : raisedSet t.alarms = raisedSet s.alarms
    · simp [State.copyShows, State.copyFollows, StatusCopy.afterRaised, h]
    · cases hb : t.status.builder <;>
        simp [State.copyShows, State.copyFollows, StatusCopy.afterRaised, State.withStatus, BuilderState.restarted, h, hb]

theorem State.alarmStepLate_eq (more : Bool) (s : State) (step : AlarmStep) :
    State.alarmStepLate more s step = (s.makeMoves (step.applied s.alarms)).copyShows more (raisedSet s.alarms) :=
  State.copyFollows_eq_copyShows _ _ _

theorem State.stepsInto_foldl (more : Bool) (steps : List AlarmStep) (s : State) :
    s.stepsInto (steps.foldl (State.alarmStepLate more) s) more steps := by
  induction steps generalizing s with
  | nil => rfl
  | cons step rest ih =>
    refine ⟨s.makeMoves (step.applied s.alarms), ?_, s.makeMoves_movedInto _, ?_⟩
    · rw [State.makeMoves_alarms]
      exact step.applied_turns s.alarms
    · rw [List.foldl_cons, State.alarmStepLate_eq]
      exact ih _

theorem State.alarmStepLate_withRing (more : Bool) (s : State) (r : Ring) (step : AlarmStep) :
    State.alarmStepLate more (s.withRing r) step = (State.alarmStepLate more s step).withRing r := by
  rw [State.alarmStepLate_eq, State.alarmStepLate_eq, State.makeMoves_eq, State.makeMoves_eq]
  cases more <;> rfl

theorem State.alarmStepsLate_withRing (more : Bool) (steps : List AlarmStep) (s : State) (r : Ring) :
    steps.foldl (State.alarmStepLate more) (s.withRing r) = (steps.foldl (State.alarmStepLate more) s).withRing r := by
  induction steps generalizing s with
  | nil => rfl
  | cons step rest ih => rw [List.foldl_cons, List.foldl_cons, State.alarmStepLate_withRing, ih]

theorem State.alarmsGoOn_eq (s : State) (more : Bool) :
    s.alarmsGoOn more =
      (s.alarmsLater.headD []).foldl (State.alarmStepLate more) { s with alarmsLater := s.alarmsLater.tail } := by
  cases h : s.alarmsLater with
  | nil => rw [s.alarmsGoOn_nil more h, List.headD_nil, List.foldl_nil, List.tail_nil, ← h]
  | cons steps later => rw [s.alarmsGoOn_cons more steps later h, List.headD_cons, List.tail_cons]

/-! ## NEXT, the raised set and the alarm entries in the status writer's copy (R137, R141) -/

/-- The copy holds the same NEXT, raised set and alarm entries in both states. -/
def State.sameRingCopy (s t : State) : Prop :=
  t.status.next = s.status.next ∧ t.status.raised = s.status.raised ∧ t.status.alarms = s.status.alarms

theorem State.sameRingCopy.of_status {s t : State} (h : t.status = s.status) : s.sameRingCopy t := by
  rw [State.sameRingCopy, h]
  exact ⟨rfl, rfl, rfl⟩

theorem State.sameRingCopy.trans {s t u : State} (h : s.sameRingCopy t) (g : t.sameRingCopy u) : s.sameRingCopy u :=
  ⟨g.1.trans h.1, g.2.1.trans h.2.1, g.2.2.trans h.2.2⟩

theorem State.sourceStart_sameRingCopy (s : State) (f : SourceFrame) : s.sameRingCopy (s.sourceStart f) := by
  have hframe := s.sourceStart_frame f
  dsimp only at hframe
  rw [hframe]
  exact ⟨rfl, rfl, rfl⟩

theorem State.sourceRun_sameRingCopy (frames : List SourceFrame) (s : State) :
    s.sameRingCopy (State.sourceRun frames s) := by
  induction frames generalizing s with
  | nil => exact .of_status rfl
  | cons f rest ih =>
    have hstart : s.sameRingCopy ((s.withSources { s.sources with frames := rest }).sourceStart f) :=
      State.sourceStart_sameRingCopy (s.withSources { s.sources with frames := rest }) f
    unfold State.sourceRun
    dsimp only
    split
    · split
      · split
        · exact hstart.trans (.of_status (State.frameReady_status _))
        · exact hstart.trans (ih _)
      · exact hstart
    · exact .of_status rfl

theorem State.sourceAdvance_sameRingCopy (s : State) : s.sameRingCopy s.sourceAdvance := by
  unfold State.sourceAdvance
  split
  · exact State.sourceRun_sameRingCopy _ s
  · exact .of_status rfl

/-- The copy holds the ring processor's NEXT, and the raised set and the alarm entries as the inputs stand. -/
def State.copiesRing (s : State) (next : Nat) (alarms : Vector AlarmInput 8) : Prop :=
  s.status.next = next ∧ s.status.raised = raisedSet alarms ∧
    ∀ i : Fin 8, s.status.alarms[i] = ((alarms[i]).state, (alarms[i]).level)

theorem State.statusTakeRing_copiesRing (s : State) : s.statusTakeRing.copiesRing s.ring.next s.alarms := by
  rw [State.copiesRing, State.statusTakeRing, State.withStatus_status]
  exact ⟨rfl, rfl, fun i => mapBank_get s.alarms (fun _ a => (a.state, a.level)) i⟩

theorem State.handItems_copiesRing (s : State) (items : List SourceItem) :
    (s.handItems items).copiesRing s.ring.next s.alarms := by
  obtain ⟨t, ht⟩ : ∃ t, t =
    s.statusTakeRing.withSources { s.sources with frames := handTo items s.sources.frames } := ⟨_, rfl⟩
  have hhands : s.handItems items = t.sourceAdvance := by rw [ht]; rfl
  have hcopy : t.status = s.statusTakeRing.status := by rw [ht, State.withSources_status]
  obtain ⟨hnext, hraised, halarms⟩ := t.sourceAdvance_sameRingCopy
  rw [State.copiesRing, hhands, hnext, hraised, halarms, hcopy]
  exact s.statusTakeRing_copiesRing

/-! ## The source unit's part of a kept wall frame start (R92, R107, R123, R191) -/

@[simp] theorem Source.frame_desc (src : Fin 32) (c : Source) : (c.frame src).desc = c.desc := by
  unfold Source.frame
  split
  · split
    · rw [Source.promote_eq]
      rfl
    · unfold Source.finish
      split
      · show ((c.setRoleOpt _ _).desc) = _
        rw [Source.setRoleOpt_desc]
      · rfl
  · rfl

/-- The start that waits is begun once it is taken, and the page is issued when no header is left to judge. -/
theorem State.handItems_begins_last {s : State} {k : Nat} (hjudge : s.sources.toJudge = [])
    (hframes : s.sources.frames = [⟨false, [], k⟩]) (items : List SourceItem) :
    let v := (s.statusTakeRing.withSources { s.sources with frames := [] }).sourceStart ⟨true, items, k⟩
    s.handItems items = if v.sources.toJudge = [] then v.frameReady else v := by
  have hhands : handTo items s.sources.frames = [⟨true, items, k⟩] := by rw [hframes]; rfl
  have hbegins := State.sourceAdvance_begins (later := [])
    (s := s.statusTakeRing.withSources { s.sources with frames := handTo items s.sources.frames }) hjudge hhands rfl
  dsimp only at hbegins ⊢
  rwa [if_pos rfl] at hbegins

/-- What the source unit and the status writer make of a wall frame start at which nothing commits, taken in `s`. -/
theorem State.handItems_nil_last {s : State} {k : Nat} (hjudge : s.sources.toJudge = [])
    (hframes : s.sources.frames = [⟨false, [], k⟩]) :
    let u := s.handItems []
    u.sources.frames = [] ∧
      (∀ src : Fin 32, src.val < 16 → (s.channel src).desc.enable = true →
        let e := u.status.sources[src]
        (⟨e.capture, e.halved, e.oversizeFlag, e.width, e.height⟩ : InputEntry) = s.status.inputs[captureOf src]) ∧
      (u.sources.toJudge = [] → u.port.queue (.control statusWriter) = pageTransfers s.cfg.statusBase u.status) := by
  obtain ⟨w, hw⟩ : ∃ w, w = s.statusTakeRing.withSources { s.sources with frames := [] } := ⟨_, rfl⟩
  obtain ⟨v, hv⟩ : ∃ v, v = w.sourceStart ⟨true, [], k⟩ := ⟨_, rfl⟩
  have hhands : s.handItems [] = if v.sources.toJudge = [] then v.frameReady else v := by
    rw [hv, hw]
    exact State.handItems_begins_last hjudge hframes []
  have hsources : (s.handItems []).sources = v.sources := by
    rw [hhands]
    split <;> simp
  have hstatus : (s.handItems []).status = v.status := by
    rw [hhands]
    split <;> simp
  dsimp only
  rw [hsources, hstatus]
  refine ⟨?_, fun src hsrc hen => ?_, fun hdone => ?_⟩
  · rw [hv, State.sourceStart_frames, hw]
    rfl
  · have hinput : v.status.inputs[captureOf src] = s.status.inputs[captureOf src] := by
      have hkept := (w.sourceStart_statusInputs ⟨true, [], k⟩ (captureOf src)).2 (by simp [resetsInput])
      rw [hv, hkept, hw]
      rfl
    have hentry := w.sourceStart_entry ⟨true, [], k⟩ src
    have hchannel : (w.channel src).desc = (s.channel src).desc := by rw [hw]; rfl
    dsimp only at hentry
    rw [Source.commit_nil, if_neg (by simp [Source.readsHeader, isCapture, hsrc]), ← hv, hinput] at hentry
    rw [hentry]
    simp [reportedEntry, hsrc, hchannel, hen]
  · rw [hhands, if_pos hdone]
    have hcfg : v.cfg = s.cfg := State.cfg_of_config (by rw [hv, State.sourceStart_config, hw]; rfl)
    rw [← hcfg]
    exact v.frameReady_page

/-! ## Look events that are served (R142) -/

theorem State.serveKept_withRing_kept (evs ks : List LookCause) (s : State) :
    State.serveKept evs (s.withRing { s.ring with kept := ks }) = State.serveKept evs s := by
  cases evs <;> rfl

/-- The oldest kept look event is taken; the others follow when it has not begun a look. -/
theorem State.settleLooks_cons {s : State} {ev : LookCause} {rest : List LookCause} (h : s.ring.kept = ev :: rest) :
    let t := (s.withRing { s.ring with kept := [] }).takeKept ev (rest.any LookCause.isFrame)
    let u := t.withRing { t.ring with kept := rest }
    s.settleLooks = if t.ring.look = .none then u.settleLooks else u := by
  intro t u
  have hrest : u.settleLooks = State.serveKept rest t := State.serveKept_withRing_kept rest rest t
  rw [hrest, State.settleLooks, h]
  rfl

theorem State.lookIn_stays {s : State} (cause : LookCause)
    (h : ¬ (s.ring.state = .idle ∨ s.ring.state = .collecting ∨ s.ring.state = .skipping)) : s.lookIn cause = s := by
  unfold State.lookIn
  split <;> simp_all

end Sys2Proof.Machine
end

section
/-! Settles O59: a wall frame start in the middle of a look, and the kept look events as they are taken (R142). -/

namespace Sys2Proof.Machine

open Sys2Proof

/-! ## Events that read nothing (R142, R152) -/

/-- The processor neither looks nor commits: it returns slots, or awaits the commit of a group with edits. -/
def State.takesNothing (s : State) : Prop :=
  s.ring.state = .writingBack ∨ (s.ring.state = .awaitingCommit ∧ s.ring.edits = true)

/-- The ring and the transfers of the ring processor stand. -/
def State.ringStands (s t : State) : Prop :=
  t.ring = s.ring ∧ t.port.control[ringProcessor] = s.port.control[ringProcessor]

theorem State.ringTakesFrame_stands {s : State} (h : s.takesNothing) (n : Word) : s.ringStands (s.ringTakesFrame n) := by
  have hlook : s.lookIn (.frame n) = s := s.lookIn_stays _ (by rcases h with h | ⟨h, -⟩ <;> simp [h])
  have hawaits : s.awaitsFrame = false := by rcases h with h | ⟨h, he⟩ <;> simp [State.awaitsFrame, *]
  rw [State.ringTakesFrame, hawaits, hlook]
  exact ⟨s.handItems_ring [], s.handItems_controlQueue [] (by decide) (by decide)⟩

theorem State.takeKept_stands {s : State} (h : s.takesNothing) (ev : LookCause) (more : Bool) :
    s.ringStands (s.takeKept ev more) := by
  have hlook (cause : LookCause) : s.lookIn cause = s :=
    s.lookIn_stays _ (by rcases h with h | ⟨h, -⟩ <;> simp [h])
  cases ev with
  | frame n =>
    obtain ⟨hring, hqueue⟩ := State.ringTakesFrame_stands h n
    unfold State.takeKept State.takeLookEvent
    dsimp only
    generalize s.ringTakesFrame n = t at hring hqueue ⊢
    rw [State.ringStands, State.alarmsGoOn_ring, State.alarmsGoOn_port]
    cases more with
    | true =>
      rw [if_pos rfl, State.copyFollows_ring, State.copyFollows_port]
      exact ⟨hring, hqueue⟩
    | false => exact ⟨hring, hqueue⟩
  | attend | atOnce =>
    show s.ringStands (s.lookIn _)
    rw [hlook]
    exact ⟨rfl, rfl⟩

/-- Every kept event is used up. -/
theorem State.serveKept_stands (evs : List LookCause) {s : State} (h : s.takesNothing) (hl : s.ring.look = .none) :
    (s.withRing { s.ring with kept := [] }).ringStands (State.serveKept evs s) := by
  induction evs generalizing s with
  | nil => exact ⟨rfl, rfl⟩
  | cons ev rest ih =>
    have hnothing : (s.withRing { s.ring with kept := [] }).takesNothing := h
    obtain ⟨hring, hqueue⟩ := State.takeKept_stands hnothing ev (rest.any LookCause.isFrame)
    unfold State.serveKept
    dsimp only
    generalize State.takeKept _ ev _ = t at hring hqueue ⊢
    have hlook : t.ring.look = .none := by rw [hring]; exact hl
    have hstill : t.takesNothing := by rw [State.takesNothing, hring]; exact h
    obtain ⟨hrest, hrestQueue⟩ := ih hstill hlook
    rw [if_pos hlook]
    refine ⟨hrest.trans ?_, hrestQueue.trans hqueue⟩
    rw [State.withRing_ring, hring]
    rfl

/-! ## A kept event that reads the ring -/

/-- The first event begins a look, with the others still kept. -/
theorem State.settleLooks_reads {s : State} {ev : LookCause} {rest : List LookCause}
    (hr : s.ring.state = .idle ∨ s.ring.state = .collecting ∨ s.ring.state = .skipping) (h : s.ring.kept = ev :: rest)
    (hne : ∀ n, ev ≠ .frame n) :
    s.settleLooks =
      { s with
        ring := { s.ring with look := .reading ev, kept := rest }
        port := s.port.issue (.control ringProcessor) (readTransfers (s.cfg.ringBase + 64 * s.ring.next) 64 0) } := by
  have htakes (more : Bool) : (s.withRing { s.ring with kept := [] }).takeKept ev more =
      (s.withRing { s.ring with kept := [] }).startLook ev := by
    cases ev with
    | frame n => exact absurd rfl (hne n)
    | attend | atOnce => exact State.lookIn_reads _ hr
  rw [State.settleLooks_cons h]
  dsimp only
  rw [htakes]
  rfl

/-- The state in which the alarm contact unit begins its work after a kept wall frame start that reads the ring: the look
has begun, and the source unit and the status writer have the start. -/
def State.keptFrameTaken (s : State) (ev : LookCause) (rest : List LookCause) : State :=
  ((((s.withRing { s.ring with kept := [] }).startLook ev).handItems []).withAlarmsLater s.alarmsLater.tail).withRing
    { s.ring with look := .reading ev, kept := rest }

theorem State.settleLooks_frame_reads {s : State} {n : Word} {rest : List LookCause}
    (hr : s.ring.state = .idle ∨ s.ring.state = .collecting ∨ s.ring.state = .skipping)
    (h : s.ring.kept = .frame n :: rest) :
    s.settleLooks =
      (s.alarmsLater.headD []).foldl (State.alarmStepLate (rest.any LookCause.isFrame)) (s.keptFrameTaken (.frame n) rest) := by
  obtain ⟨c, hc⟩ : ∃ c, c = s.withRing { s.ring with kept := [] } := ⟨_, rfl⟩
  obtain ⟨x, hx⟩ : ∃ x, x = (c.startLook (.frame n)).handItems [] := ⟨_, rfl⟩
  have hawaits : c.awaitsFrame = false := by
    rw [hc]
    rcases hr with hr | hr | hr <;> simp [State.awaitsFrame, State.withRing, hr]
  have htakes : c.takeLookEvent (.frame n) = x := by
    have hlook : c.lookIn (.frame n) = c.startLook (.frame n) := State.lookIn_reads _ (by rw [hc]; exact hr)
    rw [hx, ← hlook, State.takeLookEvent, State.ringTakesFrame, hawaits]
    rfl
  have halarms : x.alarms = c.alarms := by simp [hx]
  have hlater : x.alarmsLater = s.alarmsLater := by simp [hx, hc]
  have hring : x.ring = { s.ring with look := .reading (.frame n), kept := [] } := by
    rw [hx, State.handItems_ring, hc]
    rfl
  have hkept (more : Bool) : c.takeKept (.frame n) more =
      (s.alarmsLater.headD []).foldl (State.alarmStepLate more) (x.withAlarmsLater s.alarmsLater.tail) := by
    unfold State.takeKept
    dsimp only
    rw [htakes, State.copyFollows_of_same _ _ (by rw [halarms]), ite_self, State.alarmsGoOn_eq, hlater]
    rfl
  rw [State.settleLooks_cons h]
  dsimp only
  rw [← hc, hkept, ← State.alarmStepsLate_withRing]
  simp only [State.alarmStepsLate_ring, State.withAlarmsLater_ring, hring]
  rw [if_neg (by simp), State.keptFrameTaken, ← hc, ← hx]

/-- An ATTEND while the processor looks at nothing reads nothing, and the other events follow. -/
theorem State.settleLooks_passes {s : State} {ev : LookCause} {rest : List LookCause}
    (hr : ¬ (s.ring.state = .idle ∨ s.ring.state = .collecting ∨ s.ring.state = .skipping)) (hl : s.ring.look = .none)
    (h : s.ring.kept = ev :: rest) (hne : ∀ n, ev ≠ .frame n) :
    s.settleLooks = ({ s with ring := { s.ring with kept := rest } }).settleLooks := by
  have htakes (more : Bool) : (s.withRing { s.ring with kept := [] }).takeKept ev more =
      s.withRing { s.ring with kept := [] } := by
    cases ev with
    | frame n => exact absurd rfl (hne n)
    | attend | atOnce => exact State.lookIn_stays _ hr
  rw [State.settleLooks_cons h]
  dsimp only
  rw [htakes]
  exact if_pos hl

/-- What a kept wall frame start that reads the ring leaves to the alarm contact unit's work after it. -/
theorem State.keptFrameTaken_spec (s : State) (n : Word) (rest : List LookCause) :
    let u := s.keptFrameTaken (.frame n) rest
    u.port.control[ringProcessor] =
        s.port.control[ringProcessor] ++ readTransfers (s.cfg.ringBase + 64 * s.ring.next) 64 0 ∧
      (u.alarms = s.alarms ∧ u.builder = s.builder) ∧ u.copiesRing s.ring.next s.alarms ∧
      (s.sources.toJudge = [] → ∀ k, s.sources.frames = [⟨false, [], k⟩] →
        u.sources.frames = [] ∧
          (∀ src : Fin 32, src.val < 16 → (s.channel src).desc.enable = true →
            let e := u.status.sources[src]
            (⟨e.capture, e.halved, e.oversizeFlag, e.width, e.height⟩ : InputEntry) = s.status.inputs[captureOf src]) ∧
          (u.sources.toJudge = [] →
            u.port.queue (.control statusWriter) = pageTransfers s.cfg.statusBase u.status)) := by
  obtain ⟨c, hc⟩ : ∃ c, c = (s.withRing { s.ring with kept := [] }).startLook (.frame n) := ⟨_, rfl⟩
  have hcfg : c.cfg = s.cfg := State.cfg_of_config (by rw [hc]; rfl)
  have hport : c.port = s.port.issue (.control ringProcessor) (readTransfers (s.cfg.ringBase + 64 * s.ring.next) 64 0) := by
    rw [hc]; rfl
  have hsources : c.sources = s.sources := by rw [hc]; rfl
  have hstatus : c.status = s.status := by rw [hc]; rfl
  have hring : c.ring.next = s.ring.next := by rw [hc]; rfl
  have halarms : c.alarms = s.alarms := by rw [hc]; rfl
  have hbuilder : c.builder = s.builder := by rw [hc]; rfl
  have hcopies := c.handItems_copiesRing []
  rw [hring, halarms] at hcopies
  have hlast (k : Nat) := State.handItems_nil_last (s := c) (k := k)
  simp only [State.channel, hsources, hstatus, hcfg] at hlast
  unfold State.keptFrameTaken
  dsimp only
  rw [← hc]
  refine ⟨?_, ⟨?_, ?_⟩, hcopies, fun hjudge k hframes => hlast k hjudge hframes⟩
  · refine (State.handItems_controlQueue c [] (by decide) (by decide)).trans ?_
    rw [hport]
    exact Port.issue_queue s.port (.control ringProcessor) _
  · exact (c.handItems_alarms []).trans halarms
  · exact (c.handItems_builder []).trans hbuilder

/-! ## A kept wall frame start that commits a group without edits (R129, R152) -/

/-- The group commits as the start is taken, the alarm contact unit makes what came after it, and the other events follow. -/
theorem State.settleLooks_commits {s : State} {n : Word} {rest : List LookCause} (hl : s.ring.look = .none)
    (h : s.ring.kept = .frame n :: rest) (hs : s.ring.state = .awaitingCommit) (he : s.ring.edits = false) :
    let more := rest.any LookCause.isFrame
    ∃ u v : State, ({ s with ring := { s.ring with kept := [] } }).groupCommitted u n s.live ∧
      u.copiesRing u.ring.next u.alarms ∧
      (({ u with alarmsLater := s.alarmsLater.tail }).copyShows more (raisedSet s.alarms)).stepsInto v more
        (s.alarmsLater.headD []) ∧
      s.settleLooks = ({ v with ring := { v.ring with kept := rest } }).settleLooks := by
  intro more
  obtain ⟨c, hc⟩ : ∃ c, c = s.withRing { s.ring with kept := [] } := ⟨_, rfl⟩
  obtain ⟨u, hu⟩ : ∃ u, u = c.commitGroup n := ⟨_, rfl⟩
  obtain ⟨w, hw⟩ : ∃ w, w = ({ u with alarmsLater := s.alarmsLater.tail }).copyShows more (raisedSet s.alarms) := ⟨_, rfl⟩
  have hcommitted : c.groupCommitted u n c.live := by
    have hwith : u = c.clearWork.1.commitWith n c.clearWork.2 := hu
    rw [hwith, ← c.clearWork_live]
    exact State.commitWith_groupCommitted c.clearWork_ring c.clearWork_config c.clearWork_alarms
      (by rw [State.clearWork_port]) State.clearWork_sets n
  have hawaits : c.awaitsFrame = true := c.awaitsFrame_eq.mpr (by rw [hc]; exact ⟨hs, he⟩)
  have hlater : u.alarmsLater = s.alarmsLater := by rw [hu, State.commitGroup_alarmsLater, hc]; rfl
  have hcopies : u.copiesRing u.ring.next u.alarms := by
    rw [hu, State.commitGroup, State.commitWith, State.handItems_ring, State.handItems_alarms]
    exact State.handItems_copiesRing _ _
  have hkept : c.takeKept (.frame n) more = (s.alarmsLater.headD []).foldl (State.alarmStepLate more) w := by
    have htakes : c.takeLookEvent (.frame n) = u := by
      rw [State.takeLookEvent, State.ringTakesFrame, if_pos hawaits, hu]
    have hshown : (u.copyShows more (raisedSet c.alarms)).alarmsLater = s.alarmsLater := by
      rw [← hlater]
      cases more <;> rfl
    unfold State.takeKept
    dsimp only
    rw [htakes, State.copyFollows_eq_copyShows, State.alarmsGoOn_eq, hshown, hw, hc]
    cases more <;> rfl
  have hlook : (c.takeKept (.frame n) more).ring.look = .none := by
    obtain ⟨-, hring, -⟩ := hcommitted
    have hwring : w.ring = u.ring := by rw [hw]; cases more <;> rfl
    rw [hkept, State.alarmStepsLate_ring, hwring, hring, hc]
    exact hl
  refine ⟨u, c.takeKept (.frame n) more, ?_, hcopies, ?_, ?_⟩
  · rw [hc] at hcommitted
    exact hcommitted
  · rw [hkept, ← hw]
    exact State.stepsInto_foldl more _ w
  · rw [State.settleLooks_cons h]
    dsimp only
    rw [← hc, if_pos hlook]
    rfl

/-- Settles O59: a start in the middle of a look is kept, a look that finds nothing and a group that is complete have the
kept events taken, and each of them reads the ring, commits the group in hand or leaves the ring alone. -/
theorem keptLookEventsAreServed : Obligations.KeptLookEventsAreServed := by
  refine ⟨?_, ?_, fun s slot => exec_nop_completes, ?_⟩
  · intro order s hi hr hl hb hedits
    have hf : ¬ (order.setFirst = true ∧ s.awaitsFrame = true) := fun ⟨hfirst, ha⟩ => by
      obtain ⟨hs, he⟩ := s.awaitsFrame_eq.mp ha
      simp [hedits hfirst hs] at he
    exact ⟨_, exec_wallFrameStart_alone hi hr, State.frameAlone_keepsFrame hl hb hf order.lastTile⟩
  · intro s cause slot hr hs hlook hpost counts htimes
    rw [exec_slotNotPosted_found hr hs hlook hpost, if_neg htimes]
  · intro s ev rest hl h reads t steps later more
    refine ⟨fun hr => ?_, fun hr hne => ?_, fun hquiet => ?_, ?_⟩
    · by_cases hframe : ∃ n, ev = .frame n
      · obtain ⟨n, rfl⟩ := hframe
        obtain ⟨hqueue, ⟨halarms, hbuilder⟩, hcopies, hlast⟩ := s.keptFrameTaken_spec n rest
        have ht : t = steps.foldl (State.alarmStepLate more) (s.keptFrameTaken (.frame n) rest) :=
          State.settleLooks_frame_reads hr h
        refine ⟨?_, ?_, fun hne => absurd rfl (hne n), fun _ => ⟨s.keptFrameTaken (.frame n) rest, halarms, hbuilder, rfl,
          ?_, hcopies, hlast⟩⟩
        · rw [ht, State.alarmStepsLate_ring]
          rfl
        · rw [ht, State.alarmStepsLate_port]
          exact hqueue
        · rw [ht]
          exact State.stepsInto_foldl more steps _
      · have ht : t = _ := State.settleLooks_reads hr h fun n hn => hframe ⟨n, hn⟩
        refine ⟨?_, ?_, fun _ => ?_, fun hsome => absurd hsome hframe⟩
        · rw [ht]
        · rw [ht]
          exact Port.issue_queue s.port (.control ringProcessor) _
        · rw [ht]
    · exact State.settleLooks_passes hr hl h hne
    · exact State.serveKept_stands s.ring.kept hquiet hl
    · rintro n rfl hs he
      obtain ⟨u, v, hcommitted, ⟨-, hraised, halarms⟩, hsteps, hrest⟩ := State.settleLooks_commits hl h hs he
      exact ⟨u, v, hcommitted, ⟨hraised, halarms⟩, hsteps, hrest⟩

end Sys2Proof.Machine
end

section
-- One declaration after another: checked side by side, the text needs more threads than the check's memory limit allows.
set_option Elab.async false
/-! The resets: the power-on reset state meets the invariants (O9), what the two resets leave (O24), and the PCIe link reset
(O25). -/

namespace Sys2Proof.Machine

open Sys2Proof

/-! ## The state after a power-on reset (R188) -/

@[simp] theorem State.reset_channel (src : Fin 32) : State.reset.channel src = Source.unloaded :=
  Vector.getElem_replicate _

@[simp] theorem State.reset_queue (r : Requester) : State.reset.port.queue r = [] := by
  cases r <;> exact Vector.getElem_replicate _

/-- A source without an enabled descriptor holds no roles (R87). -/
theorem Source.unloaded_rolesLegal (src : Fin 32) : Source.unloaded.rolesLegal src := by
  intro i
  exact Vector.getElem_replicate _

/-- Settles O9: each unit of the reset state holds nothing that its invariant could be about. -/
theorem resetMeetsInvariants : Obligations.ResetMeetsInvariants := by
  refine ⟨Memory.reset_wf, fun src => ?_, ⟨Table.empty_wellFormed, Table.empty_wellFormed⟩, ⟨Nat.zero_le _, nofun⟩,
    alarmsAgree_replicate, (State.quietOutsideRunning_iff _).mpr fun _ => State.reset_unitsQuiet rfl rfl, nofun, trivial⟩
  rw [State.reset_channel]
  exact Source.unloaded_rolesLegal src

/-! ## A write cut short (R19) -/

/-- Of the bytes of a write those stand whose bit of the mask is set. -/
theorem maskBytes_getElem? (bs : List (Option Byte)) (mask k : Nat) :
    (maskBytes mask bs)[k]? = (bs[k]?).map fun b => if mask.testBit k then b else none := by
  induction bs generalizing mask k with
  | nil => rfl
  | cons b bs ih =>
    cases k with
    | zero => simp [maskBytes, Nat.testBit_zero]
    | succ k => simp [maskBytes, ih, Nat.testBit_succ]

/-- Frame memory after a write of which the bytes named by a mask have been written. -/
theorem writeEnabled_maskBytes_read {m : Memory} (h : m.wf = true) (addr mask a : Nat) (bs : List (Option Byte)) :
    (m.writeEnabled addr (maskBytes mask bs)).read a =
      match bs[a - addr]? with
      | some (some b) => if addr ≤ a ∧ a < 4294967296 ∧ mask.testBit (a - addr) = true then b else m.read a
      | _ => m.read a := by
  rw [Memory.writeEnabled_read_any h, Memory.broughtTo, maskBytes_getElem?]
  by_cases hin : addr ≤ a ∧ a < 4294967296
  · by_cases hbit : mask.testBit (a - addr) = true <;> rcases bs[a - addr]? with _ | _ | b <;> simp [hin, hbit]
  · have hout (p : Prop) : ¬ (addr ≤ a ∧ a < 4294967296 ∧ p) := fun g => hin ⟨g.1, g.2.1⟩
    rcases bs[a - addr]? with _ | _ | b <;> simp [hin, hout]

theorem State.cutMemory_idle {s : State} (h : ∀ r, s.port.queue r = []) (mask : Nat) : s.cutMemory mask = s.mem := by
  rw [State.cutMemory, Port.choose_none h]

theorem State.cutMemory_next {s : State} {r : Requester} {x : Transfer} {rest : List Transfer} (hn : s.port.next r)
    (hq : s.port.queue r = x :: rest) (mask : Nat) :
    s.cutMemory mask = s.mem.writeEnabled x.addr (maskBytes mask x.stores) := by
  simp only [State.cutMemory, Port.choose_of_next hn, hq]

/-! ## The two resets (R188) -/

/-- The state after either reset: that after a power-on reset, but for frame memory, the reset reasons and the queue. -/
def State.resetWith (mem : Memory) (reasons : BitVec 3) (pending : List Instr) : State :=
  { State.reset with mem := mem, link := { State.reset.link with resetReason := reasons }, pending := pending }

theorem exec_powerOnReset (dram : List Host.Cell) (s : State) :
    exec (.powerOnReset dram) s = .next (.resetWith (Memory.ofCells dram) 1 s.pending) := rfl

theorem exec_resetPin (cut : Option Nat) (s : State) :
    exec (.resetPin cut) s =
      .next (.resetWith (match cut with | some mask => s.cutMemory mask | none => s.mem) (s.link.resetReason ||| 2) s.pending) :=
  rfl

/-- Every block after either reset, in the terms of O24. -/
theorem State.resetWith_blocks (mem : Memory) (reasons : BitVec 3) (pending : List Instr) :
    let t := State.resetWith mem reasons pending
    (t.config = none ∧ t.frameNo = 0 ∧ t.live = Table.empty ∧ t.builder = ⟨.idle, none, none, 0, 0⟩ ∧ t.view = none) ∧
      ((∀ src, t.channel src = Source.unloaded) ∧ t.sources.frames = [] ∧ t.sources.toJudge = [] ∧ t.sources.headers = [] ∧
        t.sources.owed = 0) ∧
      ((∀ i : Fin 16, t.inputs[i] = CaptureInput.initial) ∧ (∀ i : Fin 8, t.alarms[i] = AlarmInput.unloaded) ∧
        t.alarmsLater = [] ∧ (∀ k : Fin 16, t.engines[k] = TileEngine.stopped 0) ∧ t.ring = Ring.atRest 0 ∧
        t.status = StatusCopy.blank) ∧
      t.port.tilePtr = 15 ∧ t.port.capturePtr = 15 ∧ t.port.controlPtr = loadSequence ∧ ∀ r : Requester, t.port.queue r = [] :=
  ⟨⟨rfl, rfl, rfl, rfl, rfl⟩, ⟨State.reset_channel, rfl, rfl, rfl, rfl⟩,
    ⟨fun _ => Vector.getElem_replicate _, fun _ => Vector.getElem_replicate _, rfl,
      fun _ => Vector.getElem_replicate _, rfl, rfl⟩,
    rfl, rfl, rfl, State.reset_queue⟩

/-- Settles O24: both resets leave `State.resetWith`, and the pin's frame memory is that of `State.cutMemory`. -/
theorem resetsStopAndUnloadEverything : Obligations.ResetsStopAndUnloadEverything := by
  rintro s c dram cut (rfl | rfl)
  · obtain ⟨hloaded, hsources, hunits, hport⟩ := State.resetWith_blocks (Memory.ofCells dram) 1 s.pending
    refine ⟨_, exec_powerOnReset dram s, ⟨rfl, rfl, rfl, rfl, ?_⟩, hloaded, hsources, hunits, hport, nofun⟩
    exact (if_pos rfl).symm
  · obtain ⟨hloaded, hsources, hunits, hport⟩ := State.resetWith_blocks
      (match cut with | some mask => s.cutMemory mask | none => s.mem) (s.link.resetReason ||| 2) s.pending
    refine ⟨_, exec_resetPin cut s, ⟨rfl, rfl, rfl, rfl, (if_neg nofun).symm⟩, hloaded, hsources, hunits, hport,
      fun _ hwf => ⟨?_, ?_⟩⟩
    · rintro (rfl | hidle)
      · rfl
      · cases cut with
        | none => rfl
        | some mask => exact s.cutMemory_idle hidle mask
    · rintro mask r x rest rfl hn hq a
      show (s.cutMemory mask).read a = _
      rw [State.cutMemory_next hn hq]
      exact writeEnabled_maskBytes_read hwf x.addr mask a x.stores

/-! ## The PCIe link reset (R189) -/

/-- Settles O25: only the link registers and the endpoint's own transfers are named by the reset. -/
theorem linkResetKeepsTheRest : Obligations.LinkResetKeepsTheRest := by
  intro lost s
  refine ⟨_, rfl, ⟨rfl, rfl, rfl⟩, ?_, fun r hr => ?_, ⟨rfl, rfl, rfl⟩, rfl⟩
  · exact s.port.setQueue_queue (.control pcieEndpoint) []
  · exact s.port.setQueue_queue_of_ne _ hr

end Sys2Proof.Machine
end

section
-- One declaration after another: checked side by side, the text needs more threads than the check's memory limit allows.
set_option Elab.async false
/-! LOAD, START, STOP and ATTEND as the part state allows them: refused (O27), taken (O26, O28), and the look that an ATTEND
write is (O31). -/

namespace Sys2Proof.Machine

open Sys2Proof

/-! ## Writes that the part state refuses (R179, R185) -/

theorem State.refuse_eq (s : State) : s.refuse = { s with link := s.link.withCausesSet 0x80 } := s.raise_eq causeRefused

theorem State.canLoad_iff (s : State) : s.canLoad = true ↔ s.control.part = .halted ∨ s.control.part = .ready := by
  simp [State.canLoad]

/-- Settles O27: each of the four writes takes its refusing branch. -/
theorem refusedWritesOnlySetRefused : Obligations.RefusedWritesOnlySetRefused := by
  rintro s c (⟨⟨held, rfl⟩, hp⟩ | ⟨rfl, hp⟩ | ⟨⟨w, rfl⟩, hp⟩ | ⟨⟨w, rfl⟩, hp⟩)
  · have hl : ¬ s.canLoad = true := by
      rw [State.canLoad_iff]
      rcases hp with hp | hp <;> simp [hp]
    rw [exec_load, if_neg hl, State.refuse_eq]
  · rw [exec_start, if_neg hp, State.refuse_eq]
  · show Host.Outcome.next (s.writeAreaBase w) = _
    rw [State.writeAreaBase, if_neg hp, State.refuse_eq]
  · show Host.Outcome.next s.writeAttend = _
    rw [State.writeAttend, if_neg (by simpa [State.running] using hp), State.refuse_eq]

/-! ## What LOAD taken and STOP leave (R180, R184) -/

/-- The part unloaded, with the alarm inputs and the control state given and the reads that the load sequence waits for. -/
def State.unloadedWith (s : State) (alarms : Vector AlarmInput 8) (control : Control) (reads : List Transfer) : State :=
  (({ s.unload with alarms := alarms }).withControl control).setQueue (.control loadSequence) reads

/-- All requesters' transfers but the PCIe endpoint's are withdrawn (R19). -/
theorem Port.withdrawWork_control (p : Port) {k : Fin 5} (h : k ≠ pcieEndpoint) : p.withdrawWork.control[k] = [] := by
  rw [Port.withdrawWork, vset_get_of_ne _ _ h]
  exact Vector.getElem_replicate _

theorem State.unload_loadQueue (s : State) : s.unload.port.queue (.control loadSequence) = [] :=
  s.port.withdrawWork_control (by decide)

/-- A LOAD taken leaves the first read at the port: 256 bytes from AREA_BASE on (notes/assumptions/29.md). -/
theorem State.takeLoad_eq (s : State) (start : Bool) :
    s.takeLoad start =
      s.unloadedWith (Vector.replicate 8 AlarmInput.unloaded) ⟨.loading, 0, 0, start, []⟩
        [⟨s.link.areaBase.toNat, .read 256, 0⟩] := by
  have hissue (t : State) (h : t.port.queue (.control loadSequence) = []) (xs : List Transfer) :
      t.issue (.control loadSequence) xs = t.setQueue (.control loadSequence) xs := by
    rw [State.issue, Port.issue, h]
    rfl
  exact hissue (({ s.unload with alarms := Vector.replicate 8 AlarmInput.unloaded }).withControl _) s.unload_loadQueue _

theorem exec_stop (load start : Bool) (s : State) :
    exec (.stop load start) s =
      .next (s.unloadedWith (mapBank s.alarmsAhead fun _ a => a.stopped)
        ⟨.halted, s.control.faultCode, s.control.faultIndex, false, []⟩ []) := by
  have hnone (t : State) (h : t.port.queue (.control loadSequence) = []) : t.setQueue (.control loadSequence) [] = t := by
    rw [State.setQueue, ← h, Port.setQueue_self]
    rfl
  exact congrArg Host.Outcome.next
    (hnone (({ s.unload with alarms := mapBank s.alarmsAhead fun _ a => a.stopped }).withControl _) s.unload_loadQueue).symm

/-- A source unloaded keeps its six counters (R106). -/
theorem Source.unload_eq (c : Source) :
    c.unload =
      { Source.unloaded with
        published := c.published, superseded := c.superseded, torn := c.torn, oversize := c.oversize,
        badFrame := c.badFrame, expired := c.expired } := rfl

theorem State.unload_channel (s : State) (src : Fin 32) : s.unload.channel src = (s.channel src).unload :=
  mapBank_get s.sources.channels (fun _ c => c.unload) src

theorem State.unloadedWith_control (s : State) (alarms : Vector AlarmInput 8) (control : Control) (reads : List Transfer) :
    (s.unloadedWith alarms control reads).port.control = vset s.unload.port.control loadSequence reads := rfl

theorem State.unloadedWith_unloadedInto (s : State) (alarms : Vector AlarmInput 8) (control : Control)
    (reads : List Transfer) : s.unloadedInto (s.unloadedWith alarms control reads) := by
  refine ⟨⟨rfl, rfl, rfl, rfl⟩, rfl, ⟨fun src => ?_, rfl, rfl, rfl, rfl⟩, ⟨fun c => ?_, rfl⟩, fun k => ?_,
    ⟨fun k => ?_, fun c => ?_, ?_, fun r hp hl => ?_, rfl, rfl, rfl⟩, rfl, rfl, rfl, rfl, rfl⟩
  · exact (s.unload_channel src).trans (Source.unload_eq (s.channel src))
  · exact Vector.getElem_replicate _
  · exact mapBank_get s.engines (fun _ e => TileEngine.stopped e.late) k
  · exact Vector.getElem_replicate _
  · exact Vector.getElem_replicate _
  · rw [State.unloadedWith_control, vset_get_of_ne _ _ (by decide)]
    exact vset_get _ _ _
  · rw [State.unloadedWith_control, vset_get_of_ne _ _ hl]
    exact s.port.withdrawWork_control hp

/-- Settles O26: a LOAD taken is the unloaded part with its first read at the port. -/
theorem loadTakenUnloadsAndReads : Obligations.LoadTakenUnloadsAndReads := by
  intro held s hp
  refine ⟨_, exec_load held s, ?_⟩
  rw [if_pos (s.canLoad_iff.mpr hp), State.takeLoad_eq]
  exact ⟨rfl, s.unloadedWith_unloadedInto _ _ _, fun i => Vector.getElem_replicate _, vset_get _ _ _⟩

/-! ## START (R179, R183) -/

theorem State.takeStart_eq (s : State) :
    s.takeStart =
      { s with
        control := { s.control with part := .running, heldStart := false }
        inputs := Vector.replicate 16 CaptureInput.initial } := rfl

/-- Settles O28: START and a held START take the one branch, and STOP unloads after the work that the alarm contact unit has
still to take. -/
theorem startAndStop : Obligations.StartAndStop := by
  refine ⟨?_, fun load start s => ⟨s.alarmsAhead, _, alarmsTurn_applied _ _, exec_stop load start s, rfl, rfl,
    s.unloadedWith_unloadedInto _ _ _, fun i => ?_, vset_get _ _ _⟩⟩
  · rintro s c hp (rfl | ⟨rfl, hheld⟩)
    · rw [exec_start, if_pos hp, State.takeStart_eq]
    · rw [exec_heldStart, if_pos ⟨hp, hheld⟩, State.takeStart_eq]
  · exact mapBank_get s.alarmsAhead (fun _ a => a.stopped) i

/-! ## ATTEND (R142, R185) -/

theorem exec_attend {s : State} (hr : s.control.part = .running) (w : RegWrite) :
    exec (.attend w) s = .next (s.lookEvent .attend) := by
  show Host.Outcome.next s.writeAttend = _
  rw [State.writeAttend, if_pos (by simp [State.running, hr])]

/-- Settles O31, by the state of the look and of the ring processor. -/
theorem attendIsALookEvent : Obligations.AttendIsALookEvent := by
  intro w s hr
  refine ⟨fun hl ha hw => ?_, fun hl hs => ?_, fun hl => ?_⟩ <;> rw [exec_attend hr, State.lookEvent]
  · have hreads : s.ring.state = .idle ∨ s.ring.state = .collecting ∨ s.ring.state = .skipping := by
      cases h : s.ring.state <;> simp_all
    rw [if_pos hl, State.takeLookEvent, State.lookIn_reads .attend hreads]
    rfl
  · have hreads : ¬ (s.ring.state = .idle ∨ s.ring.state = .collecting ∨ s.ring.state = .skipping) := by
      rcases hs with h | h <;> simp [h]
    rw [if_pos hl, State.takeLookEvent, State.lookIn_stays .attend hreads]
  · rw [if_neg hl]
    simp only [List.contains_iff_mem, true_and]
    split <;> rfl

end Sys2Proof.Machine
end

section
-- One declaration after another: checked side by side, the text needs more threads than the check's memory limit allows.
set_option Elab.async false
/-! The link registers: what a read returns, which command a write is, and what the plain writes do (O30). -/

namespace Sys2Proof.Machine

open Sys2Proof

/-! ## The bits a write brings (R177) -/

theorem byteMask_getLsbD (bytes : BitVec 4) (i : Fin 32) :
    (byteMask bytes).getLsbD i.val = bytes.getLsbD (i.val / 8) := by
  revert bytes i
  decide

/-- A bit of a byte that is not written is taken as 0. -/
theorem regValue_getLsbD (w : RegWrite) {i : Nat} (hi : i < 32) :
    (regValue w).getLsbD i = (w.data.getLsbD i && w.bytes.getLsbD (i / 8)) := by
  rw [regValue, BitVec.getLsbD_and, byteMask_getLsbD w.bytes ⟨i, hi⟩]

/-- The lowest byte of a write is that of the data, or 0 when it is not written. -/
theorem regValue_low (w : RegWrite) :
    (regValue w).setWidth 8 = if w.bytes.getLsbD 0 then w.data.setWidth 8 else 0 := by
  refine BitVec.eq_of_getLsbD_eq fun i hi => ?_
  rw [BitVec.getLsbD_setWidth, regValue_getLsbD w (by omega), show i / 8 = 0 by omega]
  split <;> simp_all

/-- A mask of the `k` lowest bits keeps nothing exactly when all of them are 0. -/
theorem and_lowMask_eq_zero {k : Nat} (hk : k ≤ 32) (v : Word) :
    v &&& BitVec.ofNat 32 (2 ^ k - 1) = 0 ↔ ∀ i, i < k → v.getLsbD i = false := by
  have hmask (i : Nat) (hi : i < 32) : (BitVec.ofNat 32 (2 ^ k - 1)).getLsbD i = decide (i < k) := by
    rw [BitVec.getLsbD_ofNat, Nat.testBit_two_pow_sub_one]
    simp [hi]
  constructor
  · intro h i hi
    have hbit := congrArg (fun x : Word => x.getLsbD i) h
    simpa [hmask i (by omega), hi] using hbit
  · intro h
    refine BitVec.eq_of_getLsbD_eq fun i hi => ?_
    rw [BitVec.getLsbD_and, hmask i hi]
    by_cases hk : i < k <;> simp [hk, h]

theorem regValue_and_low_byte (w : RegWrite) :
    regValue w &&& 0xFF = 0 ↔ (if w.bytes.getLsbD 0 then w.data.setWidth 8 else 0 : BitVec 8) = 0 := by
  rw [← regValue_low]
  refine (and_lowMask_eq_zero (k := 8) (by decide) (regValue w)).trans ⟨fun h => ?_, fun h i hi => ?_⟩
  · exact BitVec.eq_of_getLsbD_eq fun i hi => by simp [h i hi]
  · have hbit := congrArg (fun x : BitVec 8 => x.getLsbD i) h
    simpa [hi] using hbit

theorem regValue_and_low_three (w : RegWrite) :
    regValue w &&& 0x7 = 0 ↔ ¬ ((w.data.getLsbD 0 && w.bytes.getLsbD 0) = true ∨
      (w.data.getLsbD 1 && w.bytes.getLsbD 0) = true ∨ (w.data.getLsbD 2 && w.bytes.getLsbD 0) = true) := by
  have hbit (i : Nat) (hi : i < 3) : (regValue w).getLsbD i = (w.data.getLsbD i && w.bytes.getLsbD 0) := by
    rw [regValue_getLsbD w (by omega), show i / 8 = 0 by omega]
  refine (and_lowMask_eq_zero (k := 3) (by decide) (regValue w)).trans ?_
  simp only [← hbit 0 (by decide), ← hbit 1 (by decide), ← hbit 2 (by decide), not_or, Bool.not_eq_true]
  exact ⟨fun h => ⟨h 0 (by decide), h 1 (by decide), h 2 (by decide)⟩,
    fun ⟨h0, h1, h2⟩ i hi => by interval_cases i <;> assumption⟩

/-! ## The plain writes (R185 to R187, R190) -/

theorem exec_causeClear (w : RegWrite) (s : State) :
    exec (.causeClear w) s =
      .next { s with
        link := s.link.withCauses
          (s.link.cause &&& ~~~(if w.bytes.getLsbD 0 then w.data.setWidth 8 else 0)) s.link.causeEnable } := by
  show Host.Outcome.next (s.writeCause w) = _
  rw [State.writeCause, Link.setCauses_eq, regValue_low]
  rfl

theorem exec_causeEnableWrite (w : RegWrite) (s : State) :
    exec (.causeEnableWrite w) s =
      .next { s with
        link := s.link.withCauses s.link.cause (if w.bytes.getLsbD 0 then w.data.setWidth 8 else 0) } := by
  show Host.Outcome.next (s.writeCauseEnable w) = _
  rw [State.writeCauseEnable, Link.setCauses_eq, regValue_low]
  rfl

/-- AREA_BASE holds bits 31:12 alone. -/
theorem areaBaseMask_getLsbD (i : Fin 32) : (0xFFFFF000 : Word).getLsbD i.val = decide (12 ≤ i.val) := by
  revert i
  decide

theorem exec_areaBaseWrite {s : State} (h : s.control.part = .halted) (w : RegWrite) :
    exec (.areaBaseWrite w) s = .next { s with link := { s.link with areaBase := regValue w &&& 0xFFFFF000 } } := by
  show Host.Outcome.next (s.writeAreaBase w) = _
  rw [State.writeAreaBase, if_pos h]
  rfl

theorem exec_resetReasonClear (w : RegWrite) (s : State) :
    exec (.resetReasonClear w) s =
      .next { s with
        link := { s.link with resetReason := s.link.resetReason &&& ~~~((regValue w).setWidth 3) } } := rfl

theorem resetReason_cleared_getLsbD (r : BitVec 3) (w : RegWrite) {i : Nat} (hi : i < 3) :
    (r &&& ~~~((regValue w).setWidth 3)).getLsbD i =
      (r.getLsbD i && !(w.data.getLsbD i && w.bytes.getLsbD (i / 8))) := by
  rw [BitVec.getLsbD_and, BitVec.getLsbD_not, BitVec.getLsbD_setWidth, regValue_getLsbD w (by omega)]
  simp [hi]

/-! ## Reads (R177, R178) -/

/-- The bytes of CONTROL: the part state, the fault code and the fault index. -/
theorem State.controlValue_bytes (s : State) :
    s.controlValue.extractLsb' 0 8 =
        (match s.control.part with | .halted => 0 | .loading => 1 | .ready => 2 | .running => 3) ∧
      s.controlValue.extractLsb' 8 8 = s.control.faultCode ∧ s.controlValue.extractLsb' 16 8 = s.control.faultIndex ∧
      s.controlValue.extractLsb' 24 8 = 0 := by
  have hcode := s.control.faultCode.isLt
  have hindex := s.control.faultIndex.isLt
  have hpart : partCode s.control.part < 4 := by cases s.control.part <;> decide
  have hvalue : s.controlValue.toNat =
      partCode s.control.part + 256 * s.control.faultCode.toNat + 65536 * s.control.faultIndex.toNat := by
    rw [State.controlValue, BitVec.toNat_ofNat]
    omega
  have hbyte (k : Nat) : (s.controlValue.extractLsb' k 8).toNat = s.controlValue.toNat / 2 ^ k % 256 := by
    rw [BitVec.extractLsb'_toNat, Nat.shiftRight_eq_div_pow]
  refine ⟨?_, ?_, ?_, ?_⟩ <;> apply BitVec.eq_of_toNat_eq <;> rw [hbyte, hvalue]
  · have hmod : (partCode s.control.part + 256 * s.control.faultCode.toNat + 65536 * s.control.faultIndex.toNat) / 2 ^ 0 %
        256 = partCode s.control.part := by omega
    rw [hmod]
    cases s.control.part <;> rfl
  · omega
  · omega
  · simp only [BitVec.toNat_zero, BitVec.ofNat_eq_ofNat]
    omega

/-- A read within one register is of that register's contents, from the byte addressed on. -/
theorem State.readRegisterBytes_within (s : State) (offset : BitVec 12) {n : Nat} (h : offset.toNat % 4 + n ≤ 4) :
    s.readRegisterBytes offset n =
      (List.range n).map fun k => (s.readRegister offset).extractLsb' (8 * (offset.toNat % 4 + k)) 8 := by
  refine List.map_congr_left fun k hk => ?_
  have hkn := List.mem_range.mp hk
  have hlt := offset.isLt
  have hsum : (offset + BitVec.ofNat 12 k).toNat = offset.toNat + k := by
    rw [BitVec.toNat_add, BitVec.toNat_ofNat]
    omega
  have hword : s.readRegister (offset + BitVec.ofNat 12 k) = s.readRegister offset := by
    rw [State.readRegister, hsum, show (offset.toNat + k) / 4 = offset.toNat / 4 by omega]
    rfl
  rw [State.registerByte, hword, hsum, show (offset.toNat + k) % 4 = offset.toNat % 4 + k by omega]

/-- Offsets within one register read the same contents. -/
theorem State.readRegister_congr (s : State) {a b : BitVec 12} (h : a.toNat / 4 = b.toNat / 4) :
    s.readRegister a = s.readRegister b := by
  rw [State.readRegister, h]
  rfl

theorem State.readRegister_past (s : State) {offset : BitVec 12} (h : 28 ≤ offset.toNat) : s.readRegister offset = 0 := by
  obtain ⟨k, hk⟩ : ∃ k, offset.toNat / 4 = k + 7 := ⟨offset.toNat / 4 - 7, by omega⟩
  rw [State.readRegister, hk]
  rfl

/-! ## The command that a write is (R177, R179) -/

theorem controlCommand_eq (offset : BitVec 12) (w : RegWrite) :
    controlCommand offset w =
      if w.data.getLsbD 2 && w.bytes.getLsbD 0 then
        .stop (w.data.getLsbD 0 && w.bytes.getLsbD 0) (w.data.getLsbD 1 && w.bytes.getLsbD 0)
      else if w.data.getLsbD 0 && w.bytes.getLsbD 0 then .load (w.data.getLsbD 1 && w.bytes.getLsbD 0)
      else if w.data.getLsbD 1 && w.bytes.getLsbD 0 then .start
      else .ignoredRegisterWrite offset w := by
  simp only [controlCommand, regValue_getLsbD w (show 0 < 32 by decide), regValue_getLsbD w (show 1 < 32 by decide),
    regValue_getLsbD w (show 2 < 32 by decide)]

theorem registerCommand_ignored {offset : BitVec 12} (h : offset.toNat < 4 ∨ 28 ≤ offset.toNat) (w : RegWrite) :
    registerCommand offset w = .ignoredRegisterWrite offset w := by
  rcases h with h | h
  · simp only [registerCommand, show offset.toNat / 4 = 0 by omega]
  · obtain ⟨k, hk⟩ : ∃ k, offset.toNat / 4 = k + 7 := ⟨offset.toNat / 4 - 7, by omega⟩
    rw [registerCommand, hk]
    rfl

/-- Settles O30: the plain writes by their equations, and reads and commands by the register that the offset lies in. -/
theorem registerReadsAndWrites : Obligations.RegisterReadsAndWrites := by
  intro w s
  dsimp only
  refine ⟨⟨exec_causeClear w s, exec_causeEnableWrite w s, fun hp => ⟨_, exec_areaBaseWrite hp w, fun i hi => ?_, rfl⟩,
    ⟨_, exec_resetReasonClear w s, fun i hi => resetReason_cleared_getLsbD _ w hi, rfl⟩, fun _ => rfl⟩,
    fun offset => ⟨⟨fun h => ?_, fun h h' => ?_, fun h h' => ?_, fun h h' => ?_, fun h h' => ?_, fun h h' => ?_,
      fun h h' => ?_, s.readRegister_past, fun n => s.readRegisterBytes_within offset⟩,
      fun h => registerCommand_ignored h w, fun h h' => ?_, fun h h' => ?_, fun h h' => ?_, fun h h' => ?_,
      fun h h' => ?_, fun h h' => ?_⟩⟩
  · rw [BitVec.getLsbD_and, regValue_getLsbD w hi, areaBaseMask_getLsbD ⟨i, hi⟩, Bool.and_comm]
  · exact s.readRegister_congr (b := 0) (by simp; omega)
  · rw [s.readRegister_congr (b := 4) (by simp; omega)]
    exact s.controlValue_bytes
  · exact s.readRegister_congr (b := 8) (by simp; omega)
  · exact s.readRegister_congr (b := 12) (by simp; omega)
  · exact s.readRegister_congr (b := 16) (by simp; omega)
  · exact s.readRegister_congr (b := 20) (by simp; omega)
  · exact s.readRegister_congr (b := 24) (by simp; omega)
  · simp only [registerCommand, show offset.toNat / 4 = 1 by omega, controlCommand_eq]
  · simp only [registerCommand, show offset.toNat / 4 = 2 by omega, regValue_and_low_byte]
  · simp only [registerCommand, show offset.toNat / 4 = 3 by omega]
  · simp only [registerCommand, show offset.toNat / 4 = 4 by omega]
  · simp only [registerCommand, show offset.toNat / 4 = 5 by omega]
  · simp only [registerCommand, show offset.toNat / 4 = 6 by omega, regValue_and_low_three, ite_not]

end Sys2Proof.Machine
end

section
-- One declaration after another: checked side by side, the text needs more threads than the check's memory limit allows.
set_option Elab.async false
/-! The checks of a load in their order (O23), and the two ways a load ends (O29). -/

namespace Sys2Proof.Machine

open Sys2Proof

/-! ## What a run of checks decides (R181) -/

/-- The checks named by `keys`, code and fault index each, decide the verdict: all hold and it passes, or it is the failure of
the first that does not hold. -/
def LoadVerdict.decides (v : LoadVerdict) (holds : Nat → Nat → Prop) (keys : List (Nat × Nat)) : Prop :=
  (v = .pass ∧ ∀ k ∈ keys, holds k.1 k.2) ∨
    ∃ before k after, keys = before ++ k :: after ∧ v = .fail k.1 k.2 ∧ ¬ holds k.1 k.2 ∧ ∀ j ∈ before, holds j.1 j.2

section
variable {holds : Nat → Nat → Prop} {keys : List (Nat × Nat)} {v : LoadVerdict} {bs : List Byte} {code index upto : Nat}

/-- A check that holds passes the load on to the checks after it. -/
theorem LoadVerdict.decides.passed (h : v.decides holds keys) (hc : holds code index) :
    v.decides holds ((code, index) :: keys) := by
  rcases h with ⟨hv, hall⟩ | ⟨before, k, after, hkeys, hv, hk, hbefore⟩
  · exact .inl ⟨hv, List.forall_mem_cons.mpr ⟨hc, hall⟩⟩
  · exact .inr ⟨(code, index) :: before, k, after, by rw [hkeys, List.cons_append], hv, hk,
      List.forall_mem_cons.mpr ⟨hc, hbefore⟩⟩

/-- A check that does not hold decides the load. -/
theorem LoadVerdict.decides_failed (hc : ¬ holds code index) :
    (LoadVerdict.fail code index).decides holds ((code, index) :: keys) :=
  .inr ⟨[], (code, index), keys, rfl, rfl, hc, nofun⟩

theorem checkOn_holds (hu : upto ≤ bs.length) : checkOn bs upto code none v = v := by
  unfold checkOn
  rw [if_neg (Nat.not_lt.mpr hu)]

theorem checkOn_fails (hu : upto ≤ bs.length) : checkOn bs upto code (some index) v = .fail code index := by
  unfold checkOn
  rw [if_neg (Nat.not_lt.mpr hu)]

/-- A check of one part, with the bytes that it needs read. -/
theorem LoadVerdict.decides.check (h : v.decides holds keys) (hu : upto ≤ bs.length) {bad : Bool}
    (hb : bad = false ↔ holds code index) :
    (checkOn bs upto code (if bad then some index else none) v).decides holds ((code, index) :: keys) := by
  cases bad with
  | false =>
    rw [if_neg Bool.false_ne_true, checkOn_holds hu]
    exact h.passed (hb.mp rfl)
  | true =>
    rw [if_pos rfl, checkOn_fails hu]
    exact LoadVerdict.decides_failed fun hc => nomatch hb.mpr hc

/-- A fault found first goes before the faults that the same check finds later. -/
theorem checkOn_orElse (hu : upto ≤ bs.length) (bad : Bool) (fault : Option Nat) :
    checkOn bs upto code (if bad then some index else fault) v =
      checkOn bs upto code (if bad then some index else none) (checkOn bs upto code fault v) := by
  cases bad with
  | false => rw [if_neg Bool.false_ne_true, if_neg Bool.false_ne_true, checkOn_holds hu]
  | true => rw [if_pos rfl, if_pos rfl, checkOn_fails hu, checkOn_fails hu]

/-- A check of the whole block, of fault index 0. -/
theorem LoadVerdict.decides.checkZero (h : v.decides holds keys) (hu : upto ≤ bs.length) {ok : Bool}
    (hb : ok = true ↔ holds code 0) : (checkOn bs upto code (zeroUnless ok) v).decides holds ((code, 0) :: keys) := by
  have hbad : (!ok) = false ↔ holds code 0 := by rw [Bool.not_eq_false', hb]
  have hfault : zeroUnless ok = if (!ok) = true then some 0 else none := by cases ok <;> rfl
  rw [hfault]
  exact h.check hu hbad

/-- A check of every member of a bank, in ascending index. -/
theorem LoadVerdict.decides.checkBank (h : v.decides holds keys) {n : Nat} {ends : Fin n → Nat} {bad : Fin n → Bool}
    (hu : ∀ i, ends i ≤ bs.length) (hb : ∀ i, bad i = false ↔ holds code i.val) :
    (checkEach bs code ((List.finRange n).map fun i => (i.val, ends i, bad i)) v).decides holds
      ((List.finRange n).map (fun i => (code, i.val)) ++ keys) := by
  unfold checkEach
  rw [List.foldr_map]
  induction List.finRange n with
  | nil => exact h
  | cons i is ih => exact ih.check (hu i) (hb i)

/-! ## The order of the checks (R181) -/

/-- Every check with each fault index that it can report, in the order of R181. -/
def loadKeys : List (Nat × Nat) :=
  (1, 0) :: (2, 0) :: ((List.finRange 16).map (fun t => (3, t.val)) ++ (4, 0) :: (5, 0) :: (6, 1) :: (6, 2) :: (6, 3) ::
    ((List.finRange 32).map (fun src => (7, src.val)) ++ ((List.finRange 8).map (fun i => (8, i.val)) ++ [])))

/-- The place of a check in the order of R181, by code and then by fault index. -/
def checkBefore (j k : Nat × Nat) : Prop := j.1 < k.1 ∨ (j.1 = k.1 ∧ j.2 < k.2)

theorem loadKeys_ascending : loadKeys.Pairwise checkBefore := by
  unfold checkBefore
  decide

theorem loadKeys_codes : ∀ k ∈ loadKeys, 1 ≤ k.1 ∧ k.1 ≤ 8 := by decide

theorem LoadVerdict.decides.pass_iff (h : v.decides holds keys) : v = .pass ↔ ∀ k ∈ keys, holds k.1 k.2 := by
  rcases h with ⟨rfl, hall⟩ | ⟨before, k, after, rfl, rfl, hk, -⟩
  · exact iff_of_true rfl hall
  · exact iff_of_false nofun fun hall => hk (hall k (by simp))

theorem LoadVerdict.decides.not_more (h : v.decides holds keys) : v ≠ .more := by
  rcases h with ⟨rfl, -⟩ | ⟨before, k, after, -, rfl, -⟩ <;> exact nofun

/-- A failure is that of a check that does not hold, while all that come before it do. -/
theorem LoadVerdict.decides.fail (h : LoadVerdict.decides (.fail code index) holds keys)
    (hasc : keys.Pairwise checkBefore) :
    (code, index) ∈ keys ∧ ¬ holds code index ∧
      ∀ j ∈ keys, checkBefore j (code, index) → holds j.1 j.2 := by
  rcases h with ⟨hv, -⟩ | ⟨before, k, after, rfl, hv, hk, hbefore⟩
  · cases hv
  · obtain rfl : k = (code, index) := by cases hv; rfl
    obtain ⟨-, hafter, -⟩ := List.pairwise_append.mp hasc
    refine ⟨by simp, hk, fun j hj hlt => ?_⟩
    rcases List.mem_append.mp hj with hj | hj
    · exact hbefore j hj
    · exfalso
      rcases List.mem_cons.mp hj with rfl | hj
      · rcases hlt with hlt | hlt
        · omega
        · omega
      · have hgt := (List.pairwise_cons.mp hafter).1 j hj
        simp only [checkBefore] at hlt hgt
        omega

end

/-! ## The check of one tile, area, source or alarm configuration (R181) -/

theorem overlaps_eq_false (a alen b blen : Nat) : overlaps a alen b blen = false ↔ apart a alen b blen := by
  simp only [overlaps, apart, Bool.and_eq_false_iff, decide_eq_false_iff_not]
  omega

theorem apart_comm {a alen b blen : Nat} : apart a alen b blen ↔ apart b blen a alen := Or.comm

theorem TileRec.bad_eq_false (t : TileRec) :
    t.bad = false ↔
      (t.enable = true → (64 ≤ t.width ∧ t.width ≤ 1920) ∧ (64 ≤ t.height ∧ t.height ≤ 1200) ∧
        t.x + t.width ≤ 16384 ∧ t.y + t.height ≤ 16384) := by
  cases he : t.enable with
  | false => simp [TileRec.bad, he]
  | true =>
    simp only [TileRec.bad, he, Bool.true_and, Bool.or_eq_false_iff, decide_eq_false_iff_not, forall_const]
    omega

theorem AlarmConfig.bad_eq_false (a : AlarmConfig) :
    a.bad = false ↔ (a.enable = true → 1 ≤ a.debounce ∧ a.debounce ≤ 255) := by
  cases he : a.enable with
  | false => simp [AlarmConfig.bad, he]
  | true =>
    simp only [AlarmConfig.bad, he, Bool.true_and, Bool.or_eq_false_iff, decide_eq_false_iff_not, forall_const]
    omega

/-- An area passes check 6. -/
theorem areaBad_eq_false (base len : Nat) (placed : List (Nat × Nat)) :
    areaBad base len placed = false ↔ areaFits base len placed := by
  simp only [areaBad, areaFits, Bool.or_eq_false_iff, bne_eq_false_iff_eq, decide_eq_false_iff_not, Nat.not_lt,
    List.any_eq_false, Bool.not_eq_true, overlaps_eq_false, and_assoc]
  rfl

/-- A fault found first, before the faults that `rest` finds. -/
theorem ite_some_eq_none {p : Prop} [Decidable p] (n : Nat) (rest : Option Nat) :
    (if p then some n else rest) = none ↔ ¬ p ∧ rest = none := by
  by_cases h : p <;> simp [h]

theorem slotFault_eq_none (areas : List (Nat × Nat)) (descs : List (Fin 32 × Descriptor)) (src : Fin 32) (d : Descriptor)
    (slot : Fin 3) :
    slotFault areas descs src d slot = none ↔
      areaFits (d.base slot) d.bytes areas ∧
        (∀ q ∈ slotsInUse src, q < slot → apart (d.base slot) d.bytes (d.base q) d.bytes) ∧
        firstNeighbour descs src (d.base slot) d.bytes = none := by
  simp only [slotFault, areaFits, ite_some_eq_none, Option.map_eq_none_iff, List.any_eq_true, Bool.and_eq_true,
    decide_eq_true_eq, not_exists, not_and, Bool.not_eq_true, overlaps_eq_false, ne_eq, not_not, Nat.not_lt]
  exact ⟨fun ⟨hunit, hend, hmine, hareas, hnext⟩ => ⟨⟨hunit, hend, hareas⟩, hmine, hnext⟩,
    fun ⟨⟨hunit, hend, hareas⟩, hmine, hnext⟩ => ⟨hunit, hend, hmine, hareas, hnext⟩⟩

/-- No other enabled source among the descriptors has a slot that shares a byte with the area. -/
theorem firstNeighbour_eq_none (descs : List (Fin 32 × Descriptor)) (src : Fin 32) (base len : Nat) :
    firstNeighbour descs src base len = none ↔
      ∀ p ∈ descs, p.1 ≠ src → p.2.enable = true → ∀ q ∈ slotsInUse p.1, apart base len (p.2.base q) p.2.bytes := by
  simp only [firstNeighbour, Option.map_eq_none_iff, List.find?_eq_none, Bool.and_eq_true, bne_iff_ne, ne_eq,
    List.any_eq_true, not_and, not_exists, Bool.not_eq_true, overlaps_eq_false]
  exact ⟨fun h p hp hn he => h p hp ⟨hn, he⟩, fun h p hp hn => h p hp hn.1 hn.2⟩

theorem descriptorFault_eq_none (areas : List (Nat × Nat)) (descs : List (Fin 32 × Descriptor)) (src : Fin 32)
    (d : Descriptor) :
    descriptorFault areas descs src d = none ↔
      (d.enable = true → (5 ≤ d.size ∧ d.size ≤ 9601) ∧ ∀ slot ∈ slotsInUse src, slotFault areas descs src d slot = none) := by
  cases he : d.enable with
  | false => simp [descriptorFault, he]
  | true =>
    simp only [descriptorFault, he, if_true, forall_const, ite_some_eq_none, List.findSome?_eq_none_iff, not_or, Nat.not_lt]

theorem mem_descsBefore (bs : List Byte) (src : Fin 32) (p : Fin 32 × Descriptor) :
    p ∈ descsBefore bs src ↔ p.1 < src ∧ p.2 = configDescriptor bs p.1.val := by
  simp only [descsBefore, List.mem_map, List.mem_filter, List.mem_finRange, true_and, decide_eq_true_eq]
  constructor
  · rintro ⟨q, hq, rfl⟩
    exact ⟨hq, rfl⟩
  · rintro ⟨hlt, hd⟩
    exact ⟨p.1, hlt, by rw [← hd]⟩

/-- Slots that are apart from each slot before them are apart from one another. -/
theorem slots_apart_iff (slots : List (Fin 3)) (d : Descriptor) :
    (∀ slot ∈ slots, ∀ q ∈ slots, q < slot → apart (d.base slot) d.bytes (d.base q) d.bytes) ↔
      ∀ slot ∈ slots, ∀ q ∈ slots, q ≠ slot → apart (d.base slot) d.bytes (d.base q) d.bytes := by
  refine ⟨fun h slot hs q hq hne => ?_, fun h slot hs q hq hlt => h slot hs q hq (Fin.ne_of_lt hlt)⟩
  rcases lt_or_gt_of_ne hne with hlt | hgt
  · exact h slot hs q hq hlt
  · exact apart_comm.mp (h q hq slot hs hgt)

/-- Source `src` passes check 7. -/
theorem sourceBad_eq_false (areaBase : Nat) (bs : List Byte) (src : Fin 32) :
    sourceBad (controlAreas areaBase (loadedOf bs)) bs src = false ↔ loadCheckAt areaBase bs 7 src.val := by
  have hat : loadCheckAt areaBase bs 7 src.val ↔ ((configDescriptor bs src.val).enable = true →
      (5 ≤ (configDescriptor bs src.val).size ∧ (configDescriptor bs src.val).size ≤ 9601) ∧
        ∀ slot ∈ slotsInUse src,
          areaFits ((configDescriptor bs src.val).base slot) (configDescriptor bs src.val).bytes
              (controlAreas areaBase (loadedOf bs)) ∧
            (∀ q ∈ slotsInUse src, q ≠ slot → apart ((configDescriptor bs src.val).base slot)
              (configDescriptor bs src.val).bytes ((configDescriptor bs src.val).base q) (configDescriptor bs src.val).bytes) ∧
            ∀ other : Fin 32, other < src → (configDescriptor bs other.val).enable = true → ∀ q ∈ slotsInUse other,
              apart ((configDescriptor bs src.val).base slot) (configDescriptor bs src.val).bytes
                ((configDescriptor bs other.val).base q) (configDescriptor bs other.val).bytes) :=
    ⟨fun h => h src rfl, fun h src' hsrc' => Fin.ext hsrc' ▸ h⟩
  have hneighbour (base len : Nat) : firstNeighbour (descsBefore bs src) src base len = none ↔
      ∀ other : Fin 32, other < src → (configDescriptor bs other.val).enable = true → ∀ q ∈ slotsInUse other,
        apart base len ((configDescriptor bs other.val).base q) (configDescriptor bs other.val).bytes := by
    simp only [firstNeighbour_eq_none, mem_descsBefore]
    constructor
    · intro h other hlt
      exact h (other, configDescriptor bs other.val) ⟨hlt, rfl⟩ (Fin.ne_of_lt hlt)
    · rintro h ⟨other, d⟩ ⟨hlt, hd⟩ -
      obtain rfl : d = configDescriptor bs other.val := hd
      exact h other hlt
  rw [sourceBad, Option.isSome_eq_false_iff, Option.isNone_iff_eq_none, descriptorFault_eq_none, hat]
  simp only [slotFault_eq_none, hneighbour, forall_and, slots_apart_iff]

/-! ## The checks in their order (O23) -/

/-- A code and an index that no check of R181 has name nothing to be checked. -/
theorem loadCheckAt_of_not_mem {code index : Nat} (h : (code, index) ∉ loadKeys) (areaBase : Nat) (bs : List Byte) :
    loadCheckAt areaBase bs code index := by
  have hnot (k : Nat × Nat) (hk : k ∈ loadKeys) : k ≠ (code, index) := fun e => h (e ▸ hk)
  have htile (t : Fin 16) : (3, t.val) ∈ loadKeys := by revert t; decide
  have hsource (src : Fin 32) : (7, src.val) ∈ loadKeys := by revert src; decide
  have halarm (i : Fin 8) : (8, i.val) ∈ loadKeys := by revert i; decide
  unfold loadCheckAt
  dsimp only
  split
  · rintro rfl
    exact absurd rfl (hnot _ (by decide))
  · rintro rfl
    exact absurd rfl (hnot _ (by decide))
  · rintro t rfl
    exact absurd rfl (hnot _ (htile t))
  · rintro rfl
    exact absurd rfl (hnot _ (by decide))
  · rintro rfl
    exact absurd rfl (hnot _ (by decide))
  · refine ⟨?_, ?_, ?_⟩ <;> rintro rfl <;> exact absurd rfl (hnot _ (by decide))
  · rintro src rfl
    exact absurd rfl (hnot _ (hsource src))
  · rintro i rfl
    exact absurd rfl (hnot _ (halarm i))
  · trivial

/-- The three areas of check 6. -/
theorem LoadVerdict.decides.checkAreas {areaBase : Nat} {bs : List Byte} {keys : List (Nat × Nat)} {v : LoadVerdict}
    (h : v.decides (loadCheckAt areaBase bs) keys) (hu : 32 ≤ bs.length) :
    (checkOn bs 32 6 (areasFault areaBase (loadedOf bs)) v).decides (loadCheckAt areaBase bs)
      ((6, 1) :: (6, 2) :: (6, 3) :: keys) := by
  have hring : areaBad (loadedOf bs).ringBase (64 * 2 ^ (loadedOf bs).ringCode) [(areaBase, Config.unit)] = false ↔
      loadCheckAt areaBase bs 6 1 := by
    rw [areaBad_eq_false]
    exact ⟨fun h => ⟨fun _ => h, nofun, nofun⟩, fun h => h.1 rfl⟩
  have hscenes : areaBad (loadedOf bs).sceneBase (16 * Config.unit)
      [(areaBase, Config.unit), ((loadedOf bs).ringBase, 64 * 2 ^ (loadedOf bs).ringCode)] = false ↔
      loadCheckAt areaBase bs 6 2 := by
    rw [areaBad_eq_false]
    exact ⟨fun h => ⟨nofun, fun _ => h, nofun⟩, fun h => h.2.1 rfl⟩
  have hpage : areaBad (loadedOf bs).statusBase Config.unit
      [(areaBase, Config.unit), ((loadedOf bs).ringBase, 64 * 2 ^ (loadedOf bs).ringCode),
        ((loadedOf bs).sceneBase, 16 * Config.unit)] = false ↔ loadCheckAt areaBase bs 6 3 := by
    rw [areaBad_eq_false]
    exact ⟨fun h => ⟨nofun, nofun, fun _ => h⟩, fun h => h.2.2 rfl⟩
  rw [areasFault]
  dsimp only
  rw [checkOn_orElse (index := 1) hu, checkOn_orElse (index := 2) hu]
  exact ((h.check hu hpage).check hu hscenes).check hu hring

theorem loadVerdict_decides {bs : List Byte} (hlen : bs.length = 1376) (areaBase : Nat) :
    (loadVerdict areaBase bs).decides (loadCheckAt areaBase bs) loadKeys := by
  have hend : LoadVerdict.decides (if bs.length < Config.configBytes then .more else .pass) (loadCheckAt areaBase bs) [] := by
    rw [if_neg (by rw [hlen]; decide)]
    exact .inl ⟨rfl, nofun⟩
  have halarms := hend.checkBank (code := 8) (n := 8) (ends := fun i => 1348 + 4 * i.val)
    (bad := fun i => (alarmConfigAt bs i.val).bad) (bs := bs) (fun i => by omega) fun i => by
      rw [AlarmConfig.bad_eq_false]
      exact ⟨fun h i' hi' => Fin.ext hi' ▸ h, fun h => h i rfl⟩
  have hsources := halarms.checkBank (code := 7) (n := 32) (ends := fun src => 352 + 32 * src.val)
    (bad := fun src => sourceBad (controlAreas areaBase (loadedOf bs)) bs src) (bs := bs) (fun src => by omega)
    (sourceBad_eq_false areaBase bs)
  have hareas := hsources.checkAreas (by omega)
  have hring := hareas.checkZero (code := 5) (upto := 21) (bs := bs) (by omega)
    (ok := decide (3 ≤ (loadedOf bs).ringCode) && decide ((loadedOf bs).ringCode ≤ 8)) (by
      simp [loadCheckAt])
  have hsome := hring.checkZero (code := 4) (upto := 320) (bs := bs) (by omega)
    (ok := anyBank (loadedOf bs).tiles fun _ t => t.enable) (by
      rw [anyBank_eq_true]
      simp [loadCheckAt])
  have htiles := hsome.checkBank (code := 3) (n := 16) (ends := fun t => 80 + 16 * t.val)
    (bad := fun t => ((loadedOf bs).tiles[t]).bad) (bs := bs) (fun t => by omega) fun t => by
      rw [TileRec.bad_eq_false]
      exact ⟨fun h t' ht' => Fin.ext ht' ▸ h, fun h => h t rfl⟩
  have hperiod := htiles.checkZero (code := 2) (upto := 8) (bs := bs) (by omega)
    (ok := decide (13333 ≤ (loadedOf bs).period) && decide ((loadedOf bs).period ≤ 41667)) (by
      simp [loadCheckAt])
  exact hperiod.checkZero (code := 1) (upto := 4) (bs := bs) (by omega)
    (ok := field bs 0 4 == Config.configMarker) (by
      simp [loadCheckAt, Config.configMarker])

/-- Settles O23: the verdict is decided by `loadKeys`, which ascend, and no other code or index names a check. -/
theorem loadChecksInOrder : Obligations.LoadChecksInOrder := by
  intro areaBase bs hlen
  have hdecides := loadVerdict_decides hlen areaBase
  refine ⟨hdecides.pass_iff.trans ⟨fun h code index => ?_, fun h k _ => h k.1 k.2⟩, fun code index hv => ?_,
    hdecides.not_more⟩
  · by_cases hk : (code, index) ∈ loadKeys
    · exact h _ hk
    · exact loadCheckAt_of_not_mem hk areaBase bs
  · rw [hv] at hdecides
    obtain ⟨hmem, hfails, hbefore⟩ := hdecides.fail loadKeys_ascending
    refine ⟨loadKeys_codes _ hmem, hfails, fun code' index' hlt => ?_⟩
    by_cases hk : (code', index') ∈ loadKeys
    · exact hbefore _ hk hlt
    · exact loadCheckAt_of_not_mem hk areaBase bs

/-! ## The end of a load (O29) -/

theorem exec_loadEnd {s : State} (hp : s.control.part = .loading) :
    exec .loadEnd s =
      match loadVerdict s.link.areaBase.toNat s.control.loadBytes with
      | .more => .next s
      | .pass => .next s.loadPassed
      | .fail code index => .next (s.loadFailed code index) :=
  if_pos hp

theorem State.loadFailed_eq (s : State) (code index : Nat) :
    s.loadFailed code index =
      { s with
        control := ⟨.halted, BitVec.ofNat 8 code, BitVec.ofNat 8 index, false, []⟩
        port := s.port.setQueue (.control loadSequence) []
        link := s.link.withCausesSet 0x02 } :=
  State.raise_eq _ causeLoadFault

theorem Source.loaded_eq (src : Fin 32) (d : Descriptor) :
    Source.loaded src d = if d.enable then Source.unloaded.restarted src d else Source.unloaded.switchedOff d := by
  rw [Source.loaded, ← Source.restarted_eq, ← Source.disabled_eq]
  rfl

/-- The initial bank: one band of one background span for each enabled tile (R41). -/
theorem initialBank_tile (cfg : Loaded) (k : Fin 16) :
    (initialBank cfg).tiles[k] =
      if (cfg.tiles[k]).enable then some ⟨[⟨0, [⟨0, (cfg.tiles[k]).width, .background⟩]⟩], .normal⟩ else none := by
  rw [initialBank]
  dsimp only
  rw [mapBank_get, backgroundBands]

/-- Settles O29: `State.loadPassed` field by field, and `State.loadFailed` by its equation. -/
theorem loadEndsInOneOfTwoWays : Obligations.LoadEndsInOneOfTwoWays := by
  intro s hp
  refine ⟨fun hv => ⟨s.loadPassed, by rw [exec_loadEnd hp, hv], ⟨rfl, rfl, rfl⟩, ⟨rfl, rfl⟩,
    ⟨rfl, _, rfl, rfl, initialBank_tile _⟩, ⟨fun src => ?_, rfl, rfl, rfl, rfl⟩, ⟨fun i => ?_, fun i => ?_, rfl, fun k => ?_,
      rfl⟩, ?_, rfl, rfl, rfl, rfl⟩, fun code index hv => ?_⟩
  · exact (Vector.getElem_ofFn _).trans (Source.loaded_eq src _)
  · exact Vector.getElem_replicate _
  · exact Vector.getElem_ofFn _
  · exact Vector.getElem_replicate _
  · rw [State.loadPassed, State.raise_eq]
    rfl
  · rw [exec_loadEnd hp, hv]
    exact congrArg Host.Outcome.next (s.loadFailed_eq code index)

end Sys2Proof.Machine
end

section
-- One declaration after another: checked side by side, the text needs more threads than the check's memory limit allows.
set_option Elab.async false
/-! Which commands move the part state and the wall frame number (O12). -/

namespace Sys2Proof.Machine

open Sys2Proof

/-! ## What a command answers -/

/-- Every next state that an outcome can be has a property. -/
def answers (P : State → Prop) (o : Host.Outcome State Fault Refusal) : Prop := ∀ t, o = .next t → P t

section
variable {P : State → Prop} {s t : State} {p : Prop} [Decidable p]

theorem answers.next (h : P t) : answers P (.next t) := by
  rintro _ ⟨⟩
  exact h

theorem answers.fault (r : Fault) : answers P (.fault r) := fun _ h => nomatch h

theorem answers.ite {a b : Host.Outcome State Fault Refusal} (ha : answers P a) (hb : answers P b) :
    answers P (if p then a else b) := by
  split
  · exact ha
  · exact hb

theorem answers.nextIte (ht : P t) (hs : P s) : answers P (.next (if p then t else s)) := by
  refine .next ?_
  split
  · exact ht
  · exact hs

end

/-! ## The part state (R178 to R184, R188) -/

theorem State.takeLoad_part (s : State) (start : Bool) : (s.takeLoad start).control.part = .loading := rfl

theorem State.loadFailed_part (s : State) (code index : Nat) : (s.loadFailed code index).control.part = .halted := rfl

theorem State.loadPassed_part (s : State) : s.loadPassed.control.part = .ready := rfl

/-- Every command that moves the part state, with the move that it makes. -/
theorem exec_part_moves {c : Instr} {s t : State} (h : exec c s = .next t) (hne : t.control.part ≠ s.control.part) :
    (t.control.part = .loading ∧ (s.control.part = .halted ∨ s.control.part = .ready) ∧ ∃ held, c = .load held) ∨
      (t.control.part = .ready ∧ s.control.part = .loading ∧ c = .loadEnd) ∨
      (t.control.part = .running ∧ s.control.part = .ready ∧
        (c = .start ∨ (c = .heldStart ∧ s.control.heldStart = true))) ∨
      (t.control.part = .halted ∧
        ((c = .loadEnd ∧ s.control.part = .loading) ∨ (∃ l st, c = .stop l st) ∨ (∃ dram, c = .powerOnReset dram) ∨
          ∃ cut, c = .resetPin cut)) := by
  by_cases hc : runningOnly c = true
  · obtain ⟨u, hu, ⟨hcontrol, -, -⟩, -⟩ := exec_runningOnly c hc s
    cases hu.symm.trans h
    exact absurd (congrArg Control.part hcontrol) hne
  cases c with
  | load start =>
    cases (exec_load start s).symm.trans h
    by_cases hl : s.canLoad = true
    · rw [if_pos hl]
      exact .inl ⟨s.takeLoad_part start, by simpa [State.canLoad] using hl, start, rfl⟩
    · rw [if_neg hl] at hne
      exact absurd (by simp) hne
  | loadEnd =>
    rcases exec_loadEnd_cases s with g | ⟨hp, g | ⟨code, index, g⟩⟩ <;> cases g.symm.trans h
    · exact absurd rfl hne
    · exact .inr (.inl ⟨s.loadPassed_part, hp, rfl⟩)
    · exact .inr (.inr (.inr ⟨s.loadFailed_part code index, .inl ⟨rfl, hp⟩⟩))
  | start =>
    cases (exec_start s).symm.trans h
    by_cases hr : s.control.part = .ready
    · rw [if_pos hr]
      exact .inr (.inr (.inl ⟨rfl, hr, .inl rfl⟩))
    · rw [if_neg hr] at hne
      exact absurd (by simp) hne
  | heldStart =>
    cases (exec_heldStart s).symm.trans h
    by_cases hr : s.control.part = .ready ∧ s.control.heldStart = true
    · rw [if_pos hr]
      exact .inr (.inr (.inl ⟨rfl, hr.1, .inr ⟨rfl, hr.2⟩⟩))
    · rw [if_neg hr] at hne
      exact absurd rfl hne
  | stop load start =>
    cases h
    exact .inr (.inr (.inr ⟨rfl, .inr (.inl ⟨load, start, rfl⟩)⟩))
  | powerOnReset dram =>
    cases h
    exact .inr (.inr (.inr ⟨rfl, .inr (.inr (.inl ⟨dram, rfl⟩))⟩))
  | resetPin cut =>
    cases h
    exact .inr (.inr (.inr ⟨rfl, .inr (.inr (.inr ⟨cut, rfl⟩))⟩))
  | pcieLinkReset _ | causeClear _ | causeEnableWrite _ | resetReasonClear _ | ignoredRegisterWrite _ _ =>
    cases h
    exact absurd rfl hne
  | areaBaseWrite w =>
    cases h
    refine absurd ?_ hne
    unfold State.writeAreaBase
    split <;> simp
  | attend w =>
    cases h
    exact absurd (by simp) hne
  | bar2Access op =>
    refine absurd ?_ hne
    cases op with
    | read addr len =>
      rw [execBar2Access_read] at h
      split at h <;> cases h
      rfl
    | write addr data =>
      rw [execBar2Access_write] at h
      split at h <;> cases h
      rfl
  | transferGrant =>
    cases (exec_transferGrant s).symm.trans h
    refine absurd ?_ hne
    cases s.port.choose with
    | none => rfl
    | some r => exact s.grant_part r
  | tileBuilt =>
    rcases exec_tileBuilt_cases s with g | ⟨kind, shadow, k, table, g⟩ | ⟨k, code, g⟩ <;> cases g.symm.trans h
    · exact absurd rfl hne
    · exact absurd (by simp) hne
    · exact absurd (by simp) hne
  | _ => exact absurd rfl hc

/-! ## The wall frame number (R1, R2, R182, R188) -/

/-- The wall frame number stands as it did. -/
def State.keepsNumber (s t : State) : Prop := t.frameNo = s.frameNo

theorem State.keepsNumber.idle (s : State) : answers s.keepsNumber (.next s) := .next rfl

/-- No command but the wall frame start, the end of a load and the two resets moves the wall frame number. -/
theorem exec_keepsNumber {c : Instr} (hw : ∀ order, c ≠ .wallFrameStart order) (hl : c ≠ .loadEnd)
    (hp : ∀ dram, c ≠ .powerOnReset dram) (hr : ∀ cut, c ≠ .resetPin cut) (s : State) :
    answers s.keepsNumber (exec c s) := by
  cases c with
  | wallFrameStart order => exact absurd rfl (hw order)
  | loadEnd => exact absurd rfl hl
  | powerOnReset dram => exact absurd rfl (hp dram)
  | resetPin cut => exact absurd rfl (hr cut)
  | load start => exact .ite (.next (s.takeLoad_frameNo start)) (.next s.refuse_frameNo)
  | start => exact .ite (.next rfl) (.next s.refuse_frameNo)
  | heldStart => exact .ite (.next rfl) (.idle s)
  | stop _ _ | pcieLinkReset _ | causeClear _ | causeEnableWrite _ | resetReasonClear _ | ignoredRegisterWrite _ _ =>
    exact .next rfl
  | areaBaseWrite w => exact .nextIte rfl s.refuse_frameNo
  | attend w => exact .next s.writeAttend_frameNo
  | bar2Access op =>
    cases op with
    | read addr len => exact .ite (.fault _) (.next rfl)
    | write addr data => exact .ite (.fault _) (.next rfl)
  | transferGrant =>
    rw [exec_transferGrant]
    cases s.port.choose with
    | none => exact .idle s
    | some r => exact .next (s.grant_frameNo r)
  | tileBuilt =>
    rcases exec_tileBuilt_cases s with h | ⟨kind, shadow, k, table, h⟩ | ⟨k, code, h⟩ <;> rw [h]
    · exact .idle s
    · exact .next (s.keepTile_frameNo kind shadow k table)
    · exact .next (s.failBuild_frameNo k code)
  | millisecondInterval high =>
    exact .ite (.next ((State.unitsTick_frameNo _ _ _).trans (s.alarmTakes_frameNo _))) (.idle s)
  | debouncedAssert _ | debouncedRelease _ => exact .nextIte (s.alarmTakes_frameNo _) rfl
  | lossOfSignal c => exact .ite (.next (State.raise_frameNo _ _)) (.idle s)
  | staleLimitReached src | expiry src => exact .ite (.next (s.finishSource_frameNo src)) (.idle s)
  | lineStart k => exact .next (s.lineStart_frameNo k)
  | rowComposed k => exact .next (s.rowComposed_frameNo k)
  | frameStartMark c | captureLock c | congestionHalved c | congestionNormal c =>
    exact .ite (.next (s.frameStartMark_frameNo c)) (.idle s)
  | lineStartMark c => exact .ite (.next (s.lineStartMark_frameNo c)) (.idle s)
  | pixel c p => exact .ite (.next (s.pixel_frameNo c p)) (.idle s)
  | goodFrameReport c => exact .ite (.next rfl) (.idle s)
  | capturePublication c =>
    show answers _ (execCapturePublication c s)
    unfold execCapturePublication
    split
    · exact .nextIte (s.publishCapture_frameNo c _ _) rfl
    · exact .idle s
  | memoryHeaderRead m =>
    show answers _ (execMemoryHeaderRead m s)
    unfold execMemoryHeaderRead
    split
    · exact .next (s.headerJudged_frameNo _ _)
    · exact .idle s
  | takeScene =>
    show answers _ (execTakeScene s)
    unfold execTakeScene
    split
    · exact .nextIte (s.takeSlot_frameNo _ _) rfl
    · exact .nextIte rfl (s.takeKind_frameNo _ _)
    all_goals exact .idle s
  | badKind =>
    show answers _ (execBadKind s)
    unfold execBadKind
    split
    · exact .nextIte (s.takeSlot_frameNo _ _) rfl
    all_goals exact .idle s
  | nop | putWindow | removeWindow | restack | saveScene | freeze | clearAlarm | sourceConfig | clearWall =>
    exact .next (s.takeKind_frameNo _ _)
  | slotNotPosted =>
    show answers _ (execSlotNotPosted s)
    unfold execSlotNotPosted
    split
    · exact .idle s
    · exact .ite (.next rfl) (.next (State.settleLooks_frameNo _))
  | chainTimeout => exact .ite (.next (s.abortGroup_frameNo _ _ _ _)) (.idle s)
  | skipTimeout => exact .ite (.next (State.settleLooks_frameNo _)) (.idle s)
  | skippedSlot =>
    show answers _ (execSkippedSlot s)
    unfold execSkippedSlot
    split
    · exact .idle s
    · exact .next (State.lookAtOnce_frameNo _)
  | writeBackDone =>
    show answers _ (execWriteBackDone s)
    unfold execWriteBackDone
    split
    · exact .nextIte (s.endReturn_frameNo _) rfl
    · exact .idle s
  | abortReturnDone =>
    show answers _ (execAbortReturnDone s)
    unfold execAbortReturnDone
    split
    · exact .idle s
    · exact .nextIte (s.endReturn_frameNo _) rfl

/-- Settles O12: the moves of the part state, and the four commands that move the wall frame number. -/
theorem partStateAndFrameNumberMove : Obligations.PartStateAndFrameNumberMove := by
  intro c s t h
  refine ⟨exec_part_moves h, ?_⟩
  split
  · rename_i order
    cases h
    by_cases hr : s.control.part = .running
    · rw [if_pos (by simp [State.running, hr]), if_pos hr]
      exact s.takeFrame_frameNo order
    · rw [if_neg (by simpa [State.running] using hr), if_neg hr]
  · rcases exec_loadEnd_cases s with g | ⟨hp, g | ⟨code, index, g⟩⟩ <;> cases g.symm.trans h
    · rw [if_neg fun hp => nomatch (hp.1.symm.trans hp.2 : PartState.loading = .ready)]
    · rw [if_pos ⟨hp, s.loadPassed_part⟩]
      rfl
    · rw [if_neg fun hp => nomatch (show PartState.halted = .ready from hp.2)]
      exact s.loadFailed_frameNo code index
  · cases h
    rfl
  · cases h
    rfl
  · rename_i hw hl hp hr
    exact exec_keepsNumber hw hl hp hr s t h

end Sys2Proof.Machine
end

section
-- One declaration after another: checked side by side, the text needs more threads than the check's memory limit allows.
set_option Elab.async false
/-! Cause and reset-reason bits stay until a write or a reset clears them (O11). -/

namespace Sys2Proof.Machine

open Sys2Proof

/-! ## Work that sets cause bits at most (R186, R190) -/

/-- Every cause bit and every reset-reason bit that is set stays set. -/
def State.bitsStay (s t : State) : Prop :=
  s.causesStay t ∧ ∀ i : Nat, s.link.resetReason.getLsbD i = true → t.link.resetReason.getLsbD i = true

theorem State.bitsStay.of_reason {s t : State} (h : s.causesStay t) (hr : t.link.resetReason = s.link.resetReason) :
    s.bitsStay t :=
  ⟨h, fun _ hi => hr ▸ hi⟩

theorem State.bitsStay.of_bits {s t : State} (hc : t.link.cause = s.link.cause)
    (hr : t.link.resetReason = s.link.resetReason) : s.bitsStay t :=
  .of_reason (fun _ hi => hc ▸ hi) hr

theorem State.bitsStay.of_link {s t : State} (h : t.link = s.link := by simp) : s.bitsStay t :=
  .of_bits (congrArg Link.cause h) (congrArg Link.resetReason h)

theorem State.bitsStay.trans {s t u : State} (h : s.bitsStay t) (g : t.bitsStay u) : s.bitsStay u :=
  ⟨h.1.trans g.1, fun i => g.2 i ∘ h.2 i⟩

/-- Work that keeps the bits, followed by work that leaves the link registers alone. -/
theorem State.bitsStay.then {s t u : State} (h : s.bitsStay t) (g : u.link = t.link := by simp) : s.bitsStay u :=
  h.trans (.of_link g)

theorem State.bitsStay.ite {s t u : State} {p : Prop} [Decidable p] (ht : s.bitsStay t) (hu : s.bitsStay u) :
    s.bitsStay (if p then t else u) := by
  split
  · exact ht
  · exact hu

theorem State.raise_bitsStay (s : State) (bits : BitVec 8) : s.bitsStay (s.raise bits) :=
  .of_reason (s.raise_causesStay bits) rfl

/-- Work that sets cause bits and leaves the link registers alone but for them. -/
theorem State.bitsStay.of_causesSet {s t : State} {bits : BitVec 8} (h : t.link = s.link.withCausesSet bits) :
    s.bitsStay t :=
  (s.raise_bitsStay bits).then (by rw [h, State.raise_eq])

@[simp] theorem State.raiseIf_resetReason (s : State) (b : Bool) (bits : BitVec 8) :
    (s.raiseIf b bits).link.resetReason = s.link.resetReason := by
  unfold State.raiseIf
  split <;> rfl

theorem State.raiseIf_bitsStay (s : State) (b : Bool) (bits : BitVec 8) : s.bitsStay (s.raiseIf b bits) :=
  .of_reason (s.raiseIf_causesStay b bits) (s.raiseIf_resetReason b bits)

/-! ## The alarm contact unit and the source unit -/

theorem State.alarmWork_bitsStay (s : State) (alarms : Vector AlarmInput 8) (moved : Bool) :
    s.bitsStay (s.alarmWork alarms moved) :=
  (s.raiseIf_bitsStay moved causeAlarmEvent).then (State.makeMoves_link _ _)

theorem State.clearWork_bitsStay (s : State) : s.bitsStay s.clearWork.1 := s.alarmWork_bitsStay _ _

theorem State.sampleContacts_bitsStay (s : State) (high : Groups) : s.bitsStay (s.sampleContacts high) := by
  unfold State.sampleContacts State.alarmStep
  exact s.alarmWork_bitsStay _ _

theorem State.alarmTakes_bitsStay (s : State) (step : AlarmStep) : s.bitsStay (s.alarmTakes step) :=
  .ite (s.alarmWork_bitsStay _ _)
    (.trans (t := s.withAlarmsLater (stepAfter step s.alarmsLater)) (.of_link rfl) (State.raiseIf_bitsStay _ _ _))

theorem State.alarmStepLate_bitsStay (more : Bool) (s : State) (step : AlarmStep) :
    s.bitsStay (State.alarmStepLate more s step) :=
  .ite .of_link .of_link

theorem State.alarmsGoOn_bitsStay (s : State) (more : Bool) : s.bitsStay (s.alarmsGoOn more) := by
  have hlate (steps : List AlarmStep) : ∀ u : State, u.bitsStay (steps.foldl (State.alarmStepLate more) u) := by
    induction steps with
    | nil => exact fun _ => .of_link rfl
    | cons step rest ih => exact fun u => (State.alarmStepLate_bitsStay more u step).trans (ih _)
  unfold State.alarmsGoOn
  split
  · exact .of_link rfl
  · rename_i steps rest _
    exact .trans (t := s.withAlarmsLater rest) (.of_link rfl) (hlate steps _)

@[simp] theorem State.sourceStart_resetReason (s : State) (f : SourceFrame) :
    (s.sourceStart f).link.resetReason = s.link.resetReason := by
  simp [State.sourceStart]

@[simp] theorem State.sourceRun_resetReason (frames : List SourceFrame) (s : State) :
    (State.sourceRun frames s).link.resetReason = s.link.resetReason := by
  induction frames generalizing s with
  | nil => rfl
  | cons f rest ih =>
    unfold State.sourceRun
    dsimp only
    split
    · split
      · split
        · simp
        · simp [ih]
      · simp
    · rfl

theorem State.sourceAdvance_bitsStay (s : State) : s.bitsStay s.sourceAdvance := by
  refine .of_reason s.sourceAdvance_causesStay ?_
  unfold State.sourceAdvance
  split
  · exact State.sourceRun_resetReason _ s
  · rfl

theorem State.handItems_bitsStay (s : State) (items : List SourceItem) : s.bitsStay (s.handItems items) := by
  have htaken (u : SourceUnit) : s.bitsStay (s.statusTakeRing.withSources u) := .of_link
  exact (htaken _).trans (State.sourceAdvance_bitsStay _)

theorem State.headerJudged_bitsStay (s : State) (src : Fin 32) (header : List Byte) :
    s.bitsStay (s.headerJudged src header) := by
  unfold State.headerJudged
  dsimp only
  have hchannel : s.bitsStay (s.setChannel src ((s.channel src).judgeHeader header)) := .of_link rfl
  have hjudged := hchannel.trans (State.raiseIf_bitsStay _ ((s.channel src).judgeEvent header) causeSourceEvent)
  generalize State.raiseIf _ ((s.channel src).judgeEvent header) causeSourceEvent = t at hjudged ⊢
  refine .ite (.ite hjudged.then (State.bitsStay.trans ?_ (State.sourceAdvance_bitsStay _))) hjudged.then
  exact hjudged.then rfl

/-! ## The ring processor -/

theorem State.commitWith_bitsStay (s : State) (n : Word) (found : List (Nat × Nat)) : s.bitsStay (s.commitWith n found) := by
  have hissued (r : Ring) (ts : List Transfer) : s.bitsStay ((s.withRing r).issue (.control ringProcessor) ts) := .of_link
  exact (hissued _ _).trans (State.handItems_bitsStay _ _)

theorem State.commitGroup_bitsStay (s : State) (n : Word) : s.bitsStay (s.commitGroup n) :=
  s.clearWork_bitsStay.trans (State.commitWith_bitsStay _ _ _)

theorem State.takeLookEvent_bitsStay (s : State) (ev : LookCause) : s.bitsStay (s.takeLookEvent ev) := by
  have hlook (cause : LookCause) : s.bitsStay (s.lookIn cause) := .of_link
  cases ev with
  | frame n => exact .ite (s.commitGroup_bitsStay n) ((hlook _).trans (State.handItems_bitsStay _ _))
  | attend => exact hlook _
  | atOnce => exact hlook _

theorem State.takeKept_bitsStay (s : State) (ev : LookCause) (more : Bool) : s.bitsStay (s.takeKept ev more) := by
  have htakes := s.takeLookEvent_bitsStay ev
  cases ev with
  | frame n => exact (State.bitsStay.ite htakes.then htakes).trans (State.alarmsGoOn_bitsStay _ more)
  | attend => exact htakes
  | atOnce => exact htakes

theorem State.serveKept_bitsStay (evs : List LookCause) (s : State) : s.bitsStay (State.serveKept evs s) := by
  induction evs generalizing s with
  | nil => exact .of_link rfl
  | cons ev rest ih =>
    have hnone : s.bitsStay (s.withRing { s.ring with kept := [] }) := .of_link rfl
    have htakes := hnone.trans (State.takeKept_bitsStay _ ev (rest.any LookCause.isFrame))
    exact .ite (htakes.trans (ih _)) (htakes.then rfl)

theorem State.settleLooks_bitsStay (s : State) : s.bitsStay s.settleLooks := State.serveKept_bitsStay _ s

/-- A look or a slot that ends lets the processor take what it has kept. -/
theorem State.settledLooks_bitsStay (s : State) (r : Ring) : s.bitsStay (s.withRing r).settleLooks :=
  .trans (t := s.withRing r) (.of_link rfl) (State.settleLooks_bitsStay _)

theorem State.lookEvent_bitsStay (s : State) (ev : LookCause) : s.bitsStay (s.lookEvent ev) :=
  .ite (s.takeLookEvent_bitsStay ev) (.ite (.of_link rfl) .of_link)

theorem State.abortGroup_bitsStay (s : State) (extra : List Held) (code detail : Nat) (skip : Bool) :
    s.bitsStay (s.abortGroup extra code detail skip) := by
  have hreturns (r : Ring) (ts : List Transfer) : s.bitsStay ((s.withRing r).issue (.control ringProcessor) ts) :=
    .of_link rfl
  exact (hreturns _ _).trans (State.settleLooks_bitsStay _)

theorem State.completeGroup_bitsStay (s : State) : s.bitsStay s.completeGroup := by
  have hwaits (t : State) (ht : t.link = s.link) : s.bitsStay (if s.ring.edits then t.startBuild .group else t) :=
    .ite (.of_link ht) (.of_link ht)
  exact (hwaits (s.withRing { s.ring with state := .awaitingCommit }) rfl).trans (State.settleLooks_bitsStay _)

theorem State.takeSlot_bitsStay (s : State) (slot : List Byte) (check : Ring → Verdict) :
    s.bitsStay (s.takeSlot slot check) := by
  have hring (r : Ring) : s.bitsStay (s.withRing r) := .of_link rfl
  unfold State.takeSlot
  dsimp only
  split
  · exact (hring _).trans (State.abortGroup_bitsStay _ _ _ _ _)
  · split
    · exact (hring _).trans (State.abortGroup_bitsStay _ _ _ _ _)
    · exact .ite ((hring _).then (State.lookAtOnce_link _)) ((hring _).trans (State.completeGroup_bitsStay _))

theorem State.takeKind_bitsStay (s : State) (kind : Nat) (check : List Byte → Ring → Verdict) :
    s.bitsStay (s.takeKind kind check) := by
  unfold State.takeKind
  split
  · exact s.takeSlot_bitsStay _ _
  · exact .of_link rfl

theorem State.endReturn_bitsStay (s : State) (state : RingState) : s.bitsStay (s.endReturn state) := by
  have hring (r : Ring) : s.bitsStay (s.withRing r) := .of_link rfl
  exact ((hring _).trans (State.raise_bitsStay _ causeGroupDone)).then (State.lookAtOnce_link _)

theorem State.failBuild_bitsStay (s : State) (k : Fin 16) (code : Nat) : s.bitsStay (s.failBuild k code) := by
  have hidle (b : Builder) : s.bitsStay (s.withBuilder b) := .of_link rfl
  have habort := (hidle { s.builder with state := .idle, shadow := none, failed := satInc s.builder.failed }).trans
    (State.abortGroup_bitsStay _ [] resTooComplex (k.val + 256 * code) false)
  exact .ite habort habort.then

/-! ## The wall frame start and the millisecond interval -/

theorem State.swap_bitsStay (s : State) : s.bitsStay s.swap := by
  refine .of_reason s.swap_causesStay ?_
  unfold State.swap
  split
  · rfl
  · simp only [State.raiseIf_resetReason]
    split <;> rfl

theorem State.blocksTakeFrame_bitsStay (s : State) (lastTile : Bool) : s.bitsStay (s.blocksTakeFrame lastTile) := by
  have hlate : s.bitsStay (if lastTile then s.swap.completeLate else s.swap) :=
    .ite s.swap_bitsStay.then s.swap_bitsStay
  exact hlate.then (by simp [State.blocksTakeFrame])

theorem State.frameAlone_bitsStay (s : State) (setFirst lastTile : Bool) : s.bitsStay (s.frameAlone setFirst lastTile) := by
  have hbegun : s.bitsStay s.frameBegun := .of_link rfl
  have hblocks := hbegun.trans (State.blocksTakeFrame_bitsStay s.frameBegun lastTile)
  have hclears := (hbegun.trans (State.clearWork_bitsStay _)).trans (State.blocksTakeFrame_bitsStay _ lastTile)
  exact .ite (hblocks.trans (State.commitGroup_bitsStay _ _))
    (.ite (hclears.trans (State.commitWith_bitsStay _ _ _)) (hblocks.trans (State.lookEvent_bitsStay _ _)))

theorem State.frameChangeAfter_bitsStay (s : State) (high : Groups) (lastTile : Bool) :
    s.bitsStay (s.frameChangeAfter high lastTile) := by
  have hmoved : s.bitsStay ((s.withAlarms (sampledAll s.alarms high)).raiseIf (someSettles s.alarms high) causeAlarmEvent) :=
    .trans (t := s.withAlarms (sampledAll s.alarms high)) (.of_link rfl) (State.raiseIf_bitsStay _ _ _)
  have hframe := hmoved.trans (State.frameAlone_bitsStay _ false lastTile)
  exact .ite hframe hframe.then

theorem State.frameChangeBefore_bitsStay (s : State) (high : Groups) (lastTile : Bool) :
    s.bitsStay (s.frameChangeBefore high lastTile) := by
  have hcleared : s.bitsStay (if s.awaitsFrame then s.clearWork else (s, [])).1 := by
    split
    · exact s.clearWork_bitsStay
    · exact .of_link rfl
  unfold State.frameChangeBefore
  dsimp only
  generalize (if s.awaitsFrame then s.clearWork else (s, [])) = cleared at hcleared ⊢
  have hsampled := hcleared.trans (cleared.1.sampleContacts_bitsStay high)
  generalize cleared.1.sampleContacts high = sampled at hsampled ⊢
  have hframe : s.bitsStay ((sampled.withFrameNo (s.frameNo + 1)).pushFrame) := hsampled.then rfl
  generalize (sampled.withFrameNo (s.frameNo + 1)).pushFrame = begun at hframe ⊢
  have hblocks := hframe.trans (State.blocksTakeFrame_bitsStay begun lastTile)
  generalize begun.blocksTakeFrame lastTile = taken at hblocks ⊢
  have hshown := hblocks.then (State.withAlarms_link taken cleared.1.alarms)
  refine .ite ((s.frameAlone_bitsStay true lastTile).trans (State.alarmTakes_bitsStay _ _))
    (State.bitsStay.then ?_ (State.withAlarms_link _ _))
  exact .ite (hshown.trans (State.commitWith_bitsStay _ _ _)) (hshown.trans (State.lookEvent_bitsStay _ _))

theorem State.unitsTick_bitsStay (s : State) (sources : Bool) (inputs : BitVec 16) :
    s.bitsStay (s.unitsTick sources inputs) :=
  .of_causesSet (congrArg State.link (s.unitsTick_eq sources inputs))

theorem State.takeFrame_bitsStay (s : State) (order : FrameOrder) : s.bitsStay (s.takeFrame order) := by
  unfold State.takeFrame
  split
  · exact s.frameAlone_bitsStay _ _
  · rename_i x _
    have hticked := s.unitsTick_bitsStay x.sourcesFirst x.inputsFirst
    generalize s.unitsTick x.sourcesFirst x.inputsFirst = u at hticked ⊢
    have hboth : u.bitsStay (u.frameAndInterval order x) :=
      .ite
        (.ite ((u.alarmTakes_bitsStay _).trans (State.frameAlone_bitsStay _ _ _)) (u.frameChangeAfter_bitsStay _ _))
        (.ite (u.frameChangeBefore_bitsStay _ _)
          ((u.frameAlone_bitsStay _ _).trans (State.alarmTakes_bitsStay _ _)))
    exact (hticked.trans hboth).trans (State.unitsTick_bitsStay _ _ _)

/-! ## The tile engines, the capture inputs and the grant -/

theorem State.lineStart_bitsStay (s : State) (k : Fin 16) : s.bitsStay (s.lineStart k) := by
  unfold State.lineStart
  dsimp only
  split
  · split
    · exact .of_link rfl
    · exact .ite .of_link (.trans .of_link (State.raise_bitsStay _ causeLateLine))
  · exact .of_link rfl

theorem State.frameStartMark_bitsStay (s : State) (c : Fin 16) : s.bitsStay (s.frameStartMark c) :=
  (State.bitsStay.trans (.ite .of_link .of_link) (State.raiseIf_bitsStay _ _ causeSourceEvent)).then
    (State.captureIssue_link _ _)

theorem State.controlRead_bitsStay (s : State) (k : Fin 5) (x : Transfer) (bytes : List Byte) :
    s.bitsStay (s.controlRead k x bytes) := by
  unfold State.controlRead
  split
  · exact .of_bits rfl rfl
  · split
    · exact .of_link
    · split
      · exact .of_link
      · split
        · exact .of_link
        · exact .of_link rfl

theorem State.respond_bitsStay (s : State) (r : Requester) (x : Transfer) (bytes : List Byte) :
    s.bitsStay (s.respond r x bytes) := by
  unfold State.respond
  split
  · exact .of_link
  · exact .of_link
  · split
    · exact s.controlRead_bitsStay _ _ _
    · exact .of_link rfl
    · exact .of_link rfl

theorem State.grant_bitsStay (s : State) (r : Requester) : s.bitsStay (s.grant r) := by
  unfold State.grant
  split
  · exact .of_link rfl
  · refine State.bitsStay.trans ?_ (State.respond_bitsStay _ _ _ _)
    exact .of_link rfl

/-! ## Every command -/

/-- The commands that may clear a bit: the writes to CAUSE and to RESET_REASON and the two resets. -/
def clearsBits : Instr → Bool
  | .powerOnReset _ | .resetPin _ | .causeClear _ | .resetReasonClear _ => true
  | _ => false

/-- No other command clears a cause bit or a reset-reason bit. -/
theorem exec_bitsStay (c : Instr) (hc : clearsBits c = false) (s : State) : answers s.bitsStay (exec c s) := by
  have idle : answers s.bitsStay (.next s) := .next (.of_link rfl)
  cases c with
  | powerOnReset _ | resetPin _ | causeClear _ | resetReasonClear _ => cases hc
  | pcieLinkReset lost =>
    refine .next ⟨fun _ => id, fun i hi => ?_⟩
    show (s.link.resetReason ||| reasonLink).getLsbD i = true
    rw [BitVec.getLsbD_or, hi, Bool.true_or]
  | causeEnableWrite w => exact .next (.of_bits rfl rfl)
  | areaBaseWrite w => exact .nextIte (.of_bits rfl rfl) (s.raise_bitsStay _)
  | loadEnd =>
    rcases exec_loadEnd_cases s with h | ⟨-, h | ⟨code, index, h⟩⟩ <;> rw [h]
    · exact idle
    · exact .next (.trans (.of_link rfl) (State.raise_bitsStay _ causeLoadDone))
    · exact .next (.trans (.of_link rfl) (State.raise_bitsStay _ causeLoadFault))
  | wallFrameStart order => exact .nextIte (s.takeFrame_bitsStay order) (.of_link rfl)
  | load start => exact .ite (.next (.of_link (s.takeLoad_link start))) (.next (s.raise_bitsStay _))
  | start => exact .ite (.next (.of_link rfl)) (.next (s.raise_bitsStay _))
  | heldStart => exact .ite (.next (.of_link rfl)) idle
  | stop _ _ | ignoredRegisterWrite _ _ => exact .next (.of_link rfl)
  | attend w => exact .nextIte (s.lookEvent_bitsStay _) (s.raise_bitsStay _)
  | bar2Access op =>
    cases op with
    | read addr len => exact .ite (.fault _) (.next (.of_link rfl))
    | write addr data => exact .ite (.fault _) (.next (.of_link rfl))
  | transferGrant =>
    rw [exec_transferGrant]
    cases s.port.choose with
    | none => exact idle
    | some r => exact .next (s.grant_bitsStay r)
  | tileBuilt =>
    rcases exec_tileBuilt_cases s with h | ⟨kind, shadow, k, table, h⟩ | ⟨k, code, h⟩ <;> rw [h]
    · exact idle
    · exact .next .of_link
    · exact .next (s.failBuild_bitsStay k code)
  | millisecondInterval high =>
    exact .ite (.next ((s.alarmTakes_bitsStay _).trans (State.unitsTick_bitsStay _ _ _))) idle
  | debouncedAssert _ | debouncedRelease _ => exact .nextIte (s.alarmTakes_bitsStay _) (.of_link rfl)
  | lossOfSignal c => exact .ite (.next (.trans (.of_link rfl) (State.raise_bitsStay _ causeSourceEvent))) idle
  | staleLimitReached src | expiry src =>
    exact .ite (.next (.trans (.of_link rfl) (State.raise_bitsStay _ causeSourceEvent))) idle
  | lineStart k => exact .next (s.lineStart_bitsStay k)
  | rowComposed k => exact .next .of_link
  | frameStartMark c | captureLock c | congestionHalved c | congestionNormal c =>
    exact .ite (.next (s.frameStartMark_bitsStay c)) idle
  | lineStartMark c => exact .ite (.next .of_link) idle
  | pixel c p => exact .ite (.next .of_link) idle
  | goodFrameReport c => exact .ite (.next (.of_link rfl)) idle
  | capturePublication c =>
    show answers _ (execCapturePublication c s)
    unfold execCapturePublication
    split
    · exact .nextIte .of_link (.of_link rfl)
    · exact idle
  | memoryHeaderRead m =>
    show answers _ (execMemoryHeaderRead m s)
    unfold execMemoryHeaderRead
    split
    · exact .next (s.headerJudged_bitsStay _ _)
    · exact idle
  | takeScene =>
    show answers _ (execTakeScene s)
    unfold execTakeScene
    split
    · exact .nextIte (s.takeSlot_bitsStay _ _) (.of_link rfl)
    · exact .nextIte (.of_link rfl) (s.takeKind_bitsStay _ _)
    all_goals exact idle
  | badKind =>
    show answers _ (execBadKind s)
    unfold execBadKind
    split
    · exact .nextIte (s.takeSlot_bitsStay _ _) (.of_link rfl)
    all_goals exact idle
  | nop | putWindow | removeWindow | restack | saveScene | freeze | clearAlarm | sourceConfig | clearWall =>
    exact .next (s.takeKind_bitsStay _ _)
  | slotNotPosted =>
    show answers _ (execSlotNotPosted s)
    unfold execSlotNotPosted
    split
    · exact idle
    · exact .ite (.next (.of_link rfl)) (.next (s.settledLooks_bitsStay _))
  | chainTimeout => exact .ite (.next (s.abortGroup_bitsStay _ _ _ _)) idle
  | skipTimeout => exact .ite (.next (s.settledLooks_bitsStay _)) idle
  | skippedSlot =>
    show answers _ (execSkippedSlot s)
    unfold execSkippedSlot
    split
    · exact idle
    · exact .next (.then (.trans (.of_link rfl) (State.raise_bitsStay _ causeGroupDone)) (State.lookAtOnce_link _))
  | writeBackDone =>
    show answers _ (execWriteBackDone s)
    unfold execWriteBackDone
    split
    · exact .nextIte (s.endReturn_bitsStay _) (.of_link rfl)
    · exact idle
  | abortReturnDone =>
    show answers _ (execAbortReturnDone s)
    unfold execAbortReturnDone
    split
    · exact idle
    · exact .nextIte (s.endReturn_bitsStay _) (.of_link rfl)

/-- Settles O11: the two writes clear the bits that they write as 1, and but for the resets no other command clears any. -/
theorem causesStayUntilCleared : Obligations.CausesStayUntilCleared := by
  intro c s t h hpower
  by_cases hc : clearsBits c = false
  · obtain ⟨hcauses, hreasons⟩ := exec_bitsStay c hc s t h
    exact ⟨fun i _ hi _ => .inl (hcauses i hi), fun i _ hi => .inl (hreasons i hi)⟩
  cases c with
  | powerOnReset dram => exact absurd rfl (hpower dram)
  | resetPin cut =>
    cases (exec_resetPin cut s).symm.trans h
    refine ⟨fun _ _ _ hpin => absurd rfl (hpin cut), fun i _ hi => .inl ?_⟩
    show (s.link.resetReason ||| 2).getLsbD i = true
    rw [BitVec.getLsbD_or, hi, Bool.true_or]
  | causeClear w =>
    cases (exec_causeClear w s).symm.trans h
    refine ⟨fun i hi hset _ => ?_, fun _ _ => .inl⟩
    by_cases hw : w.data.getLsbD i = true ∧ w.bytes.getLsbD 0 = true
    · exact .inr ⟨w, rfl, hw⟩
    · refine .inl ?_
      show (s.link.cause &&& ~~~(if w.bytes.getLsbD 0 then w.data.setWidth 8 else 0)).getLsbD i = true
      rw [BitVec.getLsbD_and, BitVec.getLsbD_not, hset, Bool.true_and, decide_eq_true hi, Bool.true_and, Bool.not_eq_true']
      split
      · rename_i hb
        rw [BitVec.getLsbD_setWidth, Bool.eq_false_iff.mpr fun hd => hw ⟨hd, hb⟩, Bool.and_false]
      · exact BitVec.getLsbD_zero
  | resetReasonClear w =>
    cases (exec_resetReasonClear w s).symm.trans h
    refine ⟨fun _ _ hset _ => .inl hset, fun i hi hset => ?_⟩
    by_cases hw : w.data.getLsbD i = true ∧ w.bytes.getLsbD 0 = true
    · exact .inr ⟨w, rfl, hw⟩
    · refine .inl ((resetReason_cleared_getLsbD _ w hi).trans ?_)
      rw [show i / 8 = 0 by omega]
      rw [hset, Bool.true_and, Bool.not_eq_true', Bool.eq_false_iff]
      exact fun hboth => hw (Bool.and_eq_true _ _ ▸ hboth)
  | _ => exact absurd rfl hc

end Sys2Proof.Machine
end

section
-- One declaration after another: checked side by side, the text needs more threads than the check's memory limit allows.
set_option Elab.async false
/-! The writes of an area and of the status page, and the fields of a page that has been written (O22). -/

namespace Sys2Proof.Machine

open Sys2Proof

/-! ## Writing an area piece by piece -/

namespace Memory

theorem writeBytes_append (m : Memory) (a : Nat) (xs ys : List Byte) :
    m.writeBytes a (xs ++ ys) = (m.writeBytes a xs).writeBytes (a + xs.length) ys := by
  induction xs generalizing m a with
  | nil => rfl
  | cons x xs ih => rw [List.cons_append, writeBytes, ih, writeBytes, List.length_cons, Nat.add_right_comm, ← Nat.add_assoc]

/-- Bytes written inside frame memory are read back whole. -/
theorem writeBytes_readBytes {m : Memory} (h : m.wf = true) (a : Nat) (bs : List Byte)
    (hend : a + bs.length ≤ Config.memSize) : (m.writeBytes a bs).readBytes a bs.length = bs :=
  List.ext_getElem (readBytes_length _ _ _) fun k _ hk => by
    rw [readBytes_get _ _ _ hk, writeBytes_read h a bs hend hk]

end Memory

/-- Writing the pieces of an area in order writes the area. -/
theorem pieces_write (m : Memory) (base : Nat) (data : List Byte) (fuel a len : Nat)
    (hfuel : len = 0 ∨ len + a % 256 ≤ 256 * fuel) (hbase : base ≤ a) (hdata : a - base + len ≤ data.length) :
    (pieces fuel a len).foldl (fun k p => k.writeBytes p.1 ((data.drop (p.1 - base)).take p.2)) m =
      m.writeBytes a ((data.drop (a - base)).take len) := by
  induction fuel generalizing m a len with
  | zero =>
    obtain rfl : len = 0 := by omega
    rfl
  | succ fuel ih =>
    simp only [pieces, Config.blockSize]
    split
    · rename_i hlen
      rw [hlen]
      rfl
    · have hk : min len (256 - a % 256) ≤ len := Nat.min_le_left _ _
      generalize hsize : min len (256 - a % 256) = k at hk ⊢
      have hlen : ((data.drop (a - base)).take k).length = k := by
        rw [List.length_take, List.length_drop]
        omega
      have hnext := ih (m.writeBytes a ((data.drop (a - base)).take k)) (a + k) (len - k) (by omega) (by omega) (by omega)
      have hrest : a + k - base = a - base + k := by omega
      rw [List.foldl_cons, hnext, hrest, ← List.drop_drop]
      nth_rw 2 [← hlen]
      rw [← Memory.writeBytes_append, ← List.take_add, Nat.add_sub_cancel' hk]

theorem writeTransfers_applied (m : Memory) (a : Nat) (data : List Byte) (tag : Nat) :
    (writeTransfers a data tag).foldl (fun k x => x.applied k) m = m.writeBytes a data := by
  have h := pieces_write m a data (data.length / 256 + 2) a data.length (by omega) (Nat.le_refl a) (by omega)
  rw [Nat.sub_self, List.drop_zero, List.take_length] at h
  rw [← h, writeTransfers, List.foldl_map]
  rfl

/-- The writes of an area of whole words cover it. -/
theorem writeTransfers_cover {a : Nat} {data : List Byte} (ha : a % 4 = 0) (hl : data.length % 4 = 0) :
    coversArea (writeTransfers a data 0) a data.length := by
  have hsize (p : Nat × Nat) (hp : p ∈ areaPieces a data.length) :
      ((data.drop (p.1 - a)).take p.2).length = p.2 := by
    obtain ⟨-, -, hlo, hhi⟩ := pieces_within hp
    rw [List.length_take, List.length_drop]
    omega
  constructor
  · rintro x hx
    obtain ⟨p, hp, rfl⟩ := List.mem_map.mp hx
    obtain ⟨hpos, hblock, -, -⟩ := pieces_within hp
    obtain ⟨-, hword⟩ := pieces_words ha hl hp
    simp only [Transfer.addresses, List.length_map, List.length_range, hsize p hp]
    omega
  · rw [← List.range'_eq_map_range, ← areaPieces_cover, writeTransfers, List.flatMap_map]
    refine List.flatMap_congr fun p hp => ?_
    simp only [Transfer.addresses, hsize p hp, List.range'_eq_map_range]

/-! ## The fields of a record put together from parts -/

@[simp] theorem leBytes_length (n v : Nat) : (leBytes n v).length = n := by
  induction n generalizing v with
  | zero => rfl
  | succ n ih => rw [leBytes, List.length_cons, ih]

@[simp] theorem zeros_length (n : Nat) : (zeros n).length = n := List.length_replicate

/-- A little-endian field holds its value modulo its size. -/
theorem leValue_leBytes (n v : Nat) : leValue (leBytes n v) = v % 256 ^ n := by
  induction n generalizing v with
  | zero => rw [Nat.pow_zero, Nat.mod_one]; rfl
  | succ n ih =>
    have hsplit := Nat.mod_mul (a := 256) (b := 256 ^ n) (x := v)
    rw [leBytes, leValue, ih, BitVec.toNat_ofNat]
    exact hsplit.symm.trans (congrArg (v % ·) Nat.pow_succ'.symm)

theorem field_leBytes_head (n v : Nat) (bs : List Byte) : field (leBytes n v ++ bs) 0 n = v % 256 ^ n := by
  rw [field, List.drop_zero, List.take_append_of_le_length (leBytes_length n v).ge,
    List.take_of_length_le (leBytes_length n v).le, leValue_leBytes]

theorem field_append_skip {xs : List Byte} (ys : List Byte) {off : Nat} (n : Nat) (h : xs.length ≤ off) :
    field (xs ++ ys) off n = field ys (off - xs.length) n := by
  rw [field, List.drop_append, List.drop_of_length_le h, List.nil_append, field]

theorem getD_append_skip {xs : List Byte} (ys : List Byte) {off : Nat} (h : xs.length ≤ off) :
    (xs ++ ys).getD off 0 = ys.getD (off - xs.length) 0 := List.getD_append_right _ _ _ _ h

@[simp] theorem zeros_getD (n off : Nat) : (zeros n).getD off 0 = 0 := by
  rw [zeros, List.getD_eq_getElem?_getD, List.getElem?_replicate]
  split <;> rfl

theorem field_append_left {xs : List Byte} (ys : List Byte) {off n : Nat} (h : off + n ≤ xs.length) :
    field (xs ++ ys) off n = field xs off n := by
  rw [field, List.drop_append_of_le_length (by omega), List.take_append_of_le_length (by rw [List.length_drop]; omega), field]

/-- A record holds given bytes at an offset. -/
def holdsAt (bs : List Byte) (off : Nat) (part : List Byte) : Prop :=
  ∃ before after, bs = before ++ (part ++ after) ∧ before.length = off

theorem holdsAt.field {bs part : List Byte} {o : Nat} (h : holdsAt bs o part) (off : Nat) {n : Nat}
    (hn : off + n ≤ part.length) : field bs (o + off) n = field part off n := by
  obtain ⟨before, after, rfl, rfl⟩ := h
  rw [field_append_skip _ _ (Nat.le_add_right _ _), Nat.add_sub_cancel_left, field_append_left _ hn]

theorem holdsAt.getD {bs part : List Byte} {o : Nat} (h : holdsAt bs o part) {off : Nat} (hn : off < part.length) :
    bs.getD (o + off) 0 = part.getD off 0 := by
  obtain ⟨before, after, rfl, rfl⟩ := h
  rw [getD_append_skip _ (Nat.le_add_right _ _), Nat.add_sub_cancel_left, List.getD_append _ _ _ _ hn]

/-- The last part of a record. -/
theorem holdsAt_last {before part : List Byte} {o : Nat} (h : before.length = o) : holdsAt (before ++ part) o part :=
  ⟨before, [], by rw [List.append_nil], h⟩

/-- A record that goes on after a part of it. -/
theorem holdsAt.goesOn {bs part : List Byte} {o : Nat} (h : holdsAt bs o part) (more : List Byte) :
    holdsAt (bs ++ more) o part := by
  obtain ⟨before, after, rfl, rfl⟩ := h
  exact ⟨before, after ++ more, by simp, rfl⟩

/-- A part of a part. -/
theorem holdsAt.part {bs part inner : List Byte} {o i : Nat} (h : holdsAt bs o part) (hi : holdsAt part i inner) :
    holdsAt bs (o + i) inner := by
  obtain ⟨before, after, rfl, rfl⟩ := h
  obtain ⟨first, last, rfl, rfl⟩ := hi
  exact ⟨before ++ first, last ++ after, by simp, List.length_append⟩

theorem flatMap_length {α : Type} {size : Nat} (xs : List α) (f : α → List Byte) (hf : ∀ x, (f x).length = size) :
    (xs.flatMap f).length = size * xs.length := by
  simp [List.length_flatMap, hf, Nat.mul_comm]

/-- Entries of one size, one after another. -/
theorem holdsAt_entries {α : Type} {n size : Nat} (v : Vector α n) (f : α → List Byte) (hf : ∀ x, (f x).length = size)
    (i : Fin n) : holdsAt (v.toList.flatMap f) (size * i.val) (f v[i]) := by
  have hi : i.val < v.toList.length := by simp
  have hsplit : v.toList = v.toList.take i.val ++ v[i] :: v.toList.drop (i.val + 1) := by
    simpa using (List.take_append_drop i.val v.toList).symm.trans (congrArg _ (List.drop_eq_getElem_cons hi))
  refine ⟨(v.toList.take i.val).flatMap f, (v.toList.drop (i.val + 1)).flatMap f, ?_, ?_⟩
  · rw [← List.flatMap_cons, ← List.flatMap_append, ← hsplit]
  · rw [flatMap_length _ f hf, List.length_take, Nat.min_eq_left hi.le]

/-- Where a record holds zeros, every byte is 0. -/
theorem holdsAt.zero {bs : List Byte} {o n : Nat} (h : holdsAt bs o (zeros n)) (off : Nat) (hlo : o ≤ off)
    (hhi : off < o + n) : bs.getD off 0 = 0 := by
  obtain ⟨k, rfl⟩ := Nat.exists_eq_add_of_le hlo
  rw [h.getD (by rw [zeros_length]; omega), zeros_getD]

/-! ## The entries of a page (R201) -/

theorem tileEntryBytes_length (e : TileEntry) : (tileEntryBytes e).length = 16 := by
  unfold tileEntryBytes
  split <;> simp

theorem sourceEntryBytes_length (e : SourceEntry) : (sourceEntryBytes e).length = 48 := by simp [sourceEntryBytes]

theorem alarmEntryBytes_length (e : AlarmState × Bool) : (alarmEntryBytes e).length = 4 := by simp [alarmEntryBytes]

theorem pageHeaderBytes_length (c : StatusCopy) : (pageHeaderBytes c).length = 60 := by simp [pageHeaderBytes]

theorem tiles_length (c : StatusCopy) : (c.tiles.toList.flatMap tileEntryBytes).length = 256 := by
  rw [flatMap_length _ _ tileEntryBytes_length, Vector.length_toList]

theorem sources_length (c : StatusCopy) : (c.sources.toList.flatMap sourceEntryBytes).length = 1536 := by
  rw [flatMap_length _ _ sourceEntryBytes_length, Vector.length_toList]

theorem alarms_length (c : StatusCopy) : (c.alarms.toList.flatMap alarmEntryBytes).length = 32 := by
  rw [flatMap_length _ _ alarmEntryBytes_length, Vector.length_toList]

@[simp] theorem pageBody_length (c : StatusCopy) : (pageBody c).length = 4088 := by
  simp only [pageBody, List.length_append, pageHeaderBytes_length, tiles_length, sources_length, alarms_length, zeros_length]

/-- The tile entry of an enabled tile holds its fields. -/
theorem tileEntryBytes_fields {e : TileEntry} (h : e.enabled = true) :
    field (tileEntryBytes e) 0 4 = e.late.toNat ∧ field (tileEntryBytes e) 4 2 = e.bands % 65536 ∧
      field (tileEntryBytes e) 6 2 = e.spans % 65536 ∧ field (tileEntryBytes e) 8 1 = 1 + 2 * markCode e.mark ∧
      holdsAt (tileEntryBytes e) 9 (zeros 7) := by
  have hlate : e.late.toNat < 4294967296 := e.late.isLt
  have hmark : markCode e.mark ≤ 2 := by cases e.mark <;> decide
  have hsize : 1 + 2 * markCode e.mark < 256 := by omega
  simp only [tileEntryBytes, if_pos h]
  refine ⟨?_, ?_, ?_, ?_, holdsAt_last (by simp)⟩
  all_goals
    simp only [List.append_assoc, field_append_skip, field_leBytes_head, leBytes_length, Nat.reduceLeDiff, Nat.reduceSub,
      Nat.reducePow, Nat.mod_eq_of_lt hlate, Nat.mod_eq_of_lt hsize]

theorem flagByte_le (b : Bool) : flagByte b ≤ 1 := by cases b <;> decide

theorem slotIndexCode_lt (i : Option (Fin 3)) : slotIndexCode i < 256 := by
  cases i with
  | none => decide
  | some k =>
    show k.val < 256
    omega

/-- The source entry holds the state of its source. -/
theorem sourceEntryBytes_states (e : SourceEntry) :
    field (sourceEntryBytes e) 0 1 = captureCode e.capture ∧ field (sourceEntryBytes e) 1 1 = flagByte e.halved ∧
      field (sourceEntryBytes e) 2 1 = flagByte e.oversizeFlag ∧
      field (sourceEntryBytes e) 3 1 = presentationCode e.presentation ∧
      field (sourceEntryBytes e) 4 1 = flagByte e.frozen := by
  have hcapture : captureCode e.capture ≤ 2 := by cases e.capture <;> decide
  have hpresentation : presentationCode e.presentation ≤ 2 := by cases e.presentation <;> decide
  have hhalved := flagByte_le e.halved
  have hoversize := flagByte_le e.oversizeFlag
  have hfrozen := flagByte_le e.frozen
  simp only [sourceEntryBytes, List.append_assoc, field_append_skip, field_leBytes_head, leBytes_length, Nat.reduceLeDiff,
    Nat.reduceSub, Nat.reducePow]
  omega

/-- The source entry holds the slots of its roles, the size, the tag and the age. -/
theorem sourceEntryBytes_slots (e : SourceEntry) :
    field (sourceEntryBytes e) 5 1 = slotIndexCode e.shown ∧ field (sourceEntryBytes e) 6 1 = slotIndexCode e.ready ∧
      field (sourceEntryBytes e) 7 1 = slotIndexCode e.filling ∧ field (sourceEntryBytes e) 8 2 = e.width % 65536 ∧
      field (sourceEntryBytes e) 10 2 = e.height % 65536 ∧ field (sourceEntryBytes e) 12 2 = e.expected.toNat ∧
      field (sourceEntryBytes e) 14 2 = e.age % 65536 := by
  have hexpected : e.expected.toNat < 65536 := e.expected.isLt
  simp only [sourceEntryBytes, List.append_assoc, field_append_skip, field_leBytes_head, leBytes_length, Nat.reduceLeDiff,
    Nat.reduceSub, Nat.reducePow, Nat.mod_eq_of_lt (slotIndexCode_lt _), Nat.mod_eq_of_lt hexpected, and_self]

theorem getD_singleton_append (b : Byte) (bs : List Byte) : ([b] ++ bs).getD 0 0 = b := rfl

theorem word_mod (w : Word) : w.toNat % 4294967296 = w.toNat := Nat.mod_eq_of_lt w.isLt

/-- The source entry holds the counters of its source, and zeros after them. -/
theorem sourceEntryBytes_counters (e : SourceEntry) :
    field (sourceEntryBytes e) 16 4 = e.published.toNat ∧ field (sourceEntryBytes e) 20 4 = e.superseded.toNat ∧
      field (sourceEntryBytes e) 24 4 = e.torn.toNat ∧ field (sourceEntryBytes e) 28 4 = e.oversize.toNat ∧
      field (sourceEntryBytes e) 32 4 = e.badFrame.toNat ∧ field (sourceEntryBytes e) 36 4 = e.expired.toNat ∧
      holdsAt (sourceEntryBytes e) 40 (zeros 8) := by
  refine ⟨?_, ?_, ?_, ?_, ?_, ?_, holdsAt_last (by simp)⟩
  all_goals
    simp only [sourceEntryBytes, List.append_assoc, field_append_skip, field_leBytes_head, leBytes_length,
      Nat.reduceLeDiff, Nat.reduceSub, Nat.reducePow, word_mod]

/-- The alarm entry holds the state and the level of its input. -/
theorem alarmEntryBytes_fields (e : AlarmState × Bool) :
    field (alarmEntryBytes e) 0 1 = alarmCode e.1 ∧ field (alarmEntryBytes e) 1 1 = flagByte e.2 ∧
      holdsAt (alarmEntryBytes e) 2 (zeros 2) := by
  have hstate : alarmCode e.1 ≤ 3 := by cases e.1 <;> decide
  have hlevel := flagByte_le e.2
  refine ⟨?_, ?_, holdsAt_last (by simp)⟩
  all_goals
    simp only [alarmEntryBytes, List.append_assoc, field_append_skip, field_leBytes_head, leBytes_length, Nat.reduceLeDiff,
      Nat.reduceSub, Nat.reducePow]
    omega

/-- The header holds the states of the part and of the builder. -/
theorem pageHeaderBytes_states (c : StatusCopy) :
    field (pageHeaderBytes c) 0 1 = 3 ∧ field (pageHeaderBytes c) 1 1 = builderStateCode c.builder ∧
      field (pageHeaderBytes c) 2 1 = builderKindCode c.builder ∧ field (pageHeaderBytes c) 3 1 = 0 := by
  have hstate : builderStateCode c.builder < 256 := by
    rcases c.builder with _ | _ | _ <;> simp [builderStateCode]
  have hkind : builderKindCode c.builder < 256 := by
    rcases c.builder with _ | ⟨_ | _, _⟩ | (_ | _) <;> simp [builderKindCode]
  simp only [pageHeaderBytes, List.append_assoc, field_append_skip, field_leBytes_head, leBytes_length, Nat.reduceLeDiff,
    Nat.reduceSub, Nat.reducePow, Nat.reduceMod, Nat.mod_eq_of_lt hstate, Nat.mod_eq_of_lt hkind, and_self]

/-- The header holds NEXT, the groups and the counters of the builder, and zeros after them. -/
theorem pageHeaderBytes_fields (c : StatusCopy) :
    field (pageHeaderBytes c) 4 2 = c.next % 65536 ∧ (pageHeaderBytes c).getD 6 0 = c.raised ∧
      (pageHeaderBytes c).getD 7 0 = c.builtWith ∧ field (pageHeaderBytes c) 8 4 = c.built.toNat ∧
      field (pageHeaderBytes c) 12 4 = c.failed.toNat ∧ field (pageHeaderBytes c) 16 2 = c.fallback.toNat ∧
      field (pageHeaderBytes c) 18 2 = c.degraded.toNat ∧ holdsAt (pageHeaderBytes c) 20 (zeros 40) := by
  have hfallback : c.fallback.toNat < 65536 := c.fallback.isLt
  have hdegraded : c.degraded.toNat < 65536 := c.degraded.isLt
  refine ⟨?_, ?_, ?_, ?_, ?_, ?_, ?_, holdsAt_last (by simp)⟩
  all_goals
    simp only [pageHeaderBytes, List.append_assoc, field_append_skip, getD_append_skip, field_leBytes_head, leBytes_length,
      List.length_singleton, Nat.reduceLeDiff, Nat.reduceSub, Nat.reducePow, word_mod, Nat.mod_eq_of_lt hfallback,
      Nat.mod_eq_of_lt hdegraded, getD_singleton_append]

/-! ## The page (R201, R202) -/

/-- The 4096 bytes of a page: the wall frame number, the body, and the wall frame number again. -/
def pageBytes (c : StatusCopy) : List Byte := leBytes 4 c.number.toNat ++ (pageBody c ++ leBytes 4 c.number.toNat)

@[simp] theorem pageBytes_length (c : StatusCopy) : (pageBytes c).length = 4096 := by simp [pageBytes]

/-- Once all its writes have been carried out, the page stands in frame memory as it is. -/
theorem pageTransfers_applied (m : Memory) (base : Nat) (c : StatusCopy) :
    (pageTransfers base c).foldl (fun k x => x.applied k) m = m.writeBytes base (pageBytes c) := by
  have hbody : 4 + (pageBody c).length = 4092 := by rw [pageBody_length]
  rw [pageTransfers, List.foldl_append, List.foldl_append, writeTransfers_applied, pageBytes, Memory.writeBytes_append,
    Memory.writeBytes_append, leBytes_length, Nat.add_assoc, hbody]
  simp only [List.foldl_cons, List.foldl_nil, Transfer.applied]

/-- The page is written in the order of R191: its first word, the body in ascending order, its last word. -/
theorem pageTransfers_division {base : Nat} (c : StatusCopy) (hbase : base % 4096 = 0) :
    ∃ body, pageTransfers base c =
        ⟨base, .write (leBytes 4 c.number.toNat), 0⟩ :: body ++ [⟨base + 4092, .write (leBytes 4 c.number.toNat), 0⟩] ∧
      coversArea body (base + 4) 4088 := by
  have h := writeTransfers_cover (a := base + 4) (data := pageBody c) (by omega) (by rw [pageBody_length])
  rw [pageBody_length] at h
  exact ⟨writeTransfers (base + 4) (pageBody c) 0, by rw [pageTransfers, List.singleton_append], h⟩

theorem pageBytes_ends (c : StatusCopy) :
    (pageBytes c).take 4 = leBytes 4 c.number.toNat ∧ (pageBytes c).drop 4092 = leBytes 4 c.number.toNat := by
  have hfirst : (leBytes 4 c.number.toNat).length = 4 := leBytes_length _ _
  have hrest : (leBytes 4 c.number.toNat ++ pageBody c).length = 4092 := by simp
  exact ⟨List.take_left' hfirst, by rw [pageBytes, ← List.append_assoc]; exact List.drop_left' hrest⟩

theorem pageBytes_body (c : StatusCopy) : holdsAt (pageBytes c) 4 (pageBody c) := ⟨_, _, rfl, leBytes_length _ _⟩

theorem pageBytes_header (c : StatusCopy) : holdsAt (pageBytes c) 4 (pageHeaderBytes c) := by
  have hbank : holdsAt (pageBody c) 0 (pageHeaderBytes c) :=
    ((((holdsAt_last (before := []) rfl).goesOn _).goesOn _).goesOn _).goesOn _
  exact (pageBytes_body c).part hbank

theorem pageBytes_tile (c : StatusCopy) (t : Fin 16) :
    holdsAt (pageBytes c) (64 + 16 * t.val) (tileEntryBytes c.tiles[t]) := by
  have hbank : holdsAt (pageBody c) 60 (c.tiles.toList.flatMap tileEntryBytes) :=
    (((holdsAt_last (pageHeaderBytes_length c)).goesOn _).goesOn _).goesOn _
  exact ((pageBytes_body c).part hbank).part (holdsAt_entries _ _ tileEntryBytes_length t)

theorem pageBytes_source (c : StatusCopy) (src : Fin 32) :
    holdsAt (pageBytes c) (320 + 48 * src.val) (sourceEntryBytes c.sources[src]) := by
  have hbefore : (pageHeaderBytes c ++ c.tiles.toList.flatMap tileEntryBytes).length = 316 := by
    rw [List.length_append, pageHeaderBytes_length, tiles_length]
  have hbank : holdsAt (pageBody c) 316 (c.sources.toList.flatMap sourceEntryBytes) :=
    ((holdsAt_last hbefore).goesOn _).goesOn _
  exact ((pageBytes_body c).part hbank).part (holdsAt_entries _ _ sourceEntryBytes_length src)

theorem pageBytes_alarm (c : StatusCopy) (i : Fin 8) :
    holdsAt (pageBytes c) (1856 + 4 * i.val) (alarmEntryBytes c.alarms[i]) := by
  have hbefore : (pageHeaderBytes c ++ c.tiles.toList.flatMap tileEntryBytes ++
      c.sources.toList.flatMap sourceEntryBytes).length = 1852 := by
    rw [List.length_append, List.length_append, pageHeaderBytes_length, tiles_length, sources_length]
  have hbank : holdsAt (pageBody c) 1852 (c.alarms.toList.flatMap alarmEntryBytes) := (holdsAt_last hbefore).goesOn _
  exact ((pageBytes_body c).part hbank).part (holdsAt_entries _ _ alarmEntryBytes_length i)

theorem pageBytes_rest (c : StatusCopy) : holdsAt (pageBytes c) 1888 (zeros 2204) := by
  have hbefore : (pageHeaderBytes c ++ c.tiles.toList.flatMap tileEntryBytes ++
      c.sources.toList.flatMap sourceEntryBytes ++ c.alarms.toList.flatMap alarmEntryBytes).length = 1884 := by
    rw [List.length_append, List.length_append, List.length_append, pageHeaderBytes_length, tiles_length, sources_length,
      alarms_length]
  exact (pageBytes_body c).part (holdsAt_last hbefore)

/-- Settles O22: once its writes are carried out the page is the bytes of its copy, and each entry of them is found by its
place in the body. -/
theorem statusPageIsWrittenWhole : Obligations.StatusPageIsWrittenWhole := by
  intro m base c hwf hend num
  refine ⟨pageTransfers_division c, ?_⟩
  intro after page zero slot flag
  have hafter : after = m.writeBytes base (pageBytes c) := pageTransfers_applied m base c
  have hpage : page = pageBytes c := by
    have hread := Memory.writeBytes_readBytes hwf base (pageBytes c) (by rw [pageBytes_length]; exact hend)
    rwa [pageBytes_length, ← hafter] at hread
  have hother (a : Nat) (ha : a < base ∨ base + 4096 ≤ a) : after.read a = m.read a := by
    rw [hafter, Memory.writeBytes_read_other hwf base _ (by rwa [pageBytes_length])]
  clear_value page after
  subst hpage
  refine ⟨pageBytes_ends c, ?_, fun t => ?_, fun src => ?_, fun i => ?_, (pageBytes_rest c).zero, hother⟩
  · have hfield (off n : Nat) (h : off + n ≤ 60) := (pageBytes_header c).field off (h.trans (pageHeaderBytes_length c).ge)
    have hbyte (off : Nat) (h : off < 60) := (pageBytes_header c).getD (h.trans_le (pageHeaderBytes_length c).ge)
    obtain ⟨hpart, hstate, hkind, hnone⟩ := pageHeaderBytes_states c
    obtain ⟨hnext, hraised, hwith, hbuilt, hfailed, hfallback, hdegraded, hzero⟩ := pageHeaderBytes_fields c
    refine ⟨(hfield 0 1 (by decide)).trans hpart, (hfield 1 1 (by decide)).trans hstate,
      (hfield 2 1 (by decide)).trans (hkind.trans ?_), (hfield 3 1 (by decide)).trans hnone,
      (hfield 4 2 (by decide)).trans hnext, (hbyte 6 (by decide)).trans hraised,
      (hbyte 7 (by decide)).trans hwith, (hfield 8 4 (by decide)).trans hbuilt, (hfield 12 4 (by decide)).trans hfailed,
      (hfield 16 2 (by decide)).trans hfallback, (hfield 18 2 (by decide)).trans hdegraded,
      ((pageBytes_header c).part hzero).zero⟩
    rcases c.builder with _ | ⟨_ | _, _⟩ | (_ | _) <;> rfl
  · have hfield (off n : Nat) (h : off + n ≤ 16) := (pageBytes_tile c t).field off (h.trans (tileEntryBytes_length _).ge)
    intro o e
    split
    · rename_i hon
      obtain ⟨hlate, hbands, hspans, hmark, hzero⟩ := tileEntryBytes_fields hon
      exact ⟨(hfield 0 4 (by decide)).trans hlate, (hfield 4 2 (by decide)).trans hbands,
        (hfield 6 2 (by decide)).trans hspans, (hfield 8 1 (by decide)).trans hmark, ((pageBytes_tile c t).part hzero).zero⟩
    · rename_i hoff
      have hzeros := pageBytes_tile c t
      rw [tileEntryBytes, if_neg hoff] at hzeros
      exact hzeros.zero
  · have hfield (off n : Nat) (h : off + n ≤ 48) := (pageBytes_source c src).field off (h.trans (sourceEntryBytes_length _).ge)
    obtain ⟨hcapture, hhalved, hoversizeFlag, hpresentation, hfrozen⟩ := sourceEntryBytes_states c.sources[src]
    obtain ⟨hshown, hready, hfilling, hwidth, hheight, hexpected, hage⟩ := sourceEntryBytes_slots c.sources[src]
    obtain ⟨hpublished, hsuperseded, htorn, hoversize, hbad, hexpired, hzero⟩ := sourceEntryBytes_counters c.sources[src]
    exact ⟨⟨(hfield 0 1 (by decide)).trans hcapture, (hfield 1 1 (by decide)).trans hhalved,
        (hfield 2 1 (by decide)).trans hoversizeFlag, (hfield 3 1 (by decide)).trans hpresentation,
        (hfield 4 1 (by decide)).trans hfrozen⟩,
      ⟨(hfield 5 1 (by decide)).trans hshown, (hfield 6 1 (by decide)).trans hready, (hfield 7 1 (by decide)).trans hfilling,
        (hfield 8 2 (by decide)).trans hwidth, (hfield 10 2 (by decide)).trans hheight,
        (hfield 12 2 (by decide)).trans hexpected, (hfield 14 2 (by decide)).trans hage⟩,
      (hfield 16 4 (by decide)).trans hpublished, (hfield 20 4 (by decide)).trans hsuperseded,
      (hfield 24 4 (by decide)).trans htorn, (hfield 28 4 (by decide)).trans hoversize, (hfield 32 4 (by decide)).trans hbad,
      (hfield 36 4 (by decide)).trans hexpired, ((pageBytes_source c src).part hzero).zero⟩
  · have hfield (off n : Nat) (h : off + n ≤ 4) := (pageBytes_alarm c i).field off (h.trans (alarmEntryBytes_length _).ge)
    obtain ⟨hstate, hlevel, hzero⟩ := alarmEntryBytes_fields c.alarms[i]
    exact ⟨(hfield 0 1 (by decide)).trans hstate, (hfield 1 1 (by decide)).trans hlevel,
      ((pageBytes_alarm c i).part hzero).zero⟩

end Sys2Proof.Machine
end

section
-- One declaration after another: checked side by side, the text needs more threads than the check's memory limit allows.
set_option Elab.async false
/-! The status writer's copy of a wall frame start and its page (O57). -/

namespace Sys2Proof.Machine

open Sys2Proof

/-! ## The bits of a mask (R60) -/

/-- The sum of the powers of two at the places where a test holds. -/
def maskSum {n : Nat} (p : Fin n → Prop) [DecidablePred p] : Nat :=
  ((List.finRange n).map fun i => if p i then 2 ^ i.val else 0).sum

theorem maskSum_succ {n : Nat} (p : Fin (n + 1) → Prop) [DecidablePred p] :
    maskSum p = (if p 0 then 1 else 0) + 2 * maskSum fun i => p i.succ := by
  unfold maskSum
  rw [List.finRange_succ, List.map_cons, List.sum_cons, List.map_map, ← List.sum_map_mul_left]
  congr 3
  funext i
  simp only [Function.comp_apply, Fin.val_succ, Nat.pow_succ']
  split <;> rfl

/-- The bits of the sum are the places where the test holds. -/
theorem maskSum_testBit {n : Nat} (p : Fin n → Prop) [DecidablePred p] (k : Fin n) :
    (maskSum p).testBit k.val = decide (p k) := by
  induction n with
  | zero => exact k.elim0
  | succ n ih =>
    rw [maskSum_succ]
    cases k using Fin.cases with
    | zero =>
      rw [Fin.val_zero, Nat.testBit_zero]
      split <;> simp_all [Nat.add_mod]
    | succ k =>
      have hhalf : ((if p 0 then 1 else 0) + 2 * maskSum fun i => p i.succ) / 2 = maskSum fun i => p i.succ := by
        split <;> omega
      rw [Fin.val_succ, Nat.testBit_succ, hhalf, ih]

theorem State.markMask_getLsbD (s : State) (m : Mark) (k : Fin 16) :
    (s.markMask m).getLsbD k.val = true ↔ (s.tile k).enable = true ∧ s.activeMark k = m := by
  have hbit := maskSum_testBit (fun t : Fin 16 => (s.tile t).enable = true ∧ s.activeMark t = m) k
  rw [State.markMask, BitVec.getLsbD_ofNat]
  simp only [k.isLt, decide_true, Bool.true_and]
  exact (Bool.eq_iff_iff.mp hbit).trans decide_eq_true_iff

/-! ## What the blocks leave for the copy (R191) -/

theorem State.activeBands_congr {s t : State} (h : t.builder.active = s.builder.active) (k : Fin 16) :
    t.activeBands k = s.activeBands k := by
  simp only [State.activeBands, h]

theorem State.activeMark_congr {s t : State} (h : t.builder.active = s.builder.active) (k : Fin 16) :
    t.activeMark k = s.activeMark k := by
  simp only [State.activeMark, h]

/-- The copy of the tiles is that of the state's active bank, and of the engines of another. -/
def State.copiesTiles (s t : State) : Prop :=
  ∀ k : Fin 16,
    (t.status.fallback.getLsbD k.val = true ↔ (s.tile k).enable = true ∧ t.activeMark k = .fallback) ∧
      (t.status.degraded.getLsbD k.val = true ↔ (s.tile k).enable = true ∧ t.activeMark k = .degraded) ∧
      t.status.tiles[k] =
        if (s.tile k).enable then
          { late := (s.engines[k]).late, bands := (t.activeBands k).length
            spans := ((t.activeBands k).map fun b => b.spans.length).sum, enabled := true, mark := t.activeMark k }
        else ⟨0, 0, 0, false, .normal⟩

/-- The copy of the builder is that of the builder's active bank and counters. -/
def State.copiesBank (t : State) : Prop :=
  t.status.builtWith = t.builder.activeSet ∧ t.status.built = t.builder.built ∧ t.status.failed = t.builder.failed

theorem State.statusNewFrame_copiesTiles (s : State) : s.copiesTiles s.statusNewFrame := by
  intro k
  have htiles : s.statusNewFrame.status.tiles[k] = s.tileEntry k := by
    rw [State.statusNewFrame, State.withStatus_status]
    exact Vector.getElem_ofFn _
  refine ⟨s.markMask_getLsbD .fallback k, s.markMask_getLsbD .degraded k, htiles.trans ?_⟩
  rfl

theorem State.blocksTakeFrame_copies (s : State) (lastTile : Bool) :
    let v := s.blocksTakeFrame lastTile
    s.copiesTiles v ∧ v.copiesBank ∧ v.status.number = s.frameNo ∧ v.status.builder = v.builder.state := by
  obtain ⟨u, hu⟩ : ∃ u, u = if lastTile then s.swap.completeLate else s.swap := ⟨_, rfl⟩
  have hconfig : u.config = s.config := by
    rw [hu]
    split <;> simp
  have hengines : u.engines = s.engines := by
    rw [hu]
    split <;> simp
  have hno : u.frameNo = s.frameNo := by
    rw [hu]
    split <;> simp
  have hv : s.blocksTakeFrame lastTile = u.statusNewFrame.tilesNewFrame := by rw [hu]; rfl
  have htiles := u.statusNewFrame_copiesTiles
  dsimp only
  rw [hv]
  refine ⟨fun k => ?_, ⟨?_, ?_, ?_⟩, ?_, ?_⟩
  · obtain ⟨hfallback, hdegraded, hentry⟩ := htiles k
    have hactive : u.statusNewFrame.tilesNewFrame.builder.active = u.statusNewFrame.builder.active := by simp
    rw [State.tilesNewFrame_status, State.activeMark_congr hactive, State.activeBands_congr hactive,
      ← State.tile_congr hconfig, ← hengines]
    exact ⟨hfallback, hdegraded, hentry⟩
  all_goals
    rw [State.tilesNewFrame_status]
    simp [State.statusNewFrame, hno]

/-! ## What the ring processor's part leaves alone -/

/-- The copy, the page, the source unit, the capture inputs, the configuration, and the builder's active bank and counters
are as they were. -/
structure State.copyStays (v w : State) : Prop where
  status : w.status = v.status
  page : w.port.control[statusWriter] = v.port.control[statusWriter]
  sources : w.sources = v.sources
  inputs : w.inputs = v.inputs
  config : w.config = v.config
  bank : w.builder.active = v.builder.active ∧ w.builder.built = v.builder.built ∧ w.builder.failed = v.builder.failed

theorem State.copyStays.refl (s : State) : s.copyStays s := ⟨rfl, rfl, rfl, rfl, rfl, rfl, rfl, rfl⟩

theorem State.copyStays.trans {s t u : State} (h : s.copyStays t) (g : t.copyStays u) : s.copyStays u where
  status := g.status.trans h.status
  page := g.page.trans h.page
  sources := g.sources.trans h.sources
  inputs := g.inputs.trans h.inputs
  config := g.config.trans h.config
  bank := ⟨g.bank.1.trans h.bank.1, g.bank.2.1.trans h.bank.2.1, g.bank.2.2.trans h.bank.2.2⟩

theorem Builder.afterRaised_active (b : Builder) (old new : Groups) :
    (b.afterRaised old new).active = b.active ∧ (b.afterRaised old new).built = b.built ∧
      (b.afterRaised old new).failed = b.failed := by
  unfold Builder.afterRaised
  split <;> exact ⟨rfl, rfl, rfl⟩

theorem State.clearWork_copyStays (s : State) : s.copyStays s.clearWork.1 where
  status := s.clearWork_status
  page := by rw [s.clearWork_port]
  sources := s.clearWork_sources
  inputs := s.clearWork_inputs
  config := s.clearWork_config
  bank := by
    rw [s.clearWork_builder]
    exact Builder.afterRaised_active _ _ _

/-- Work on the ring processor that issues its transfers. -/
theorem State.ringWork_copyStays (s : State) (r : Ring) (ts : List Transfer) :
    s.copyStays ((s.withRing r).issue (.control ringProcessor) ts) where
  status := rfl
  page := State.issue_control_of_ne _ _ (by decide)
  sources := rfl
  inputs := rfl
  config := rfl
  bank := ⟨rfl, rfl, rfl⟩

theorem State.commitWith_hands (s : State) (n : Word) (found : List (Nat × Nat)) :
    ∃ w items, s.copyStays w ∧ s.commitWith n found = w.handItems items :=
  ⟨_, _, s.ringWork_copyStays _ _, rfl⟩

theorem State.commitGroup_hands (s : State) (n : Word) :
    ∃ w items, s.copyStays w ∧ s.commitGroup n = w.handItems items := by
  obtain ⟨w, items, hw, ht⟩ := s.clearWork.1.commitWith_hands n s.clearWork.2
  exact ⟨w, items, s.clearWork_copyStays.trans hw, ht⟩

theorem State.lookIn_copyStays (s : State) (cause : LookCause) :
    s.copyStays (s.lookIn cause) ∧ (s.lookIn cause).builder = s.builder := by
  unfold State.lookIn
  cases s.ring.state with
  | idle | collecting | skipping => exact ⟨s.ringWork_copyStays _ _, rfl⟩
  | awaitingCommit | writingBack => exact ⟨.refl s, rfl⟩

/-- The ring processor takes the start at once; when nothing commits, the builder stays as it is. -/
theorem State.ringFrame_hands {s : State} (hl : s.ring.look = .none) :
    ∃ w items, s.copyStays w ∧ (s.awaitsFrame = false → w.builder = s.builder) ∧ s.ringFrame = w.handItems items := by
  by_cases ha : s.awaitsFrame = true
  · obtain ⟨w, items, hw, ht⟩ := s.commitGroup_hands s.frameNo
    refine ⟨w, items, hw, fun hno => absurd ha (by simp [hno]), ?_⟩
    rw [← ht]
    simp [State.ringFrame, State.lookEvent, hl, State.takeLookEvent, State.ringTakesFrame, ha]
  · rw [Bool.not_eq_true] at ha
    obtain ⟨hw, hbuilder⟩ := s.lookIn_copyStays (.frame s.frameNo)
    exact ⟨_, [], hw, fun _ => hbuilder, State.ringFrame_looks hl ha⟩

/-- A wall frame start whose clears, if any, reach the builder after its swap: the blocks take it, and the ring processor
hands it to the source unit. -/
theorem State.frameAlone_handsCopy {s : State} (hl : s.ring.look = .none) {setFirst : Bool}
    (hf : ¬ (setFirst = true ∧ s.awaitsFrame = true)) (lastTile : Bool) :
    let v := s.frameBegun.blocksTakeFrame lastTile
    ∃ w items, v.copyStays w ∧ (s.groupCommits = false → s.awaitsFrame = false → w.builder = v.builder) ∧
      s.frameAlone setFirst lastTile = w.handItems items := by
  dsimp only
  obtain ⟨v, hv⟩ : ∃ v, v = s.frameBegun.blocksTakeFrame lastTile := ⟨_, rfl⟩
  have hring : v.ring = s.ring := by simp [hv]
  rw [← hv]
  by_cases hg : s.groupCommits = true
  · obtain ⟨w, items, hw, ht⟩ := v.commitGroup_hands (s.frameNo + 1)
    refine ⟨w, items, hw, fun hno => absurd hg (by simp [hno]), ?_⟩
    rw [State.frameAlone_group (s.groupCommits_eq.mp hg), ← hv, ht]
  · rw [Bool.not_eq_true] at hg
    obtain ⟨w, items, hw, hbuilder, ht⟩ := v.ringFrame_hands (by rw [hring, hl])
    refine ⟨w, items, hw, fun _ ha => hbuilder (by rwa [State.awaitsFrame, hring]), ?_⟩
    rw [State.frameAlone_blocksFirst hg hf, ← hv, ht]

/-! ## The source unit's part (R107, R123, R137, R141, R191) -/

theorem Source.older_zero (c : Source) : c.older 0 = c := (c.agedBy_eq_older 0).symm

/-- The entry of a source once the unit has begun a start: left to its header, or as its channel and input now stand. -/
theorem State.sourceStart_reports (s : State) (items : List SourceItem) (src : Fin 32) :
    let v := s.sourceStart ⟨true, items, 0⟩
    v.status.sources[src] =
      if src ∈ v.sources.toJudge then s.status.sources[src]
      else reportedEntry src (v.channel src) v.status.inputs[captureOf src] := by
  have hchannel := s.sourceStart_channel ⟨true, items, 0⟩ src
  have hentry := s.sourceStart_entry ⟨true, items, 0⟩ src
  simp only [State.mem_sourceStart_toJudge]
  dsimp only at hchannel hentry ⊢
  rw [Source.older_zero] at hchannel
  by_cases hreads : ((s.channel src).commit src items).readsHeader src = true
  · rw [hentry, if_pos hreads, if_pos hreads]
  · rw [hentry, if_neg hreads, if_neg hreads, hchannel, if_neg hreads]

/-- What commits resets an input and its entry together (R121, R123). -/
theorem State.sourceStart_reportsInputs {s : State} (h : ∀ k : Fin 16, s.status.inputs[k] = (s.inputs[k]).reported)
    (f : SourceFrame) (k : Fin 16) : (s.sourceStart f).status.inputs[k] = ((s.sourceStart f).inputs[k]).reported := by
  obtain ⟨hreset, hstays⟩ := s.sourceStart_statusInputs f k
  obtain ⟨hinitial, hkept⟩ := s.sourceStart_inputsTake f k
  by_cases hr : resetsInput f.items k
  · rw [hreset hr, (hinitial hr).1]
  · rw [hstays hr, (hkept hr).1, h k]

/-- The start that the source unit is handed and begins: the page is issued when no header is left to judge. -/
theorem State.handItems_copies {w : State} (hjudge : w.sources.toJudge = []) (hframes : w.sources.frames = [⟨false, [], 0⟩])
    (hinputs : ∀ k : Fin 16, w.status.inputs[k] = (w.inputs[k]).reported) (items : List SourceItem) :
    let t := w.handItems items
    (t.status =
        { w.status with
          next := t.status.next, raised := t.status.raised, alarms := t.status.alarms, inputs := t.status.inputs
          sources := t.status.sources }) ∧
      (∀ k : Fin 16, t.status.inputs[k] = (t.inputs[k]).reported) ∧
      (∀ src : Fin 32,
        t.status.sources[src] =
          if src ∈ t.sources.toJudge then w.status.sources[src]
          else reportedEntry src (t.channel src) (t.inputs[captureOf src]).reported) ∧
      t.port.control[statusWriter] =
        if t.sources.toJudge = [] then pageTransfers t.cfg.statusBase t.status else w.port.control[statusWriter] := by
  obtain ⟨x, hx⟩ : ∃ x, x = w.statusTakeRing.withSources { w.sources with frames := [] } := ⟨_, rfl⟩
  obtain ⟨v, hv⟩ : ∃ v, v = x.sourceStart ⟨true, items, 0⟩ := ⟨_, rfl⟩
  have hhands : w.handItems items = if v.sources.toJudge = [] then v.frameReady else v := by
    rw [hv, hx]
    exact State.handItems_begins_last hjudge hframes items
  have hframe : v.status = { x.status with inputs := v.status.inputs, sources := v.status.sources } := by
    rw [hv]
    exact congrArg State.status (x.sourceStart_frame ⟨true, items, 0⟩)
  have hrest : v.status =
      { w.status with
        next := v.status.next, raised := v.status.raised, alarms := v.status.alarms, inputs := v.status.inputs
        sources := v.status.sources } := by
    rw [hframe, hx]
    rfl
  have hcopied (k : Fin 16) : v.status.inputs[k] = (v.inputs[k]).reported := by
    rw [hv]
    exact State.sourceStart_reportsInputs (by rw [hx]; exact hinputs) _ k
  have hsources (src : Fin 32) : v.status.sources[src] =
      if src ∈ v.sources.toJudge then w.status.sources[src]
      else reportedEntry src (v.channel src) (v.inputs[captureOf src]).reported := by
    rw [← hcopied, hv, x.sourceStart_reports items src, hx]
    rfl
  have hpage : v.port.control[statusWriter] = w.port.control[statusWriter] := by
    rw [hv, State.sourceStart_controlQueue _ _ (by decide), hx]
    rfl
  dsimp only
  rw [hhands]
  by_cases hdone : v.sources.toJudge = []
  · rw [if_pos hdone]
    simp only [State.channel, State.frameReady_status, State.frameReady_inputs, State.frameReady_sources, State.cfg,
      State.frameReady_config]
    refine ⟨hrest, hcopied, hsources, ?_⟩
    rw [if_pos hdone]
    exact v.frameReady_page
  · rw [if_neg hdone]
    refine ⟨hrest, hcopied, hsources, ?_⟩
    rw [if_neg hdone, hpage]

/-! ## The build that completes right after the swap (R58) -/

/-- The tile in hand is the last one, and its table is kept in the shadow bank. -/
def State.completesBuild (s : State) (kind : BuildKind) (shadow : Bank) (k : Fin 16) (table : TileTable) : Prop :=
  shadow = s.builder.shadowBank ∧ (s.tile k).enable = true ∧
    (∃ n, s.builder.state = .building kind n ∧ n ≤ k.val ∧
      ∀ j : Fin 16, n ≤ j.val → j ≠ k → (s.tile j).enable = false) ∧
    buildTile kind (s.tile k) (match kind with | .group => s.ring.draft | .alarm => s.live) shadow.builtWith
      (poolAllowance s.cfg shadow k) = .kept table

/-- A tile is the only one left to a build when it is the next one and none follows it. -/
theorem nextTile_last_iff {cfg : Loaded} {n : Nat} {k : Fin 16} :
    nextTile cfg n = some k ∧ nextTile cfg (k.val + 1) = none ↔
      (cfg.tiles[k]).enable = true ∧ n ≤ k.val ∧ ∀ j : Fin 16, n ≤ j.val → j ≠ k → (cfg.tiles[j]).enable = false := by
  rw [nextTile_eq_some, nextTile_eq_none]
  constructor
  · rintro ⟨⟨⟨hn, hk⟩, hbefore⟩, hafter⟩
    refine ⟨hk, hn, fun j hj hne => ?_⟩
    rcases lt_or_gt_of_ne hne with hlt | hgt
    · exact hbefore j hj hlt
    · exact hafter j hgt
  · rintro ⟨hk, hn, hothers⟩
    exact ⟨⟨⟨hn, hk⟩, fun j hj hlt => hothers j hj hlt.ne⟩, fun j hj => hothers j (by omega) (by rintro rfl; omega)⟩

theorem State.completesBuild_iff {s : State} {kind : BuildKind} {shadow : Bank} {k : Fin 16} {table : TileTable} :
    s.completesBuild kind shadow k table ↔
      shadow = s.builder.shadowBank ∧ s.tileInHand = some (kind, k) ∧ nextTile s.cfg (k.val + 1) = none ∧
        s.tileResult kind k = .kept table := by
  have hresult : s.tileResult kind k =
      buildTile kind (s.tile k) (match kind with | .group => s.ring.draft | .alarm => s.live) s.builder.shadowBank.builtWith
        (poolAllowance s.cfg s.builder.shadowBank k) := by
    cases kind <;> rfl
  rw [State.tileInHand_eq_some, hresult]
  constructor
  · rintro ⟨rfl, hk, ⟨n, hb, hn, hothers⟩, hkept⟩
    obtain ⟨hnext, hlast⟩ := nextTile_last_iff.mpr ⟨hk, hn, hothers⟩
    exact ⟨rfl, ⟨n, hb, hnext⟩, hlast, hkept⟩
  · rintro ⟨rfl, ⟨n, hb, hnext⟩, hlast, hkept⟩
    obtain ⟨hk, hn, hothers⟩ := nextTile_last_iff.mp ⟨hnext, hlast⟩
    exact ⟨rfl, hk, ⟨n, hb, hn, hothers⟩, hkept⟩

theorem State.completeLate_completes {s : State} {kind : BuildKind} {shadow : Bank} {k : Fin 16} {table : TileTable}
    (h : s.completesBuild kind shadow k table) :
    s.completeLate.builder =
      { s.builder with
        state := .donePending kind
        shadow := some { shadow with tiles := vset shadow.tiles k (some table) } } := by
  obtain ⟨rfl, hhand, hlast, hkept⟩ := State.completesBuild_iff.mp h
  simp only [State.completeLate, hhand, hlast, hkept, State.keepTile, Bank.keep, State.withBuilder_builder]

theorem State.completeLate_stays {s : State} (h : ∀ kind shadow k table, ¬ s.completesBuild kind shadow k table) :
    s.completeLate = s := by
  rcases s.completeLate_cases with hsame | ⟨kind, k, table, hhand, hlast, hkept, -⟩
  · exact hsame
  · exact absurd (State.completesBuild_iff.mpr ⟨rfl, hhand, hlast, hkept⟩) (h kind _ k table)

/-- The builder once the blocks have taken a wall frame start with no bank to swap in. -/
theorem State.frameBegun_builder_late {s : State} (h : ∀ kind, s.builder.state ≠ .donePending kind) (lastTile : Bool) :
    (s.frameBegun.blocksTakeFrame lastTile).builder = (s.frameBegun.lateBuild lastTile).builder := by
  rw [State.blocksTakeFrame_noSwap (State.swapKind_none (s := s.frameBegun) h), State.tilesNewFrame_builder,
    State.statusNewFrame_builder]

/-- The builder once the blocks have taken a wall frame start: a bank that waits is swapped in, and else it is as it was, but
for a build that completes right after (R58, R59). -/
theorem State.blocksTakeFrame_builderCases (s : State) (lastTile : Bool) :
    let b := (s.frameBegun.blocksTakeFrame lastTile).builder
    (∀ kind, s.builder.state = .donePending kind → b.state = .idle) ∧
      ((∀ kind, s.builder.state ≠ .donePending kind) →
        (lastTile = false ∨ ∀ kind shadow k table, ¬ s.completesBuild kind shadow k table) → b.state = s.builder.state) ∧
      (lastTile = true → ∀ kind shadow k table, s.completesBuild kind shadow k table →
        b = { s.builder with
          state := .donePending kind
          shadow := some { shadow with tiles := vset shadow.tiles k (some table) } }) := by
  refine ⟨fun kind hb => ?_, fun hb hnone => ?_, ?_⟩
  · rw [(State.blocksTakeFrame_donePending (s := s.frameBegun) hb lastTile).1]
    rfl
  · rw [State.frameBegun_builder_late hb, State.lateBuild]
    rcases hnone with rfl | hnone
    · rfl
    · rw [State.completeLate_stays (s := s.frameBegun) hnone, ite_self]
      rfl
  · rintro rfl kind shadow k table hcompletes
    obtain ⟨n, hbuilding, -⟩ := hcompletes.2.2.1
    rw [State.frameBegun_builder_late (by simp [hbuilding]), State.lateBuild, if_pos rfl]
    exact State.completeLate_completes (s := s.frameBegun) hcompletes

/-- Settles O57: the blocks leave the copy of the builder and the tiles, the ring processor leaves it alone and hands the
start to the source unit, and that adds the rest of the copy and issues the page. -/
theorem statusWriterCopiesTheFrame : Obligations.StatusWriterCopiesTheFrame := by
  intro order s hi ⟨hr, hframes, hjudge, hlook⟩ hfirst completes
  have hf : ¬ (order.setFirst = true ∧ s.awaitsFrame = true) := fun ⟨hset, ha⟩ => by
    obtain ⟨hstate, hedits⟩ := s.awaitsFrame_eq.mp ha
    exact absurd (hfirst hset hstate) (by simp [hedits])
  obtain ⟨w, items, hw, hsame, ht⟩ := State.frameAlone_handsCopy hlook hf order.lastTile
  obtain ⟨hidle, hstays, hcompleted⟩ := s.blocksTakeFrame_builderCases order.lastTile
  obtain ⟨htiles, ⟨hwith, hbuilt, hfailed⟩, hno, hstate⟩ := s.frameBegun.blocksTakeFrame_copies order.lastTile
  obtain ⟨v, hv⟩ : ∃ v, v = s.frameBegun.blocksTakeFrame order.lastTile := ⟨_, rfl⟩
  obtain ⟨hsources, -, hpage, -, -⟩ : s.frameTaken v :=
    hv ▸ State.blocksTakeFrame_frameTaken (s := s) (c := s.frameBegun) rfl rfl order.lastTile
  have hentries : v.status.sources = s.status.sources := by
    obtain ⟨-, -, -, hsources, -⟩ := s.frameBegun.blocksTakeFrame_sourceSideStays order.lastTile
    rw [hv, hsources]
    rfl
  have hreported (k : Fin 16) : v.status.inputs[k] = (v.inputs[k]).reported := by
    rw [hv, State.blocksTakeFrame_statusInputs, State.blocksTakeFrame_inputs]
  rw [← hv] at hw hsame htiles hwith hbuilt hfailed hno hstate hidle hstays hcompleted
  obtain ⟨hstatus, hinputs, hreports, hissued⟩ := State.handItems_copies (w := w)
    (by rw [hw.sources, hsources, hjudge]) (by rw [hw.sources, hsources, hframes]; rfl)
    (by rw [hw.status, hw.inputs]; exact hreported) items
  obtain ⟨hnext, hraised, halarms⟩ := w.handItems_copiesRing items
  have hbuilder : (w.handItems items).builder = w.builder := w.handItems_builder items
  obtain ⟨hactive, hsameBuilt, hsameFailed⟩ := hw.bank
  rw [hw.status] at hstatus hreports
  rw [hw.page, hpage] at hissued
  rw [← w.handItems_ring items] at hnext
  rw [← w.handItems_alarms items] at hraised halarms
  rw [← hbuilder] at hactive hsameBuilt hsameFailed hsame
  refine ⟨_, exec_wallFrameStart_alone hi hr, ?_⟩
  rw [ht]
  generalize w.handItems items = t at *
  have hshown : t.status.builder = v.builder.state := (congrArg StatusCopy.builder hstatus).trans hstate
  refine ⟨⟨fun kind hb => hshown.trans (hidle kind hb), fun hb hnone => hshown.trans (hstays hb hnone),
    fun hlast kind shadow k table hcompletes => ?_⟩, ⟨?_, hnext, hraised, halarms, ?_, ?_, ?_⟩, fun k => ?_, hinputs,
    fun src => ?_, hissued⟩
  · have hb := hcompleted hlast kind shadow k table hcompletes
    obtain ⟨n, hbuilding, -⟩ := hcompletes.2.2.1
    have hg : s.groupCommits = false := by
      rw [Bool.eq_false_iff, ne_eq, State.groupCommits_eq, hbuilding]
      exact BuilderState.noConfusion
    have ha (hedits : s.ring.state = .awaitingCommit → s.ring.edits = true) : s.awaitsFrame = false := by
      rw [Bool.eq_false_iff, ne_eq, State.awaitsFrame_eq]
      exact fun ⟨hawaits, hnone⟩ => absurd (hedits hawaits) (by simp [hnone])
    exact ⟨by rw [hshown, hb], fun hedits => (hsame hg (ha hedits)).trans hb⟩
  · exact (congrArg StatusCopy.number hstatus).trans hno
  · rw [hactive]
    exact (congrArg StatusCopy.builtWith hstatus).trans hwith
  · exact ((congrArg StatusCopy.built hstatus).trans hbuilt).trans hsameBuilt.symm
  · exact ((congrArg StatusCopy.failed hstatus).trans hfailed).trans hsameFailed.symm
  · obtain ⟨hfallback, hdegraded, hentry⟩ := htiles k
    rw [State.activeMark_congr hactive, State.activeBands_congr hactive, congrArg StatusCopy.fallback hstatus,
      congrArg StatusCopy.degraded hstatus, congrArg StatusCopy.tiles hstatus]
    exact ⟨hfallback, hdegraded, hentry⟩
  · rw [hreports, hentries]

end Sys2Proof.Machine
end
